-- ==== Sys2Proof/Config.lean ====
section
/-! DEFINITION. What the device's maker fixes: the fixed times of the manual in ms, the fixed codes of the
record port, and the one value the manual leaves to the silicon (a free value). -/
namespace Sys2Proof.Config

/-- The silicon revision of READ IDENTITY, "a number from 1 to 255" (R185): a FREE VALUE, less one. Log 23. -/
opaque siliconRevisionLessOne : Fin 255

/-- R185: the silicon revision. -/
def siliconRevision : Nat := siliconRevisionLessOne.val + 1

/-- R185. -/
def vendorCode : Nat := 0x4642
/-- R185. -/
def partCode : Nat := 416
/-- R185, R187: the image format the device writes and accepts. -/
def imageFormat : Nat := 3

/-- R180. -/
def readyByte : BitVec 8 := 0xA5
/-- R180. -/
def notReadyByte : BitVec 8 := 0x5A
/-- R179, R180: what the device sends in every other byte clocked. -/
def fillByte : BitVec 8 := 0xFF

/-- R27: the departure window. -/
def departureMs : Nat := 600
/-- R27: the cam debounce. -/
def camDebounceMs : Nat := 20
/-- R29: an opening confirmed this soon after an energizing counts from the energizing. -/
def offHomeOpenMs : Nat := 20
/-- R40: the fit-check pulse. -/
def fitPulseMs : Nat := 150
/-- R34, R40: samples are judged from this long after the energizing. -/
def settleMs : Nat := 50
/-- R34, R40: the motor-current threshold for each motor, in mA. -/
def motorThresholdMa : Int := 40
/-- R34: the run of low samples that ends a unit. -/
def openCoilRun : Nat := 10
/-- R92. -/
def replyMs : Nat := 15
/-- R93. -/
def identifyMs : Nat := 500
/-- R93: the miss count that takes the link ABSENT. -/
def missLimit : Nat := 3
/-- R103. -/
def coinMs : Nat := 1000
/-- R116. -/
def chuteWindowMs : Nat := 300
/-- R114. -/
def maxPlanLines : Nat := 24
/-- R78. -/
def maxTendered : Nat := 16
/-- R47. -/
def maxOrders : Nat := 8
/-- R130, R136: a minute. -/
def minuteMs : Nat := 60000
/-- R132. -/
def dripMs : Nat := 120000
/-- R152. -/
def fanRunOnMs : Nat := 60000
/-- R150, R151: the failures that lock the compressor out. -/
def lockoutCount : Nat := 3
/-- R149, R167: the debounce of the confirm input and of the supervised inputs. -/
def inputDebounceMs : Nat := 50
/-- R157. -/
def conversionMs : Nat := 2
/-- R159. -/
def priorityMs : Nat := 10
/-- R188. -/
def saveRetryMs : Nat := 10
/-- R190. -/
def restartMs : Nat := 100
/-- R185. -/
def secondMs : Nat := 1000
/-- R186: a page of the image memory. -/
def pageBytes : Nat := 32
/-- R186: the image memory is "at least 8 KiB"; the model's has this many bytes. DESIGN CHOICE, log 8. -/
def memoryBytes : Nat := 8192
/-- What a byte of the image memory that nothing has written reads as. DESIGN CHOICE, log 8, unsafe. -/
def blankByte : BitVec 8 := 0xFF

end Sys2Proof.Config
end

