-- ==== Sys2Proof/Word.lean ====
section
/-! DEFINITION. The words of the GN416: the byte of every frame and of the image memory, and the two 16-bit
sets the host reads and writes whole (the condition set and the mask, R182). -/
namespace Sys2Proof

/-- A byte of a frame, of a reply body or of the image memory. -/
abbrev Byte := BitVec 8

/-- A 16-bit word: a set of conditions (R182) or a restock stamp (R13). -/
abbrev Word16 := BitVec 16

end Sys2Proof
end

