-- ==== Sys2Proof/Syntax.lean ====
section
/-! DEFINITION. The commands of the GN416: one constructor for each row of spec/opcode_table.json.
A request's operands are the fields of its body in the request table of 11.6, each as the number the frame
carries (a byte or a two-byte field, a temperature as a signed number of tenths); an enumerated operand is
its code, so that a code outside the enumeration can be sent and refused.  A field that a present set may
leave out is an Option; a field that may be absent is an Option inside it. -/
namespace Sys2Proof

/-- The level of a line (R167, R149), in the order the manual names them. -/
inductive Level where
  | high
  | low
  deriving DecidableEq, Repr

/-- The two positions of a spiral motor's cam switch (R27). -/
inductive CamLevel where
  | opened
  | closed
  deriving DecidableEq, Repr

/-- The four supervised inputs, in the order of AMEND INPUT's codes (R167, 11.6). -/
inductive InputName where
  | door
  | cashbox
  | flap
  | aux
  deriving DecidableEq, Repr

/-- The settings ENROL LANE gives, in the order of R9. -/
structure LaneSettings where
  product : Nat
  price : Nat
  capacity : Nat
  stock : Nat
  zone : Nat
  laneClass : Nat
  companion : Option Nat
  turns : Nat
  extraTurns : Nat
  dropCheck : Nat
  deriving DecidableEq, Repr

/-- The fields AMEND LANE may name, in the order of R10. -/
structure LaneAmend where
  product : Option Nat
  price : Option Nat
  capacity : Option Nat
  zone : Option Nat
  laneClass : Option Nat
  companion : Option (Option Nat)
  turns : Option Nat
  extraTurns : Option Nat
  dropCheck : Option Nat
  base : Option Nat
  jams : Option Nat
  sales : Option Nat
  deriving DecidableEq, Repr

/-- The fields AMEND DRIVE may name (R44); the times in 0.1 s. -/
structure DriveAmend where
  turnLimit : Option Nat
  dropWindow : Option Nat
  strayCount : Option Nat
  deriving DecidableEq, Repr

/-- The fields of PLACE ORDER (R50, 11.6): `target` is the lane or the product code as `choice` says. -/
structure Placement where
  tag : Nat
  choice : Nat
  target : Nat
  quantity : Nat
  payment : Nat
  flags : Nat
  deriving DecidableEq, Repr

/-- The fields AMEND CLASS may name (R96). -/
structure ClassAmend where
  value : Option Nat
  enabled : Option Nat
  deriving DecidableEq, Repr

/-- The fields AMEND TUBE may name (R112). -/
structure TubeAmend where
  boundClass : Option (Option Nat)
  capacity : Option Nat
  state : Option Nat
  deriving DecidableEq, Repr

/-- The fields AMEND PAYOUT may name (R123). -/
structure PayoutAmend where
  onTime : Option Nat
  gap : Option Nat
  strayCount : Option Nat
  deriving DecidableEq, Repr

/-- The fields AMEND LINK may name (R106). -/
structure LinkAmend where
  pollPeriod : Option Nat
  faultCount : Option Nat
  deriving DecidableEq, Repr

/-- The fields AMEND ZONE may name, in the order of R133; temperatures in tenths of a degree. -/
structure ZoneAmend where
  enabled : Option Nat
  setPoint : Option Int
  differential : Option Int
  warmLimit : Option Int
  holdChilled : Option Nat
  allowance : Option Nat
  defrostInterval : Option Nat
  defrostEnd : Option Int
  defrostMax : Option Nat
  powerLossCharge : Option Nat
  deriving DecidableEq, Repr

/-- The settings AMEND COMPRESSOR may name, in the order of R153. -/
structure CompressorAmend where
  minRest : Option Nat
  minRun : Option Nat
  startWindow : Option Nat
  confirmMode : Option Nat
  confirmPolarity : Option Nat
  hotLimit : Option Int
  deriving DecidableEq, Repr

/-- The settings AMEND CHANNEL may name (R165). -/
structure ChannelAmend where
  curve : Option Nat
  offset : Option Int
  enabled : Option Nat
  deriving DecidableEq, Repr

/-- The settings AMEND LOAD may name (R177); thresholds in tenths of a volt. -/
structure LoadAmend where
  budget : Option Nat
  lowThreshold : Option Nat
  criticalThreshold : Option Nat
  deriving DecidableEq, Repr

/-- The commands: the 98 rows of spec/opcode_table.json. -/
inductive Instr where
  -- lane table (01)
  | readLane (form lane : Nat)
  | findProduct (code : Nat)
  | enrolLane (lane : Nat) (given : LaneSettings)
  | amendLane (lane : Nat) (named : LaneAmend)
  | restockLane (lane stock : Nat)
  | checkLane (lane : Nat)
  | retireLane (lane : Nat)
  -- spiral drive (02)
  | readDrive
  | amendDrive (named : DriveAmend)
  -- order queue (03)
  | placeOrder (given : Placement)
  | readOrder (tag : Nat)
  | readQueue
  | retireOrder (tag : Nat)
  | holdQueue
  | resumeQueue
  | haltDrive
  | resumeDrive
  | skipOrder (tag : Nat)
  | clearQueue
  -- credit (04)
  | readCredit
  | amendCreditLimit (maxCredit : Nat)
  | refund
  -- coin acceptance (05)
  | readClass
  | amendClass (coinClass : Nat) (named : ClassAmend)
  | readCashbox
  | clearCashbox
  -- tubes and payout (06)
  | readTube
  | amendTube (tube : Nat) (named : TubeAmend)
  | setTubeCount (tube count : Nat)
  | dispense (tube coins : Nat)
  | readPayout
  | amendPayout (named : PayoutAmend)
  | readLink
  | amendLink (named : LinkAmend)
  -- zones (07)
  | readZone (zone : Nat)
  | amendZone (zone : Nat) (named : ZoneAmend)
  | startDefrost (zone : Nat)
  -- compressor (08)
  | readCompressor
  | amendCompressor (named : CompressorAmend)
  | clearLockout
  -- scanner and inputs (09)
  | readSample (channel : Nat)
  | scanNow
  | amendChannel (channel : Nat) (named : ChannelAmend)
  | amendScan (period : Nat)
  | readInputs
  | amendInput (input level : Nat)
  -- load budget (10)
  | readLoad
  | amendLoad (named : LoadAmend)
  -- record port (11)
  | readConditions
  | clearConditions (named : Word16)
  | amendMask (mask : Word16)
  | saveImage
  | restart
  | readIdentity
  | badFrame (bytes : List Byte)
  | unknownRequest (bytes : List Byte)
  | fetchReply (clocked : Nat)
  | requestDiscarded (bytes : List Byte)
  | powerOn
  | resetPin
  | resetRelease
  | restartTimeout
  | startupEnd (memoryAnswers : Bool)
  | secondTick
  | savePageWritten (acknowledged : Bool)
  | saveRetryTimer
  -- drive events
  | camLineEdge (level : CamLevel)
  | camConfirm
  | departureTimeout
  | turnTimerExpiry
  | beamBreak
  | dropWindowExpiry
  | fitPulseEnd
  -- coin link events
  | linkSlot
  | identifyTimer
  | linkFrame (bytes : List Byte) (framingError : Bool)
  | linkReplyTimeout
  | coinTimeout
  -- payout events
  | pulseOnEnd
  | pulseGapEnd
  | chuteWindowClose
  | chuteCount
  -- zone timers
  | sinceDefrostTimer (zone : Fin 2)
  | defrostTimer (zone : Fin 2)
  | dripTimer (zone : Fin 2)
  | zoneMinuteTimer (zone : Fin 2)
  -- compressor events
  | restTimer
  | startTimer
  | confirmLineEdge (level : Level)
  | confirmChange
  | runTimer
  | fanRunonTimer
  -- scanner and input events
  | periodTimer
  | priorityTimer
  | conversionEnd (reading : Nat)
  | inputLineEdge (input : InputName) (level : Level)
  | inputChange (input : InputName)
  | linkFirstByte
  deriving DecidableEq, Repr

end Sys2Proof
end

