-- ==== Sys2Proof/Decode.lean ====
section
/-! DEFINITION. Words and frames as commands: the table's (empty) bit encodings, and the record port's
chip-selects: the CRCs, the field encodings of 11.6, the judging of a chip-select by R179 and the frame
of each request. -/
namespace Sys2Proof

/-- No row of spec/opcode_table.json gives any bits, so no word spells a command. -/
def decodeTableWord (_nbits _w : Nat) : Option Instr := none

/-! ### CRC-8 and CRC-16 (R179, R186) -/

/-- One bit of the CRC-8: polynomial x⁸ + x² + x + 1, no reflection. -/
def crc8Bit (c : BitVec 8) : BitVec 8 := if c.msb then (c <<< 1) ^^^ 0x07#8 else c <<< 1

/-- One byte of the CRC-8. -/
def crc8Byte (c b : BitVec 8) : BitVec 8 :=
  crc8Bit (crc8Bit (crc8Bit (crc8Bit (crc8Bit (crc8Bit (crc8Bit (crc8Bit (c ^^^ b))))))))

/-- R179: the CRC-8, initial value 0xFF, no final inversion. -/
def crc8 (bytes : List Byte) : BitVec 8 := bytes.foldl crc8Byte 0xFF#8

/-- One bit of the CRC-16: polynomial x¹⁶ + x¹² + x⁵ + 1, no reflection. -/
def crc16Bit (c : BitVec 16) : BitVec 16 := if c.msb then (c <<< 1) ^^^ 0x1021#16 else c <<< 1

/-- One byte of the CRC-16. -/
def crc16Byte (c : BitVec 16) (b : BitVec 8) : BitVec 16 :=
  crc16Bit (crc16Bit (crc16Bit (crc16Bit (crc16Bit (crc16Bit (crc16Bit (crc16Bit
    (c ^^^ (b.setWidth 16 <<< 8)))))))))

/-- R186: the CRC-16, initial value 0xFFFF, no final inversion. -/
def crc16 (bytes : List Byte) : BitVec 16 := bytes.foldl crc16Byte 0xFFFF#16

/-! ### Field encodings (11.6): "Every multi-byte field is sent most significant byte first." -/

/-- A one-byte field. -/
def u8 (n : Nat) : List Byte := [BitVec.ofNat 8 n]

/-- A two-byte field. -/
def u16 (n : Nat) : List Byte := [BitVec.ofNat 8 (n / 256), BitVec.ofNat 8 n]

/-- A four-byte field. -/
def u32 (n : Nat) : List Byte := u16 (n / 65536) ++ u16 n

/-- A signed two-byte field (temperatures). -/
def i16 (t : Int) : List Byte := u16 (t % 65536).toNat

/-- A one-byte number, absent 0xFF. -/
def optU8 (n : Option Nat) : List Byte := u8 (n.getD 0xFF)

/-- The number of a two-byte field. -/
def n16 (hi lo : Byte) : Nat := 256 * hi.toNat + lo.toNat

/-- The signed number of a two-byte field. -/
def s16 (hi lo : Byte) : Int := if n16 hi lo < 32768 then n16 hi lo else (n16 hi lo : Int) - 65536

/-- A one-byte number whose 0xFF is absent. -/
def numOrAbsent (b : Byte) : Option Nat := if b = 0xFF#8 then none else some b.toNat

/-- The present set of a request's list: bit k set when the k-th field is named. -/
def presentBits : List Bool → Nat
  | [] => 0
  | b :: bs => b.toNat + 2 * presentBits bs

/-- The named fields' bytes: nothing for a field that is not named. -/
def namedU8 (n : Option Nat) : List Byte := (n.map u8).getD []
/-- As namedU8, two bytes. -/
def namedU16 (n : Option Nat) : List Byte := (n.map u16).getD []
/-- As namedU8, a temperature. -/
def namedI16 (t : Option Int) : List Byte := (t.map i16).getD []
/-- As namedU8, a number that may be absent. -/
def namedOptU8 (n : Option (Option Nat)) : List Byte := (n.map optU8).getD []

/-- Reads a one-byte field when it is named. -/
def readU8 (named : Bool) (bs : List Byte) : Option (Option Nat × List Byte) :=
  match named, bs with
  | false, bs => some (none, bs)
  | true, b :: bs => some (some b.toNat, bs)
  | true, [] => none

/-- Reads a two-byte field when it is named. -/
def readU16 (named : Bool) (bs : List Byte) : Option (Option Nat × List Byte) :=
  match named, bs with
  | false, bs => some (none, bs)
  | true, hi :: lo :: bs => some (some (n16 hi lo), bs)
  | true, _ => none

/-- Reads a temperature when it is named. -/
def readI16 (named : Bool) (bs : List Byte) : Option (Option Int × List Byte) :=
  match named, bs with
  | false, bs => some (none, bs)
  | true, hi :: lo :: bs => some (some (s16 hi lo), bs)
  | true, _ => none

/-- Reads a number that may be absent when it is named. -/
def readOptU8 (named : Bool) (bs : List Byte) : Option (Option (Option Nat) × List Byte) :=
  match named, bs with
  | false, bs => some (none, bs)
  | true, b :: bs => some (some (numOrAbsent b), bs)
  | true, [] => none

/-- The body is read to its end, and the present set names no field past the list's `n`: else the body does
not match the layout (R179.3; a bit past the list, log 10). -/
def whole (present n : Nat) (rest : List Byte) (c : Instr) : Option Instr :=
  if rest = [] ∧ present < 2 ^ n then some c else none

/-! ### Request bodies with a present set -/

/-- The list of LaneAmend's fields as named or not, in the order of R10. -/
def LaneAmend.marks (a : LaneAmend) : List Bool :=
  [a.product.isSome, a.price.isSome, a.capacity.isSome, a.zone.isSome, a.laneClass.isSome,
   a.companion.isSome, a.turns.isSome, a.extraTurns.isSome, a.dropCheck.isSome, a.base.isSome,
   a.jams.isSome, a.sales.isSome]

/-- AMEND LANE's present set and fields; the jam count in 1 byte (log 9). -/
def LaneAmend.bytes (a : LaneAmend) : List Byte :=
  u16 (presentBits a.marks) ++ namedU16 a.product ++ namedU16 a.price ++ namedU8 a.capacity ++
  namedU8 a.zone ++ namedU8 a.laneClass ++ namedOptU8 a.companion ++ namedU8 a.turns ++
  namedU8 a.extraTurns ++ namedU8 a.dropCheck ++ namedU8 a.base ++ namedU8 a.jams ++ namedU16 a.sales

/-- AMEND LANE's fields, read by present set `p`. -/
def readLaneAmend (lane p : Nat) (bs : List Byte) : Option Instr := do
  let (product, bs) ← readU16 (p.testBit 0) bs
  let (price, bs) ← readU16 (p.testBit 1) bs
  let (capacity, bs) ← readU8 (p.testBit 2) bs
  let (zone, bs) ← readU8 (p.testBit 3) bs
  let (laneClass, bs) ← readU8 (p.testBit 4) bs
  let (companion, bs) ← readOptU8 (p.testBit 5) bs
  let (turns, bs) ← readU8 (p.testBit 6) bs
  let (extraTurns, bs) ← readU8 (p.testBit 7) bs
  let (dropCheck, bs) ← readU8 (p.testBit 8) bs
  let (base, bs) ← readU8 (p.testBit 9) bs
  let (jams, bs) ← readU8 (p.testBit 10) bs
  let (sales, bs) ← readU16 (p.testBit 11) bs
  whole p 12 bs (.amendLane lane ⟨product, price, capacity, zone, laneClass, companion, turns, extraTurns,
    dropCheck, base, jams, sales⟩)

/-- AMEND DRIVE's body (R44). -/
def DriveAmend.bytes (a : DriveAmend) : List Byte :=
  u16 (presentBits [a.turnLimit.isSome, a.dropWindow.isSome, a.strayCount.isSome]) ++
  namedU8 a.turnLimit ++ namedU8 a.dropWindow ++ namedU16 a.strayCount

/-- AMEND DRIVE's fields. -/
def readDriveAmend (p : Nat) (bs : List Byte) : Option Instr := do
  let (turnLimit, bs) ← readU8 (p.testBit 0) bs
  let (dropWindow, bs) ← readU8 (p.testBit 1) bs
  let (strayCount, bs) ← readU16 (p.testBit 2) bs
  whole p 3 bs (.amendDrive ⟨turnLimit, dropWindow, strayCount⟩)

/-- AMEND CLASS's present set and fields (R96). -/
def ClassAmend.bytes (a : ClassAmend) : List Byte :=
  u16 (presentBits [a.value.isSome, a.enabled.isSome]) ++ namedU16 a.value ++ namedU8 a.enabled

/-- AMEND CLASS's fields. -/
def readClassAmend (c p : Nat) (bs : List Byte) : Option Instr := do
  let (value, bs) ← readU16 (p.testBit 0) bs
  let (enabled, bs) ← readU8 (p.testBit 1) bs
  whole p 2 bs (.amendClass c ⟨value, enabled⟩)

/-- AMEND TUBE's present set and fields (R112). -/
def TubeAmend.bytes (a : TubeAmend) : List Byte :=
  u16 (presentBits [a.boundClass.isSome, a.capacity.isSome, a.state.isSome]) ++
  namedOptU8 a.boundClass ++ namedU8 a.capacity ++ namedU8 a.state

/-- AMEND TUBE's fields. -/
def readTubeAmend (t p : Nat) (bs : List Byte) : Option Instr := do
  let (boundClass, bs) ← readOptU8 (p.testBit 0) bs
  let (capacity, bs) ← readU8 (p.testBit 1) bs
  let (state, bs) ← readU8 (p.testBit 2) bs
  whole p 3 bs (.amendTube t ⟨boundClass, capacity, state⟩)

/-- AMEND PAYOUT's body (R123). -/
def PayoutAmend.bytes (a : PayoutAmend) : List Byte :=
  u16 (presentBits [a.onTime.isSome, a.gap.isSome, a.strayCount.isSome]) ++
  namedU16 a.onTime ++ namedU16 a.gap ++ namedU16 a.strayCount

/-- AMEND PAYOUT's fields. -/
def readPayoutAmend (p : Nat) (bs : List Byte) : Option Instr := do
  let (onTime, bs) ← readU16 (p.testBit 0) bs
  let (gap, bs) ← readU16 (p.testBit 1) bs
  let (strayCount, bs) ← readU16 (p.testBit 2) bs
  whole p 3 bs (.amendPayout ⟨onTime, gap, strayCount⟩)

/-- AMEND LINK's body (R106); the fault count in 1 byte (log 9). -/
def LinkAmend.bytes (a : LinkAmend) : List Byte :=
  u16 (presentBits [a.pollPeriod.isSome, a.faultCount.isSome]) ++ namedU16 a.pollPeriod ++ namedU8 a.faultCount

/-- AMEND LINK's fields; the fault count in 1 byte (log 9). -/
def readLinkAmend (p : Nat) (bs : List Byte) : Option Instr := do
  let (pollPeriod, bs) ← readU16 (p.testBit 0) bs
  let (faultCount, bs) ← readU8 (p.testBit 1) bs
  whole p 2 bs (.amendLink ⟨pollPeriod, faultCount⟩)

/-- The list of ZoneAmend's fields as named or not, in the order of R133. -/
def ZoneAmend.marks (a : ZoneAmend) : List Bool :=
  [a.enabled.isSome, a.setPoint.isSome, a.differential.isSome, a.warmLimit.isSome, a.holdChilled.isSome,
   a.allowance.isSome, a.defrostInterval.isSome, a.defrostEnd.isSome, a.defrostMax.isSome,
   a.powerLossCharge.isSome]

/-- AMEND ZONE's present set and fields. -/
def ZoneAmend.bytes (a : ZoneAmend) : List Byte :=
  u16 (presentBits a.marks) ++ namedU8 a.enabled ++ namedI16 a.setPoint ++ namedI16 a.differential ++
  namedI16 a.warmLimit ++ namedU8 a.holdChilled ++ namedU16 a.allowance ++ namedU16 a.defrostInterval ++
  namedI16 a.defrostEnd ++ namedU16 a.defrostMax ++ namedU16 a.powerLossCharge

/-- AMEND ZONE's fields. -/
def readZoneAmend (z p : Nat) (bs : List Byte) : Option Instr := do
  let (enabled, bs) ← readU8 (p.testBit 0) bs
  let (setPoint, bs) ← readI16 (p.testBit 1) bs
  let (differential, bs) ← readI16 (p.testBit 2) bs
  let (warmLimit, bs) ← readI16 (p.testBit 3) bs
  let (holdChilled, bs) ← readU8 (p.testBit 4) bs
  let (allowance, bs) ← readU16 (p.testBit 5) bs
  let (defrostInterval, bs) ← readU16 (p.testBit 6) bs
  let (defrostEnd, bs) ← readI16 (p.testBit 7) bs
  let (defrostMax, bs) ← readU16 (p.testBit 8) bs
  let (powerLossCharge, bs) ← readU16 (p.testBit 9) bs
  whole p 10 bs (.amendZone z ⟨enabled, setPoint, differential, warmLimit, holdChilled, allowance,
    defrostInterval, defrostEnd, defrostMax, powerLossCharge⟩)

/-- AMEND COMPRESSOR's body (R153). -/
def CompressorAmend.bytes (a : CompressorAmend) : List Byte :=
  u16 (presentBits [a.minRest.isSome, a.minRun.isSome, a.startWindow.isSome, a.confirmMode.isSome,
    a.confirmPolarity.isSome, a.hotLimit.isSome]) ++
  namedU16 a.minRest ++ namedU16 a.minRun ++ namedU16 a.startWindow ++ namedU8 a.confirmMode ++
  namedU8 a.confirmPolarity ++ namedI16 a.hotLimit

/-- AMEND COMPRESSOR's fields. -/
def readCompressorAmend (p : Nat) (bs : List Byte) : Option Instr := do
  let (minRest, bs) ← readU16 (p.testBit 0) bs
  let (minRun, bs) ← readU16 (p.testBit 1) bs
  let (startWindow, bs) ← readU16 (p.testBit 2) bs
  let (confirmMode, bs) ← readU8 (p.testBit 3) bs
  let (confirmPolarity, bs) ← readU8 (p.testBit 4) bs
  let (hotLimit, bs) ← readI16 (p.testBit 5) bs
  whole p 6 bs (.amendCompressor ⟨minRest, minRun, startWindow, confirmMode, confirmPolarity, hotLimit⟩)

/-- AMEND CHANNEL's present set and fields (R165). -/
def ChannelAmend.bytes (a : ChannelAmend) : List Byte :=
  u16 (presentBits [a.curve.isSome, a.offset.isSome, a.enabled.isSome]) ++
  namedU8 a.curve ++ namedI16 a.offset ++ namedU8 a.enabled

/-- AMEND CHANNEL's fields. -/
def readChannelAmend (c p : Nat) (bs : List Byte) : Option Instr := do
  let (curve, bs) ← readU8 (p.testBit 0) bs
  let (offset, bs) ← readI16 (p.testBit 1) bs
  let (enabled, bs) ← readU8 (p.testBit 2) bs
  whole p 3 bs (.amendChannel c ⟨curve, offset, enabled⟩)

/-- AMEND LOAD's body (R177). -/
def LoadAmend.bytes (a : LoadAmend) : List Byte :=
  u16 (presentBits [a.budget.isSome, a.lowThreshold.isSome, a.criticalThreshold.isSome]) ++
  namedU8 a.budget ++ namedU16 a.lowThreshold ++ namedU16 a.criticalThreshold

/-- AMEND LOAD's fields. -/
def readLoadAmend (p : Nat) (bs : List Byte) : Option Instr := do
  let (budget, bs) ← readU8 (p.testBit 0) bs
  let (lowThreshold, bs) ← readU16 (p.testBit 1) bs
  let (criticalThreshold, bs) ← readU16 (p.testBit 2) bs
  whole p 3 bs (.amendLoad ⟨budget, lowThreshold, criticalThreshold⟩)

/-! ### The request table of 11.6 -/

/-- The request code and body of a request; none for a command that is no request. -/
def requestCode : Instr → Option (Nat × List Byte)
  | .readLane form lane => some (0x10, u8 form ++ u8 lane)
  | .findProduct code => some (0x11, u16 code)
  | .enrolLane lane g => some (0x12, u8 lane ++ u16 g.product ++ u16 g.price ++ u8 g.capacity ++ u8 g.stock ++
      u8 g.zone ++ u8 g.laneClass ++ optU8 g.companion ++ u8 g.turns ++ u8 g.extraTurns ++ u8 g.dropCheck)
  | .amendLane lane a => some (0x13, u8 lane ++ a.bytes)
  | .restockLane lane stock => some (0x14, u8 lane ++ u8 stock)
  | .checkLane lane => some (0x15, u8 lane)
  | .retireLane lane => some (0x16, u8 lane)
  | .readDrive => some (0x18, [])
  | .amendDrive a => some (0x19, a.bytes)
  | .placeOrder p => some (0x20, u8 p.tag ++ u8 p.choice ++ u16 p.target ++ u8 p.quantity ++ u8 p.payment ++
      u8 p.flags)
  | .readOrder tag => some (0x21, u8 tag)
  | .readQueue => some (0x22, [])
  | .retireOrder tag => some (0x23, u8 tag)
  | .holdQueue => some (0x24, [])
  | .resumeQueue => some (0x25, [])
  | .haltDrive => some (0x26, [])
  | .resumeDrive => some (0x27, [])
  | .skipOrder tag => some (0x28, u8 tag)
  | .clearQueue => some (0x29, [])
  | .readCredit => some (0x30, [])
  | .amendCreditLimit m => some (0x31, u16 m)
  | .refund => some (0x32, [])
  | .readClass => some (0x33, [])
  | .amendClass c a => some (0x34, u8 c ++ a.bytes)
  | .readCashbox => some (0x35, [])
  | .clearCashbox => some (0x36, [])
  | .readTube => some (0x37, [])
  | .amendTube t a => some (0x38, u8 t ++ a.bytes)
  | .setTubeCount t n => some (0x39, u8 t ++ u8 n)
  | .dispense t n => some (0x3A, u8 t ++ u8 n)
  | .readPayout => some (0x3B, [])
  | .amendPayout a => some (0x3C, a.bytes)
  | .readLink => some (0x3D, [])
  | .amendLink a => some (0x3E, a.bytes)
  | .readZone z => some (0x50, u8 z)
  | .amendZone z a => some (0x51, u8 z ++ a.bytes)
  | .startDefrost z => some (0x52, u8 z)
  | .readCompressor => some (0x53, [])
  | .amendCompressor a => some (0x54, a.bytes)
  | .clearLockout => some (0x55, [])
  | .readSample c => some (0x60, u8 c)
  | .scanNow => some (0x61, [])
  | .amendChannel c a => some (0x62, u8 c ++ a.bytes)
  | .amendScan p => some (0x63, u16 p)
  | .readInputs => some (0x64, [])
  | .amendInput i l => some (0x65, u8 i ++ u8 l)
  | .readLoad => some (0x66, [])
  | .amendLoad a => some (0x67, a.bytes)
  | .readConditions => some (0x70, [])
  | .clearConditions c => some (0x71, u16 c.toNat)
  | .amendMask m => some (0x72, u16 m.toNat)
  | .saveImage => some (0x73, [])
  | .restart => some (0x74, [])
  | .readIdentity => some (0x75, [])
  | .badFrame _ | .unknownRequest _ | .fetchReply _ | .requestDiscarded _ | .powerOn | .resetPin
  | .resetRelease | .restartTimeout | .startupEnd _ | .secondTick | .savePageWritten _ | .saveRetryTimer
  | .camLineEdge _ | .camConfirm | .departureTimeout | .turnTimerExpiry | .beamBreak | .dropWindowExpiry
  | .fitPulseEnd | .linkSlot | .identifyTimer | .linkFrame _ _ | .linkReplyTimeout | .coinTimeout
  | .pulseOnEnd | .pulseGapEnd | .chuteWindowClose | .chuteCount | .sinceDefrostTimer _ | .defrostTimer _
  | .dripTimer _ | .zoneMinuteTimer _ | .restTimer | .startTimer | .confirmLineEdge _ | .confirmChange
  | .runTimer | .fanRunonTimer | .periodTimer | .priorityTimer | .conversionEnd _ | .inputLineEdge _ _
  | .inputChange _ | .linkFirstByte => none

/-- R179: a request's whole chip-select: code, body length, body, CRC-8. -/
def frameOf (code : Nat) (body : List Byte) : List Byte :=
  let head := u8 code ++ u8 body.length ++ body
  head ++ [crc8 head]

/-- The chip-select that carries a request (none for a command that is no request). -/
def requestFrame (c : Instr) : Option (List Byte) := (requestCode c).map fun (code, body) => frameOf code body

/-- R179.2: the codes of the request table. -/
def codeKnown (code : Nat) : Bool :=
  (0x10 ≤ code && code ≤ 0x16) || code = 0x18 || code = 0x19 || (0x20 ≤ code && code ≤ 0x29) ||
  (0x30 ≤ code && code ≤ 0x3E) || (0x50 ≤ code && code ≤ 0x55) || (0x60 ≤ code && code ≤ 0x67) ||
  (0x70 ≤ code && code ≤ 0x75)

/-- R179.3: the request whose code and body these are, none when the body does not match the layout. -/
def readBody (code : Nat) (body : List Byte) : Option Instr :=
  match code, body with
  | 0x10, [f, l] => some (.readLane f.toNat l.toNat)
  | 0x11, [h, l] => some (.findProduct (n16 h l))
  | 0x12, [n, ph, pl, rh, rl, c, s, z, k, m, t, e, d] => some (.enrolLane n.toNat
      ⟨n16 ph pl, n16 rh rl, c.toNat, s.toNat, z.toNat, k.toNat, numOrAbsent m, t.toNat, e.toNat, d.toNat⟩)
  | 0x13, n :: ph :: pl :: rest => readLaneAmend n.toNat (n16 ph pl) rest
  | 0x14, [n, s] => some (.restockLane n.toNat s.toNat)
  | 0x15, [n] => some (.checkLane n.toNat)
  | 0x16, [n] => some (.retireLane n.toNat)
  | 0x18, [] => some .readDrive
  | 0x19, ph :: pl :: rest => readDriveAmend (n16 ph pl) rest
  | 0x20, [t, c, h, l, q, p, f] => some (.placeOrder
      ⟨t.toNat, c.toNat, n16 h l, q.toNat, p.toNat, f.toNat⟩)
  | 0x21, [t] => some (.readOrder t.toNat)
  | 0x22, [] => some .readQueue
  | 0x23, [t] => some (.retireOrder t.toNat)
  | 0x24, [] => some .holdQueue
  | 0x25, [] => some .resumeQueue
  | 0x26, [] => some .haltDrive
  | 0x27, [] => some .resumeDrive
  | 0x28, [t] => some (.skipOrder t.toNat)
  | 0x29, [] => some .clearQueue
  | 0x30, [] => some .readCredit
  | 0x31, [h, l] => some (.amendCreditLimit (n16 h l))
  | 0x32, [] => some .refund
  | 0x33, [] => some .readClass
  | 0x34, c :: ph :: pl :: rest => readClassAmend c.toNat (n16 ph pl) rest
  | 0x35, [] => some .readCashbox
  | 0x36, [] => some .clearCashbox
  | 0x37, [] => some .readTube
  | 0x38, t :: ph :: pl :: rest => readTubeAmend t.toNat (n16 ph pl) rest
  | 0x39, [t, n] => some (.setTubeCount t.toNat n.toNat)
  | 0x3A, [t, n] => some (.dispense t.toNat n.toNat)
  | 0x3B, [] => some .readPayout
  | 0x3C, ph :: pl :: rest => readPayoutAmend (n16 ph pl) rest
  | 0x3D, [] => some .readLink
  | 0x3E, ph :: pl :: rest => readLinkAmend (n16 ph pl) rest
  | 0x50, [z] => some (.readZone z.toNat)
  | 0x51, z :: ph :: pl :: rest => readZoneAmend z.toNat (n16 ph pl) rest
  | 0x52, [z] => some (.startDefrost z.toNat)
  | 0x53, [] => some .readCompressor
  | 0x54, ph :: pl :: rest => readCompressorAmend (n16 ph pl) rest
  | 0x55, [] => some .clearLockout
  | 0x60, [c] => some (.readSample c.toNat)
  | 0x61, [] => some .scanNow
  | 0x62, c :: ph :: pl :: rest => readChannelAmend c.toNat (n16 ph pl) rest
  | 0x63, [h, l] => some (.amendScan (n16 h l))
  | 0x64, [] => some .readInputs
  | 0x65, [i, l] => some (.amendInput i.toNat l.toNat)
  | 0x66, [] => some .readLoad
  | 0x67, ph :: pl :: rest => readLoadAmend (n16 ph pl) rest
  | 0x70, [] => some .readConditions
  | 0x71, [h, l] => some (.clearConditions (BitVec.ofNat 16 (n16 h l)))
  | 0x72, [h, l] => some (.amendMask (BitVec.ofNat 16 (n16 h l)))
  | 0x73, [] => some .saveImage
  | 0x74, [] => some .restart
  | 0x75, [] => some .readIdentity
  | _, _ => none

/-- R179.1: the bytes end in the CRC-8 of the bytes before it, the length byte is at most 60, and the bytes
clocked are 3 plus the length. -/
def frameSound (bytes : List Byte) : Bool :=
  match bytes with
  | _ :: len :: _ =>
    len.toNat ≤ 60 && bytes.length = 3 + len.toNat &&
      (bytes.getLast? == some (crc8 bytes.dropLast))
  | _ => false

/-- R179, R180: what a chip-select of these bytes is as a command, judged while the port takes requests.
A chip-select of no bytes is ignored; one that opens with 0x00 is a fetch. -/
def judgeChipSelect (bytes : List Byte) : Option Instr :=
  match bytes with
  | [] => none
  | code :: rest =>
    if code = 0#8 then some (.fetchReply rest.length)
    else if frameSound bytes = false then some (.badFrame bytes)
    else if codeKnown code.toNat = false then some (.unknownRequest bytes)
    else some ((readBody code.toNat (rest.drop 1).dropLast).getD (.badFrame bytes))

end Sys2Proof
end

