-- ==== Sys2Proof/Machine/State.lean ====
section
/-! DEFINITION. The state of the GN416 as plain data: every record the manual gives the device, the start-up
phase and records of the record port, the image memory, and the queue of commands that are waiting. -/
namespace Sys2Proof.Machine

/-- The faults a command can end in: NONE. No rule of the manual stops the device: a request is taken or
refused with a status (R179), and an event that finds nothing to act on changes nothing (log 3). -/
inductive Fault where
  deriving DecidableEq, Repr

/-- The refusals of the model itself (never of the device). -/
inductive Refusal where
  /-- Raised by exec's arm of a command that has no meaning yet: safe, nothing is claimed of it. No arm of
  this model answers it. -/
  | notModelled (mnemonic : String)
  deriving DecidableEq, Repr

/-- A timer: absent while it does not run, else the time of its expiry in ms of the model's clock. -/
abbrev Timer := Option Nat

/-! ### Conditions (11) -/

/-- R182: the sixteen conditions, in the order of their bits. -/
inductive Condition where
  | poweredOn | restarted | imageFault | saveEnded | laneChanged | orderEnded | creditChanged | payoutEnded
  | tubeFault | coinUncertain | linkChanged | zoneAlarm | compressorAlarm | inputChanged | supplyChanged
  | strayDrop
  deriving DecidableEq, Repr

/-- R182, R183: the latched set and the mask. -/
structure Conditions where
  latched : Word16
  mask : Word16
  deriving DecidableEq, Repr

/-! ### The lane table (01) -/

/-- R2. -/
inductive BaseState where
  | checking | inService | noMotor | jammed | offline
  deriving DecidableEq, Repr

/-- R1. -/
inductive LaneClass where
  | ambient | chilled | perishable
  deriving DecidableEq, Repr

/-- R1. -/
inductive DropCheck where
  | required | notRequired
  deriving DecidableEq, Repr

/-- R1: a lane record; its lane number is the number of its slot. Money in mu, exposure in min, the last
turn time in ms. -/
structure Lane where
  base : BaseState
  held : Bool
  spoiled : Bool
  product : Nat
  price : Nat
  capacity : Nat
  stock : Nat
  reserved : Nat
  zone : Fin 2
  laneClass : LaneClass
  companion : Option (Fin 64)
  turns : Nat
  extraTurns : Nat
  dropCheck : DropCheck
  stamp : Word16
  baseline : Nat
  offHome : Bool
  jams : Nat
  sales : Nat
  lastTurn : Option Nat
  deriving DecidableEq, Repr

/-- R1, R13, R19: the slots, the restock stamp counter and the changed-lanes set. -/
structure LaneTable where
  slots : Vector (Option Lane) 64
  stampCounter : Word16
  changed : Vector Bool 64
  deriving DecidableEq, Repr

/-! ### The spiral drive (02) -/

/-- R23: an entry of the drive job list. -/
inductive Job where
  | fitCheck (lane : Fin 64)
  | unitDrive (lane : Fin 64) (tag : Nat)
  deriving DecidableEq, Repr

/-- R24: the phases of the active job. -/
inductive DrivePhase where
  | waitLoad | turning | halted | window | pulse
  deriving DecidableEq, Repr

/-- R24 to R41: the active job. `openedAt` is the start of the turn's open-cam time. -/
structure ActiveJob where
  job : Job
  phase : DrivePhase
  companion : Option (Fin 64)
  turns : Nat
  extraTurns : Nat
  dropCheck : DropCheck
  turnCount : Nat
  turnTarget : Nat
  extraCount : Nat
  dropSeen : Bool
  supplyMark : Bool
  windowOpen : Bool
  energizedBefore : Bool
  energizedAt : Nat
  departureTimer : Timer
  turnTimer : Timer
  offHomeTurn : Bool
  openedAt : Option Nat
  lowRun : Nat
  passSeen : Bool
  closingTimer : Timer
  pulseTimer : Timer
  deriving DecidableEq, Repr

/-- R44: the drive's two settings, in 0.1 s. -/
structure DriveSettings where
  turnLimit : Nat
  dropWindow : Nat
  deriving DecidableEq, Repr

/-- R22 to R42: the drive. -/
structure Drive where
  set : DriveSettings
  strayCount : Nat
  energized : Option (Fin 64)
  rows : BitVec 8
  cols : BitVec 8
  jobs : List Job
  active : Option ActiveJob
  camLine : CamLevel
  camConfirmed : Option CamLevel
  camTimer : Timer
  deriving DecidableEq, Repr

/-! ### The order queue (03) -/

/-- R46. -/
inductive Payment where
  | credit | external
  deriving DecidableEq, Repr

/-- R46. -/
inductive OrderState where
  | queued | driving | halted | delivered | partly | failed | cancelled
  deriving DecidableEq, Repr

/-- R46. -/
inductive EndCause where
  | completed | jam | noDrop | motorOpen | laneHeld | laneSpoiled | laneNotInService | soldOut | laneRetired
  | skipped | cleared | supply
  deriving DecidableEq, Repr

/-- R46: an order record. -/
structure Order where
  tag : Nat
  lane : Fin 64
  product : Nat
  quantity : Nat
  price : Nat
  payment : Payment
  final : Bool
  holdAfter : Bool
  inexactOk : Bool
  state : OrderState
  delivered : Nat
  residue : Nat
  charged : Nat
  cause : Option EndCause
  deriving DecidableEq, Repr

/-- R54. -/
inductive QueueState where
  | running | held
  deriving DecidableEq, Repr

/-- R56. -/
inductive UnitPosition where
  | none | posted | halted
  deriving DecidableEq, Repr

/-- R47, R54, R56: the orders, oldest first, the queue state and the unit position. -/
structure OrderQueue where
  orders : List Order
  state : QueueState
  unitPos : UnitPosition
  deriving DecidableEq, Repr

/-! ### Credit (04) -/

/-- R73. -/
inductive RefundPending where
  | no | change | refund
  deriving DecidableEq, Repr

/-- R73: the credit record, in mu; the tendered list oldest first. -/
structure Credit where
  balance : Nat
  committed : Nat
  maxCredit : Nat
  tendered : List (Fin 8)
  pending : RefundPending
  deriving DecidableEq, Repr

/-! ### Coin acceptance (05) -/

/-- R93. -/
inductive LinkState where
  | present | absent
  deriving DecidableEq, Repr

/-- R91, R99. -/
inductive Route where
  | reject | tube (t : Fin 6) | cashbox
  deriving DecidableEq, Repr

/-- R99. -/
inductive RejectReason where
  | disabled | payout | limit | noRoute
  deriving DecidableEq, Repr

/-- R99. -/
inductive RouteState where
  | due | sent
  deriving DecidableEq, Repr

/-- R91: what the device sends. -/
inductive Message where
  | poll | setMask (mask : BitVec 8) | route (coinClass : Fin 8) (route : Route) | identify
  deriving DecidableEq, Repr

/-- R92: the exchange under way; `replyTimer` runs until the first byte of the reply. -/
structure Exchange where
  message : Message
  replyStarted : Bool
  replyTimer : Timer
  deriving DecidableEq, Repr

/-- R99: the coin-in-flight record. -/
structure CoinInFlight where
  coinClass : Fin 8
  value : Nat
  route : Route
  reason : Option RejectReason
  routeState : RouteState
  offeredAt : Nat
  deriving DecidableEq, Repr

/-- R99, R108: the coin-in-flight marker of the retained store. -/
structure CoinMarker where
  coinClass : Fin 8
  value : Nat
  route : Route
  deriving DecidableEq, Repr

/-- R103. -/
inductive UncertainCause where
  | timeout | linkLost | protocol | reset
  deriving DecidableEq, Repr

/-- R103: the last uncertain coin. -/
structure UncertainCoin where
  coinClass : Fin 8
  value : Nat
  route : Route
  routeState : Option RouteState
  cause : UncertainCause
  deriving DecidableEq, Repr

/-- R95: a coin class; its tube binding is read from the tube records (R109). -/
structure CoinClass where
  value : Nat
  enabled : Bool
  deriving DecidableEq, Repr

/-- R90 to R108: the link record, the masks, the coin in flight, the classes and the cash box counts. -/
structure CoinAcceptance where
  link : LinkState
  missCount : Nat
  pollPeriod : Nat
  exchange : Option Exchange
  slotTimer : Timer
  identifyTimer : Timer
  lastSent : List Byte
  identity : Option (List Byte)
  lastFault : Option Nat
  faultCount : Nat
  mask : BitVec 8
  acknowledged : Option (BitVec 8)
  maskDue : Bool
  inFlight : Option CoinInFlight
  marker : Option CoinMarker
  uncertain : Option UncertainCoin
  classes : Vector CoinClass 8
  cashbox : Vector Nat 8
  deriving DecidableEq, Repr

/-! ### Tubes and payout (06) -/

/-- R109. -/
inductive TubeState where
  | ready | jammed | disabled
  deriving DecidableEq, Repr

/-- R109. -/
inductive TubeFault where
  | jam | underflow | overfill
  deriving DecidableEq, Repr

/-- R109: a tube record. -/
structure Tube where
  boundClass : Option (Fin 8)
  capacity : Nat
  count : Nat
  planned : Nat
  state : TubeState
  lastFault : Option TubeFault
  deriving DecidableEq, Repr

/-- R114. -/
inductive PlanKind where
  | change | refund | dispense
  deriving DecidableEq, Repr

/-- R114: the amount requested, in mu, or for DISPENSE the tube and the coins. -/
inductive Requested where
  | amount (mu : Nat) | coins (tube : Fin 6) (n : Nat)
  deriving DecidableEq, Repr

/-- R114. -/
inductive LineState where
  | opened | done | jammed
  deriving DecidableEq, Repr

/-- R114. -/
structure PlanLine where
  tube : Fin 6
  planned : Nat
  paid : Nat
  state : LineState
  deriving DecidableEq, Repr

/-- R114. -/
inductive PlanState where
  | waitLoad | ejecting | ended
  deriving DecidableEq, Repr

/-- R114. -/
inductive PlanResult where
  | complete | short
  deriving DecidableEq, Repr

/-- R114: a payout plan. -/
structure Plan where
  kind : PlanKind
  requested : Requested
  lines : List PlanLine
  paid : Nat
  overpaid : Nat
  state : PlanState
  result : Option PlanResult
  deriving DecidableEq, Repr

/-- R116. -/
inductive Attempt where
  | first | retry
  deriving DecidableEq, Repr

/-- R116, R120: the pending coin: the line (its place in the plan) its pulse was given for, its chute window,
the counts seen in it, and whether a revocation cut it short. -/
structure PendingCoin where
  tube : Fin 6
  line : Nat
  attempt : Attempt
  windowOpen : Bool
  windowEnd : Nat
  seen : Nat
  cut : Bool
  deriving DecidableEq, Repr

/-- R123: the engine's settings, in ms. -/
structure PayoutSettings where
  onTime : Nat
  gap : Nat
  deriving DecidableEq, Repr

/-- R109 to R121: the tubes and the payout engine; `pulseGap` is the gap fixed at the pulse's start. -/
structure Payout where
  tubes : Vector Tube 6
  plan : Option Plan
  set : PayoutSettings
  strayCount : Nat
  solenoid : Option (Fin 6)
  onTimer : Timer
  pulseGap : Nat
  gapTimer : Timer
  coin : Option PendingCoin
  deriving DecidableEq, Repr

/-! ### Samples (09) -/

/-- R160 to R162: a judged sample; a value only with quality GOOD (tenths of a degree, tenths of a volt, mA). -/
inductive Sample where
  | good (value : Int) | opened | short | overRange
  deriving DecidableEq, Repr

/-! ### Cooling zones (07) -/

/-- R126: a zone's settings; temperatures in tenths of a degree. -/
structure ZoneSettings where
  enabled : Bool
  setPoint : Int
  differential : Int
  warmLimit : Int
  holdChilled : Bool
  allowance : Nat
  defrostInterval : Nat
  defrostEnd : Int
  defrostMax : Nat
  deriving DecidableEq, Repr

/-- R126, R127. -/
inductive ZoneState where
  | off | satisfied | calling | defrost | drip | probeFault
  deriving DecidableEq, Repr

/-- R139. -/
inductive ZoneAlarm where
  | warm | probeFault | saturated
  deriving DecidableEq, Repr

/-- R131: a defrost under way: the values fixed at its entry, and the defrost timer (absent in the heater
wait). -/
structure Defrost where
  endTemp : Int
  maxMinutes : Nat
  timer : Timer
  deriving DecidableEq, Repr

/-- R126: a zone record. -/
structure Zone where
  set : ZoneSettings
  state : ZoneState
  warm : Bool
  exposure : Nat
  sinceDefrost : Nat
  defrostDue : Bool
  air : Option Sample
  evaporator : Option Sample
  lastAlarm : Option ZoneAlarm
  defrost : Option Defrost
  dripTimer : Timer
  sinceTimer : Timer
  minuteTimer : Timer
  deriving DecidableEq, Repr

/-! ### Compressor (08) -/

/-- R144. -/
inductive CompressorState where
  | resting | idle | waiting | starting | running | lockedOut
  deriving DecidableEq, Repr

/-- R144. -/
inductive ConfirmMode where
  | delay | sense
  deriving DecidableEq, Repr

/-- R144: the six settings; times in s, the limit in tenths of a degree. -/
structure CompressorSettings where
  minRest : Nat
  minRun : Nat
  startWindow : Nat
  confirmMode : ConfirmMode
  confirmPolarity : Level
  hotLimit : Int
  deriving DecidableEq, Repr

/-- R149: the start copy, with the confirm level noted at the closing of the relay. -/
structure StartCopy where
  startWindow : Nat
  confirmMode : ConfirmMode
  confirmPolarity : Level
  minRun : Nat
  levelAtClosing : Option Level
  deriving DecidableEq, Repr

/-- R144. -/
inductive LastStop where
  | demandMet | hot | startFailed | confirmLost | supply
  deriving DecidableEq, Repr

/-- R144. -/
inductive CompressorAlarm where
  | hot | lockout | condenserProbe
  deriving DecidableEq, Repr

/-- R144 to R152: the compressor record, its confirm input and its timers; `judgedLimit` is the hot limit the
condenser reading was judged against (R146; the model's own field, log 28). -/
structure Compressor where
  set : CompressorSettings
  state : CompressorState
  failures : Nat
  restTarget : Nat
  restElapsed : Bool
  demand : Bool
  condenser : Option Sample
  judgedLimit : Int
  confirmLevel : Option Level
  confirmLine : Level
  confirmTimer : Timer
  startCopy : Option StartCopy
  lastStop : Option LastStop
  lastAlarm : Option CompressorAlarm
  restTimer : Timer
  startTimer : Timer
  runTimer : Timer
  fanTimer : Timer
  deriving DecidableEq, Repr

/-! ### Sense scanner and supervised inputs (09) -/

/-- R156. -/
inductive Curve where
  | a | b
  deriving DecidableEq, Repr

/-- R156: a channel setup; channels 5 and 6 carry no setting, and `enabled` acts on channel 7 alone. -/
structure ChannelSetup where
  curve : Curve
  offset : Int
  enabled : Bool
  deriving DecidableEq, Repr

/-- R162: a mailbox; empty while its sample is absent. -/
structure Mailbox where
  sample : Option Sample
  fresh : Bool
  overwritten : Bool
  deriving DecidableEq, Repr

/-- R157: who asked for a conversion. -/
inductive ConversionSource where
  | pass | priority
  deriving DecidableEq, Repr

/-- R157: the conversion under way. -/
structure Conversion where
  channel : Fin 8
  source : ConversionSource
  ends : Nat
  deriving DecidableEq, Repr

/-- R157 to R166: the scanner; `pass` is the channel whose turn it is in the running pass, and `passPending` says
that a pass is asked for and has not begun its first conversion (log 18). -/
structure Scanner where
  setups : Vector ChannelSetup 8
  boxes : Vector Mailbox 8
  period : Nat
  periodTimer : Timer
  converting : Option Conversion
  pass : Option (Fin 8)
  passPending : Bool
  priorityTimer : Timer
  priorityWaiting : Nat
  deriving DecidableEq, Repr

/-- R167. -/
inductive InputState where
  | onRef | offRef
  deriving DecidableEq, Repr

/-- R167: a supervised input record, its line level and its debounce count. -/
structure Input where
  reference : Level
  debounced : Option Level
  state : InputState
  line : Level
  timer : Timer
  deriving DecidableEq, Repr

/-! ### Load budget (10) -/

/-- R170. -/
inductive Band where
  | normal | low | critical
  deriving DecidableEq, Repr

/-- R172. -/
inductive Claimant where
  | drive | payout | compressor | heater (zone : Fin 2)
  deriving DecidableEq, Repr

/-- R172: an entry of the grant set or the waiter list; the drive's also names its job. -/
structure Claim where
  who : Claimant
  units : Nat
  job : Option Job
  deriving DecidableEq, Repr

/-- R170, R172: the settings; thresholds in tenths of a volt. -/
structure LoadSettings where
  budget : Nat
  lowThreshold : Nat
  criticalThreshold : Nat
  deriving DecidableEq, Repr

/-- R170 to R176: the load budget; grants in grant order, waiters from the head. -/
structure LoadBudget where
  set : LoadSettings
  band : Band
  supply : Option Sample
  grants : List Claim
  waiters : List Claim
  deriving DecidableEq, Repr

/-! ### The device, the port and the whole state -/

/-- The records of the blocks, the condition set, and the model's clock in ms (log 1). -/
structure Device where
  now : Nat
  conditions : Conditions
  table : LaneTable
  drive : Drive
  queue : OrderQueue
  credit : Credit
  coins : CoinAcceptance
  payout : Payout
  zones : Vector Zone 2
  powerLossCharge : Nat
  compressor : Compressor
  scanner : Scanner
  inputs : Vector Input 4
  load : LoadBudget
  deriving DecidableEq, Repr

/-- 11.6: the status codes, in code order. -/
inductive Status where
  | ok | accepted | badFrame | unknownRequest | range | notFound | exists_ | motorTaken | laneBusy
  | laneStocked | busy | queueFull | tagInUse | soldOut | notSellable | noCredit | noChange | nothingToPay
  | notAllowed
  deriving DecidableEq, Repr

/-- R180: a reply: its status and its body. -/
structure Reply where
  status : Status
  body : List Byte
  deriving DecidableEq, Repr

/-- R179, R180: what the device sent in the last chip-select: 0xFF throughout, or these bytes. -/
inductive Miso where
  | allOnes | answered (bytes : List Byte)
  deriving DecidableEq, Repr

/-- R181, R190: where the device stands between a reset and normal running. -/
inductive StartPhase where
  | powerOnStartup | heldInReset | warmStartup | running
  deriving DecidableEq, Repr

/-- R187; in the order of R185. -/
inductive ImageStatus where
  | loaded | defaultsAbsent | defaultsCheck | defaultsFormat
  deriving DecidableEq, Repr

/-- R185. -/
inductive ResetCause where
  | powerOn | resetPin | restart
  deriving DecidableEq, Repr

/-- R188, R189. -/
inductive SaveResult where
  | ok | failed | abandoned
  deriving DecidableEq, Repr

/-- R188: a save under way: the snapshot as the bytes of the image, the page being written, its attempt and
the retry timer. -/
structure SaveJob where
  image : List Byte
  page : Nat
  attempt : Attempt
  retryTimer : Timer
  deriving DecidableEq, Repr

/-- 11: the record port. The save state is WRITING while `save` is present. -/
structure Port where
  phase : StartPhase
  restartTimer : Timer
  reply : Option Reply
  miso : Miso
  save : Option SaveJob
  lastSave : Option SaveResult
  saveMarker : Bool
  imageStatus : ImageStatus
  resetCause : ResetCause
  seconds : Nat
  secondTimer : Timer
  deriving DecidableEq, Repr

/-- The image memory's listed bytes, in canonical form (Memory.wf in Machine/Ops.lean). -/
abbrev Memory := List Host.Cell

/-- The state of the GN416. -/
structure State where
  dev : Device
  port : Port
  mem : Memory
  pending : List Instr
  deriving DecidableEq, Repr

/-! ### The values after reset -/

/-- R126: the default settings of a zone. -/
def ZoneSettings.default : ZoneSettings :=
  { enabled := false, setPoint := 40, differential := 20, warmLimit := 80, holdChilled := true,
    allowance := 120, defrostInterval := 6, defrostEnd := 40, defrostMax := 30 }

/-- R144: the default settings of the compressor. -/
def CompressorSettings.default : CompressorSettings :=
  { minRest := 180, minRun := 60, startWindow := 4, confirmMode := .delay, confirmPolarity := .high,
    hotLimit := 650 }

/-- R142: a zone at power-on on defaults, before start-up ends. -/
def Zone.default : Zone :=
  { set := ZoneSettings.default, state := .off, warm := false, exposure := 0, sinceDefrost := 0,
    defrostDue := false, air := none, evaporator := none, lastAlarm := none, defrost := none,
    dripTimer := none, sinceTimer := none, minuteTimer := none }

/-- R124: an unbound tube. -/
def Tube.default : Tube :=
  { boundClass := none, capacity := 100, count := 0, planned := 0, state := .disabled, lastFault := none }

/-- R169: an input at power-on. The line level LOW is a DESIGN CHOICE (log 6). -/
def Input.default : Input :=
  { reference := .low, debounced := none, state := .offRef, line := .low, timer := none }

/-- Every block's records at power-on on defaults (R20, R45, R72, R89, R107, R124, R142, R155, R166, R169,
R178, R191), before start-up ends. The clock, the line levels and "no SET_MASK due" are DESIGN CHOICES
(log 1, 6, 21). -/
def Device.default : Device :=
  { now := 0
    conditions := { latched := 0, mask := 0 }
    table := { slots := Vector.replicate 64 none, stampCounter := 0, changed := Vector.replicate 64 false }
    drive := { set := { turnLimit := 40, dropWindow := 15 }, strayCount := 0, energized := none, rows := 0,
               cols := 0, jobs := [], active := none, camLine := .closed, camConfirmed := none,
               camTimer := none }
    queue := { orders := [], state := .running, unitPos := .none }
    credit := { balance := 0, committed := 0, maxCredit := 500, tendered := [], pending := .no }
    coins := { link := .absent, missCount := 0, pollPeriod := 50, exchange := none, slotTimer := none,
               identifyTimer := none, lastSent := [], identity := none, lastFault := none, faultCount := 0,
               mask := 0, acknowledged := none, maskDue := false, inFlight := none, marker := none,
               uncertain := none, classes := Vector.replicate 8 { value := 1, enabled := false },
               cashbox := Vector.replicate 8 0 }
    payout := { tubes := Vector.replicate 6 Tube.default, plan := none, set := { onTime := 60, gap := 80 },
                strayCount := 0, solenoid := none, onTimer := none, pulseGap := 80, gapTimer := none,
                coin := none }
    zones := Vector.replicate 2 Zone.default
    powerLossCharge := 30
    compressor := { set := CompressorSettings.default, state := .resting, failures := 0, restTarget := 180,
                    restElapsed := false, demand := false, condenser := none, judgedLimit := 650,
                    confirmLevel := none, confirmLine := .low, confirmTimer := none, startCopy := none, lastStop := none,
                    lastAlarm := none, restTimer := none, startTimer := none, runTimer := none,
                    fanTimer := none }
    scanner := { setups := Vector.replicate 8 { curve := .a, offset := 0, enabled := false },
                 boxes := Vector.replicate 8 { sample := none, fresh := false, overwritten := false },
                 period := 500, periodTimer := none, converting := none, pass := none, passPending := false,
                 priorityTimer := none, priorityWaiting := 0 }
    inputs := Vector.replicate 4 Input.default
    load := { set := { budget := 5, lowThreshold := 210, criticalThreshold := 180 }, band := .normal,
              supply := none, grants := [], waiters := [] } }

/-- R187, R191: the port at a power-on reset at time `now`. The image status is decided when start-up ends; until then it
reads DEFAULTS_ABSENT (DESIGN CHOICE, log 5). -/
def Port.powerOn (now : Nat) : Port :=
  { phase := .powerOnStartup, restartTimer := none, reply := none, miso := .allOnes, save := none,
    lastSave := none, saveMarker := false, imageStatus := .defaultsAbsent, resetCause := .powerOn,
    seconds := 0, secondTimer := some (now + 1000) }

/-- The machine right after a power-on reset has begun, with start-up under way (R181, R187; log 4): blocks at
their power-on values, the image memory blank (log 8), no command waiting. -/
def State.reset : State :=
  { dev := Device.default, port := Port.powerOn 0, mem := [], pending := [] }

end Sys2Proof.Machine
end

