-- ==== Sys2Proof/Machine/Flags.lean ====
section
/-! DEFINITION. The condition set and ATTN (R182, R183, R184). -/
namespace Sys2Proof.Machine

/-- R182: the bit number of a condition. -/
def Condition.bit : Condition → Nat
  | .poweredOn => 0
  | .restarted => 1
  | .imageFault => 2
  | .saveEnded => 3
  | .laneChanged => 4
  | .orderEnded => 5
  | .creditChanged => 6
  | .payoutEnded => 7
  | .tubeFault => 8
  | .coinUncertain => 9
  | .linkChanged => 10
  | .zoneAlarm => 11
  | .compressorAlarm => 12
  | .inputChanged => 13
  | .supplyChanged => 14
  | .strayDrop => 15

/-- The set that holds one condition. -/
def Condition.only (c : Condition) : Word16 := 1#16 <<< c.bit

/-- R182: raising latches; a repeat is not counted. -/
def Conditions.raise (c : Condition) (s : Conditions) : Conditions :=
  { s with latched := s.latched ||| c.only }

/-- R184: every named condition becomes clear. -/
def Conditions.clear (named : Word16) (s : Conditions) : Conditions :=
  { s with latched := s.latched &&& ~~~named }

/-- R182: the condition is latched. -/
def Conditions.has (c : Condition) (s : Conditions) : Bool := s.latched.getLsbD c.bit

/-- R183: ATTN is asserted while at least one condition is latched and not masked. -/
def Conditions.attn (s : Conditions) : Bool := s.latched &&& ~~~s.mask != 0#16

/-- R182: a block raises a condition. -/
def Device.raise (c : Condition) (d : Device) : Device :=
  { d with conditions := d.conditions.raise c }

end Sys2Proof.Machine
end

