-- ==== Sys2Proof/Machine/Ops.lean ====
section
/-! DEFINITION. The named operations every block uses: fixed-size tables, saturating counts, the clock and its
timers, the image memory, the lane slots with the changed-lanes set, tubes and orders by number, and the way a
request is taken and answered. -/
namespace Sys2Proof.Machine

/-! ### Tables of a fixed size -/

/-- The table with its i-th entry replaced. -/
def put {α : Type} {n : Nat} (v : Vector α n) (i : Fin n) (x : α) : Vector α n := v.set i.val x i.isLt

/-- The table with every entry changed. -/
def mapAll {α β : Type} {n : Nat} (f : α → β) (v : Vector α n) : Vector β n :=
  ⟨⟨v.toList.map f⟩, by simp⟩

/-- The numbers 0 to n in ascending order. -/
def upTo (n : Nat) : List (Fin (n + 1)) := (List.range (n + 1)).map (Fin.ofNat (n + 1))

/-- The 64 lane numbers in ascending order. -/
def allLanes : List (Fin 64) := upTo 63

/-- The six tube numbers. -/
def allTubes : List (Fin 6) := upTo 5

/-- The eight coin classes. -/
def allClasses : List (Fin 8) := upTo 7

/-- A number that names one of n things (R1 and its like: outside, the request is refused RANGE). -/
def index (n : Nat) (k : Nat) : Option (Fin n) := if h : k < n then some ⟨k, h⟩ else none

/-- Inserts before the first entry it goes before: insertion keeps entries of equal rank in their order. -/
def insertBy {α : Type} (before : α → α → Bool) (x : α) : List α → List α
  | [] => [x]
  | y :: ys => if before x y then x :: y :: ys else y :: insertBy before x ys

/-- The list sorted so that no entry goes before an earlier one. -/
def sortBy {α : Type} (before : α → α → Bool) : List α → List α
  | [] => []
  | x :: xs => insertBy before x (sortBy before xs)

/-! ### Counts, clock and timers -/

/-- A count that saturates at `top`. -/
def satAdd (top n k : Nat) : Nat := min top (n + k)

/-- The 16-bit saturating counts. -/
def bump (n : Nat) : Nat := satAdd 65535 n 1

/-- A timer expires: the clock stands at least at its end (log 2). -/
def Device.reach (due : Nat) (d : Device) : Device := { d with now := max d.now due }

/-- The expiry of a timer: when it runs, `f` is applied with its end time, the clock having reached it; when
it does not run there is no expiry and nothing changes (log 3). -/
def Device.onExpiry (t : Timer) (f : Nat → Device → Device) (d : Device) : Device :=
  match t with
  | none => d
  | some due => f due (d.reach due)

/-- What is left of a timer in its unit of `unit` ms, a part counted as a whole (log 11); 0 when it is not running. -/
def timeLeft (t : Timer) (now unit : Nat) : Nat :=
  match t with
  | none => 0
  | some due => (due - now + (unit - 1)) / unit

/-! ### The image memory (R186) -/

/-- What a byte of the image memory reads as. -/
def Memory.read (m : Memory) (a : Nat) : Byte :=
  match m with
  | [] => Config.blankByte
  | (k, b) :: rest => if a = k then b else Memory.read rest a

/-- Writes a byte that is not the blank byte into a rising list. -/
def Memory.insert (a : Nat) (b : Byte) : Memory → Memory
  | [] => [(a, b)]
  | (k, c) :: rest =>
    if a < k then (a, b) :: (k, c) :: rest
    else if a = k then (a, b) :: rest
    else (k, c) :: Memory.insert a b rest

/-- Takes an address off the list. -/
def Memory.erase (a : Nat) : Memory → Memory
  | [] => []
  | (k, c) :: rest => if a = k then rest else (k, c) :: Memory.erase a rest

/-- Writes one byte, keeping the canonical form. -/
def Memory.write (a : Nat) (b : Byte) (m : Memory) : Memory :=
  if b = Config.blankByte then m.erase a else m.insert a b

/-- Writes consecutive bytes from address `a`. -/
def Memory.writeAll (a : Nat) (bs : List Byte) (m : Memory) : Memory :=
  match bs with
  | [] => m
  | b :: rest => Memory.writeAll (a + 1) rest (m.write a b)

/-- Reads `n` consecutive bytes from address `a`. -/
def Memory.readAll (m : Memory) (a n : Nat) : List Byte := (List.range n).map fun i => m.read (a + i)

/-- Every listed address is above `low`, they rise strictly, and no listed byte is the blank one. -/
def Memory.rising (low : Nat) : Memory → Bool
  | [] => true
  | (k, b) :: rest => low ≤ k && b != Config.blankByte && Memory.rising (k + 1) rest

/-- The canonical form: addresses strictly rising, no entry equal to what an unlisted address reads as. -/
def Memory.wf (m : Memory) : Bool := Memory.rising 0 m

/-! ### Lanes -/

/-- R1: the record of an enrolled lane. -/
def Device.lane? (d : Device) (n : Fin 64) : Option Lane := d.table.slots[n]

/-- Writes a slot. -/
def Device.setSlot (n : Fin 64) (l : Option Lane) (d : Device) : Device :=
  { d with table := { d.table with slots := put d.table.slots n l } }

/-- Changes the record of an enrolled lane; an outcome for a vacant slot is ignored (R7). -/
def Device.updateLane (n : Fin 64) (f : Lane → Lane) (d : Device) : Device :=
  match d.lane? n with
  | none => d
  | some l => d.setSlot n (some (f l))

/-- R19: a lane joins the changed-lanes set; a new member raises LANE_CHANGED. -/
def Device.joinChanged (n : Fin 64) (d : Device) : Device :=
  if d.table.changed[n] then d
  else Device.raise .laneChanged { d with table := { d.table with changed := put d.table.changed n true } }

/-- R16, R15: a lane leaves the changed-lanes set. -/
def Device.leaveChanged (n : Fin 64) (d : Device) : Device :=
  { d with table := { d.table with changed := put d.table.changed n false } }

/-- R1, R7: the device changes an enrolled lane's record and adds it to the changed-lanes set. -/
def Device.changeLane (n : Fin 64) (f : Lane → Lane) (d : Device) : Device :=
  match d.lane? n with
  | none => d
  | some l => (d.setSlot n (some (f l))).joinChanged n

/-- R19: the number of members of the changed-lanes set. -/
def LaneTable.changedCount (t : LaneTable) : Nat := (t.changed.toList.filter id).length

/-- R16: the lowest-numbered member of the changed-lanes set. -/
def LaneTable.lowestChanged (t : LaneTable) : Option (Fin 64) := allLanes.find? fun n => t.changed[n]

/-- The reason a lane is not sellable (R4). -/
inductive Unsellable where
  | laneNotInService | laneSpoiled | laneHeld | soldOut
  deriving DecidableEq, Repr

/-- R4: the first reason for which an enrolled lane is not sellable for `q` units given `r` own reserved units,
none when it is sellable. -/
def Lane.unsellable (l : Lane) (q r : Nat) : Option Unsellable :=
  if l.base ≠ .inService then some .laneNotInService
  else if l.spoiled then some .laneSpoiled
  else if l.held then some .laneHeld
  else if l.stock + r < q + l.reserved then some .soldOut
  else none

/-- R4: sellable. -/
def Lane.sellable (l : Lane) (q r : Nat) : Bool := (l.unsellable q r).isNone

/-- R13: a stamp is given: the counter wraps from 65,535 to 0. -/
def Device.giveStamp (d : Device) : Device :=
  { d with table := { d.table with stampCounter := d.table.stampCounter + 1 } }

/-- R13: a lane's restock age. -/
def LaneTable.age (t : LaneTable) (l : Lane) : Nat := (t.stampCounter - l.stamp).toNat

/-! ### Orders -/

/-- R46: the live states. -/
def OrderState.live : OrderState → Bool
  | .queued | .driving | .halted => true
  | .delivered | .partly | .failed | .cancelled => false

/-- R47: DRIVING or HALTED. -/
def OrderState.current : OrderState → Bool
  | .driving | .halted => true
  | .queued | .delivered | .partly | .failed | .cancelled => false

/-- R47: the current order. -/
def OrderQueue.current? (q : OrderQueue) : Option Order := q.orders.find? (·.state.current)

/-- R47: the head, the oldest QUEUED order. -/
def OrderQueue.head? (q : OrderQueue) : Option Order := q.orders.find? (·.state = .queued)

/-- The held order with a tag. -/
def OrderQueue.find? (q : OrderQueue) (tag : Nat) : Option Order := q.orders.find? (·.tag = tag)

/-- Changes the order with a tag. -/
def OrderQueue.update (q : OrderQueue) (tag : Nat) (f : Order → Order) : OrderQueue :=
  { q with orders := q.orders.map fun o => if o.tag = tag then f o else o }

/-- Changes the order with a tag. -/
def Device.updateOrder (tag : Nat) (f : Order → Order) (d : Device) : Device :=
  { d with queue := d.queue.update tag f }

/-- Sets the unit position (R56). -/
def Device.setUnitPos (p : UnitPosition) (d : Device) : Device :=
  { d with queue := { d.queue with unitPos := p } }

/-- A live order is on the lane (R10). -/
def OrderQueue.liveOn (q : OrderQueue) (n : Fin 64) : Bool := q.orders.any fun o => o.state.live && o.lane = n

/-- An order on the lane is DRIVING or HALTED (R10, R14, R15). -/
def OrderQueue.currentOn (q : OrderQueue) (n : Fin 64) : Bool :=
  q.orders.any fun o => o.state.current && o.lane = n

/-! ### Money and tubes -/

/-- R73: the uncommitted amount. -/
def Credit.uncommitted (c : Credit) : Nat := c.balance - c.committed

/-- R109: the tube bound to a class. -/
def Payout.tubeOf (p : Payout) (c : Fin 8) : Option (Fin 6) :=
  allTubes.find? fun t => p.tubes[t].boundClass = some c

/-- Changes a tube record. -/
def Device.updateTube (t : Fin 6) (f : Tube → Tube) (d : Device) : Device :=
  { d with payout := { d.payout with tubes := put d.payout.tubes t (f d.payout.tubes[t]) } }

/-- R109: a tube's value, its bound class's value. -/
def Device.tubeValue (d : Device) (t : Fin 6) : Nat :=
  match d.payout.tubes[t].boundClass with
  | none => 0
  | some c => d.coins.classes[c].value

/-- R114: the engine is IDLE when the last plan is absent or ENDED. -/
def Payout.idle (p : Payout) : Bool :=
  match p.plan with
  | none => true
  | some plan => plan.state = .ended

/-- R109: a tube is full. -/
def Tube.full (t : Tube) : Bool := t.count = t.capacity

/-! ### Inputs and zones -/

/-- The record of an input. -/
def inputIndex : InputName → Fin 4
  | .door => 0
  | .cashbox => 1
  | .flap => 2
  | .aux => 3

/-- R167: the input is on-reference. -/
def Device.onRef (d : Device) (i : InputName) : Bool := d.inputs[inputIndex i].state = .onRef

/-- Changes a zone record. -/
def Device.updateZone (z : Fin 2) (f : Zone → Zone) (d : Device) : Device :=
  { d with zones := put d.zones z (f d.zones[z]) }

/-! ### Requests -/

/-- R181, R190: the port takes requests. -/
def Port.taking (p : Port) : Bool := p.phase = .running && p.restartTimer.isNone

/-- R179, R180: the reply is placed in the buffer, replacing any held there; 0xFF is sent meanwhile. -/
def Port.answer (p : Port) (r : Reply) : Port := { p with reply := some r, miso := .allOnes }

/-- R179, R181, R190: a request chip-select: taken whole by `f` when the port takes requests, else discarded
unjudged. -/
def State.takeRequest (f : State → State × Reply) (s : State) : State :=
  if s.port.taking then
    let r := f s
    { r.1 with port := r.1.port.answer r.2 }
  else { s with port := { s.port with miso := .allOnes } }

/-- A request that its owning block takes or refuses on the device's records. -/
def State.request (f : Device → Device × Reply) (s : State) : State :=
  s.takeRequest fun s => let r := f s.dev; ({ s with dev := r.1 }, r.2)

/-- A request that changes nothing and is answered from the device's records. -/
def State.query (f : Device → Reply) (s : State) : State := s.request fun d => (d, f d)

/-- R190: the RESET pin holds the device in reset. -/
def Port.held (p : Port) : Bool := p.phase = .heldInReset

/-- An event on the device's records; none but those below acts while the RESET pin holds the device in reset
(R190, log 13). -/
def State.event (f : Device → Device) (s : State) : State := if s.port.held then s else { s with dev := f s.dev }

/-- An event that the RESET pin does not hold back: a line's own level (R169, log 13), and the end of the condenser fan's
run-on, which a reset leaves running on to its expiry (R152, R155). -/
def State.ungatedEvent (f : Device → Device) (s : State) : State := { s with dev := f s.dev }

/-- The outcome of every command. -/
abbrev Result := Host.Outcome State Fault Refusal

/-- A refused request changes nothing (R179). -/
def refuse (st : Status) (d : Device) : Device × Reply := (d, ⟨st, []⟩)

/-- A taken request whose reply has no body. -/
def okay (d : Device) : Device × Reply := (d, ⟨.ok, []⟩)

end Sys2Proof.Machine
end

