-- ==== Sys2Proof/Machine/Operands.lean ====
section
/-! DEFINITION. The codes of operands and reply fields (11.6): enumerated values as the position in the owner's
list, absence, presence bytes, lists preceded by their count; and the range checks on operands. -/
namespace Sys2Proof.Machine

/-! ### Enumerated operands read from a request (a code outside the list is out of range, log 10) -/

/-- yes or no: 0 or 1 (11.6). -/
def yesNoOf : Nat → Option Bool
  | 0 => some false
  | 1 => some true
  | _ => none

/-- R126: ON or OFF, in that order (log 9). -/
def onOffOf : Nat → Option Bool
  | 0 => some true
  | 1 => some false
  | _ => none

/-- R1. -/
def laneClassOf : Nat → Option LaneClass
  | 0 => some .ambient
  | 1 => some .chilled
  | 2 => some .perishable
  | _ => none

/-- R1. -/
def dropCheckOf : Nat → Option DropCheck
  | 0 => some .required
  | 1 => some .notRequired
  | _ => none

/-- R46. -/
def paymentOf : Nat → Option Payment
  | 0 => some .credit
  | 1 => some .external
  | _ => none

/-- R167, R144: HIGH or LOW. -/
def levelOf : Nat → Option Level
  | 0 => some .high
  | 1 => some .low
  | _ => none

/-- R144. -/
def confirmModeOf : Nat → Option ConfirmMode
  | 0 => some .delay
  | 1 => some .sense
  | _ => none

/-- R156. -/
def curveOf : Nat → Option Curve
  | 0 => some .a
  | 1 => some .b
  | _ => none

/-- R112: the state AMEND TUBE may name: READY or DISABLED. -/
def tubeStateOf : Nat → Option TubeState
  | 0 => some .ready
  | 2 => some .disabled
  | _ => none

/-- 11.6: the inputs of AMEND INPUT. -/
def inputOf : Nat → Option InputName
  | 0 => some .door
  | 1 => some .cashbox
  | 2 => some .flap
  | 3 => some .aux
  | _ => none

/-- R10: the code of OFFLINE, the only base state AMEND LANE may name. -/
def offlineCode : Nat := 4

/-- R50, 11.6: flag bits of PLACE ORDER: FINAL bit 0, HOLD_AFTER bit 1, INEXACT_OK bit 2; the other bits are
ignored (log 10). -/
def flagBit (flags k : Nat) : Bool := flags.testBit k

/-! ### Ranges -/

/-- A named value lies within its range, both ends included. -/
def within (lo hi : Nat) (n : Option Nat) : Bool := n.all fun v => lo ≤ v && v ≤ hi

/-- As within, for temperatures. -/
def withinT (lo hi : Int) (t : Option Int) : Bool := t.all fun v => lo ≤ v && v ≤ hi

/-- A named code is one of the enumeration's. -/
def coded {α : Type} (f : Nat → Option α) (n : Option Nat) : Bool := n.all fun v => (f v).isSome

/-- The value a setting takes: the named one, decoded, or its present value. -/
def decoded {α : Type} (f : Nat → Option α) (n : Option Nat) (present : α) : α := (n.bind f).getD present

/-- R8: a companion position for lane n: another position in the same row or the same column. -/
def companionFits (n c : Nat) : Bool := c < 64 && c != n && (c / 8 = n / 8 || c % 8 = n % 8)

/-! ### Codes of reply fields -/

/-- yes or no. -/
def yesNo (b : Bool) : List Byte := u8 b.toNat

/-- on or off, open or closed: the first-named value is 0 (log 9). -/
def onOff (b : Bool) : List Byte := u8 (!b).toNat

/-- An enumerated value that may be absent. -/
def optCode {α : Type} (code : α → Nat) (x : Option α) : List Byte := optU8 (x.map code)

/-- A record or field that leaves no spare code for absence: a presence byte, then the record (11.6). -/
def presence {α : Type} (f : α → List Byte) (x : Option α) : List Byte :=
  match x with
  | none => u8 0
  | some v => u8 1 ++ f v

/-- A list of varying length, preceded by its count (11.6). -/
def counted {α : Type} (f : α → List Byte) (xs : List α) : List Byte := u8 xs.length ++ xs.flatMap f

/-- A lane, tube, zone, channel or class number. -/
def num {n : Nat} (k : Fin n) : List Byte := u8 k.val

/-- A number that may be absent. -/
def optNum {n : Nat} (k : Option (Fin n)) : List Byte := optU8 (k.map (·.val))

/-- R2. -/
def baseCode : BaseState → Nat
  | .checking => 0 | .inService => 1 | .noMotor => 2 | .jammed => 3 | .offline => 4

/-- R1. -/
def laneClassCode : LaneClass → Nat
  | .ambient => 0 | .chilled => 1 | .perishable => 2

/-- R1. -/
def dropCheckCode : DropCheck → Nat
  | .required => 0 | .notRequired => 1

/-- R23: fit check, unit drive. -/
def jobKindCode : Job → Nat
  | .fitCheck _ => 0 | .unitDrive _ _ => 1

/-- R24. -/
def phaseCode : DrivePhase → Nat
  | .waitLoad => 0 | .turning => 1 | .halted => 2 | .window => 3 | .pulse => 4

/-- R46. -/
def paymentCode : Payment → Nat
  | .credit => 0 | .external => 1

/-- R46. -/
def orderStateCode : OrderState → Nat
  | .queued => 0 | .driving => 1 | .halted => 2 | .delivered => 3 | .partly => 4 | .failed => 5
  | .cancelled => 6

/-- R46. -/
def endCauseCode : EndCause → Nat
  | .completed => 0 | .jam => 1 | .noDrop => 2 | .motorOpen => 3 | .laneHeld => 4 | .laneSpoiled => 5
  | .laneNotInService => 6 | .soldOut => 7 | .laneRetired => 8 | .skipped => 9 | .cleared => 10 | .supply => 11

/-- R54. -/
def queueStateCode : QueueState → Nat
  | .running => 0 | .held => 1

/-- R56. -/
def unitPosCode : UnitPosition → Nat
  | .none => 0 | .posted => 1 | .halted => 2

/-- R73. -/
def refundCode : RefundPending → Nat
  | .no => 0 | .change => 1 | .refund => 2

/-- R93. -/
def linkStateCode : LinkState → Nat
  | .present => 0 | .absent => 1

/-- 11.6: the route byte of the ROUTE payload. -/
def routeCode : Route → Nat
  | .reject => 0x00 | .tube t => 0x10 + t.val | .cashbox => 0x20

/-- R99. -/
def reasonCode : RejectReason → Nat
  | .disabled => 0 | .payout => 1 | .limit => 2 | .noRoute => 3

/-- R99, R100: DUE, SENT. -/
def routeStateCode : RouteState → Nat
  | .due => 0 | .sent => 1

/-- R103. -/
def uncertainCode : UncertainCause → Nat
  | .timeout => 0 | .linkLost => 1 | .protocol => 2 | .reset => 3

/-- R109. -/
def tubeStateCode : TubeState → Nat
  | .ready => 0 | .jammed => 1 | .disabled => 2

/-- R109. -/
def tubeFaultCode : TubeFault → Nat
  | .jam => 0 | .underflow => 1 | .overfill => 2

/-- R114. -/
def planKindCode : PlanKind → Nat
  | .change => 0 | .refund => 1 | .dispense => 2

/-- R114. -/
def lineStateCode : LineState → Nat
  | .opened => 0 | .done => 1 | .jammed => 2

/-- R114. -/
def planStateCode : PlanState → Nat
  | .waitLoad => 0 | .ejecting => 1 | .ended => 2

/-- R114. -/
def planResultCode : PlanResult → Nat
  | .complete => 0 | .short => 1

/-- R116. -/
def attemptCode : Attempt → Nat
  | .first => 0 | .retry => 1

/-- R126. -/
def zoneStateCode : ZoneState → Nat
  | .off => 0 | .satisfied => 1 | .calling => 2 | .defrost => 3 | .drip => 4 | .probeFault => 5

/-- R126. -/
def zoneAlarmCode : ZoneAlarm → Nat
  | .warm => 0 | .probeFault => 1 | .saturated => 2

/-- R144. -/
def compressorStateCode : CompressorState → Nat
  | .resting => 0 | .idle => 1 | .waiting => 2 | .starting => 3 | .running => 4 | .lockedOut => 5

/-- R144. -/
def confirmModeCode : ConfirmMode → Nat
  | .delay => 0 | .sense => 1

/-- R144. -/
def lastStopCode : LastStop → Nat
  | .demandMet => 0 | .hot => 1 | .startFailed => 2 | .confirmLost => 3 | .supply => 4

/-- R144. -/
def compressorAlarmCode : CompressorAlarm → Nat
  | .hot => 0 | .lockout => 1 | .condenserProbe => 2

/-- R167, R144. -/
def levelCode : Level → Nat
  | .high => 0 | .low => 1

/-- R156. -/
def curveCode : Curve → Nat
  | .a => 0 | .b => 1

/-- R162: GOOD, OPEN, SHORT, OVER_RANGE. -/
def qualityCode : Sample → Nat
  | .good _ => 0 | .opened => 1 | .short => 2 | .overRange => 3

/-- R167. -/
def inputStateCode : InputState → Nat
  | .onRef => 0 | .offRef => 1

/-- R170: in the order of the rows of its table, in which 00_scope.md names the bands too; read along its rows the
table names CRITICAL before LOW (DESIGN CHOICE, log 9). -/
def bandCode : Band → Nat
  | .normal => 0 | .low => 1 | .critical => 2

/-- R172: the claimants in the order of the table. -/
def claimantCode : Claimant → Nat
  | .drive => 0 | .payout => 1 | .compressor => 2 | .heater z => 3 + z.val

/-- R185: in the order in which R185 lists the values; R187, to which it refers, names LOADED last and FORMAT before
CHECK (DESIGN CHOICE, log 9). -/
def imageStatusCode : ImageStatus → Nat
  | .loaded => 0 | .defaultsAbsent => 1 | .defaultsCheck => 2 | .defaultsFormat => 3

/-- R185. -/
def resetCauseCode : ResetCause → Nat
  | .powerOn => 0 | .resetPin => 1 | .restart => 2

/-- 11: absent, OK, FAILED, ABANDONED. -/
def saveResultCode : SaveResult → Nat
  | .ok => 0 | .failed => 1 | .abandoned => 2

/-- 11.6: the status codes. -/
def statusCode : Status → Nat
  | .ok => 0x00 | .accepted => 0x01 | .badFrame => 0x02 | .unknownRequest => 0x03 | .range => 0x04
  | .notFound => 0x05 | .exists_ => 0x06 | .motorTaken => 0x07 | .laneBusy => 0x08 | .laneStocked => 0x09
  | .busy => 0x0A | .queueFull => 0x0B | .tagInUse => 0x0C | .soldOut => 0x0D | .notSellable => 0x0E
  | .noCredit => 0x0F | .noChange => 0x10 | .nothingToPay => 0x11 | .notAllowed => 0x12

/-- A probe sample as quality and temperature: absent 0xFF and 0x8000. -/
def probeBytes (s : Option Sample) : List Byte :=
  optCode qualityCode s ++
    (match s with
     | some (.good v) => i16 v
     | _ => u16 0x8000)

/-- A supply or current sample as quality and value: absent 0xFF and 0xFFFF. -/
def unsignedBytes (s : Option Sample) : List Byte :=
  optCode qualityCode s ++
    (match s with
     | some (.good v) => u16 v.toNat
     | _ => u16 0xFFFF)

/-- The lane of a drive job. -/
def Job.lane : Job → Fin 64
  | .fitCheck n => n
  | .unitDrive n _ => n

/-- The order tag of a drive job, absent for a fit check. -/
def Job.tag? : Job → Option Nat
  | .fitCheck _ => none
  | .unitDrive _ t => some t

/-- A drive job as its kind, lane and order tag, absent for a fit check (R43, log 9). -/
def jobBytes (j : Job) : List Byte := u8 (jobKindCode j) ++ num j.lane ++ optU8 j.tag?

/-- A claim as its claimant, its units and, for the drive, the job's kind and lane (R177). -/
def claimBytes (c : Claim) : List Byte :=
  u8 (claimantCode c.who) ++ u8 c.units ++
    (match c.job with
     | none => []
     | some j => u8 (jobKindCode j) ++ num j.lane)

/-- A reply with a body. -/
def reply (st : Status) (body : List Byte) : Reply := ⟨st, body⟩

end Sys2Proof.Machine
end

