-- ==== Sys2Proof/Machine/Grants.lean ====
section
/-! DEFINITION. What each claimant does when it is granted its load (R26, R40, R116, R131, R149), and the motor
matrix (R22): none of these actions claims or gives back load itself. -/
namespace Sys2Proof.Machine

/-! ### The motor matrix -/

/-- One driver of eight. -/
def driver (k : Nat) : BitVec 8 := 1#8 <<< k

/-- R22: the rows switched on for a lane and its companion. -/
def rowsFor (n : Fin 64) (companion : Option (Fin 64)) : BitVec 8 :=
  match companion with
  | none => driver (n.val / 8)
  | some c => if c.val / 8 = n.val / 8 then driver (n.val / 8) else driver (n.val / 8) ||| driver (c.val / 8)

/-- R22: the columns switched on for a lane and its companion. -/
def colsFor (n : Fin 64) (companion : Option (Fin 64)) : BitVec 8 :=
  match companion with
  | none => driver (n.val % 8)
  | some c => if c.val / 8 = n.val / 8 then driver (n.val % 8) ||| driver (c.val % 8) else driver (n.val % 8)

/-- R22, R27, R159: the lane's motors go on; the cam's confirmed level starts absent and the level seen is
timed (log 30); the priority timer starts. -/
def Device.energize (n : Fin 64) (companion : Option (Fin 64)) (d : Device) : Device :=
  { d with
    drive := { d.drive with energized := some n, rows := rowsFor n companion, cols := colsFor n companion,
                            camConfirmed := none, camTimer := some (d.now + Config.camDebounceMs) }
    scanner := { d.scanner with priorityTimer := some (d.now + Config.priorityMs) } }

/-- R22, R27, R159: every driver goes off; the confirmed level becomes absent; priority sampling stops and a
priority conversion not started is withdrawn. -/
def Device.switchOff (d : Device) : Device :=
  { d with
    drive := { d.drive with energized := none, rows := 0, cols := 0, camConfirmed := none, camTimer := none }
    scanner := { d.scanner with priorityTimer := none, priorityWaiting := 0 } }

/-- R7, R27: the motors of lane n stop, and "motor stopped with its cam open" is reported when the confirmed
level is open. -/
def Device.stopMotors (n : Fin 64) (d : Device) : Device :=
  if d.drive.camConfirmed = some .opened then d.switchOff.updateLane n fun l => { l with offHome := true }
  else d.switchOff

/-- Changes the active job. -/
def Device.updateJob (f : ActiveJob → ActiveJob) (d : Device) : Device :=
  { d with drive := { d.drive with active := d.drive.active.map f } }

/-- The active job ends. -/
def Device.endJob (d : Device) : Device := { d with drive := { d.drive with active := none } }

/-- R44: the turn limit in ms. -/
def Drive.turnMs (v : Drive) : Nat := v.set.turnLimit * 100

/-- R44: the drop window in ms. -/
def Drive.windowMs (v : Drive) : Nat := v.set.dropWindow * 100

/-- R26, R29: a unit drive is energized: TURNING, its window open from the first energizing, with a departure
check or an off-home turn. -/
def ActiveJob.turn (now limit : Nat) (offHome : Bool) (j : ActiveJob) : ActiveJob :=
  { j with phase := .turning, windowOpen := if j.energizedBefore then j.windowOpen else true,
           energizedBefore := true, energizedAt := now, lowRun := 0, openedAt := none, offHomeTurn := offHome,
           departureTimer := if offHome then none else some (now + Config.departureMs),
           turnTimer := if offHome then some (now + limit) else none }

/-- R40: a fit check's pulse starts. -/
def ActiveJob.pulse (now : Nat) (j : ActiveJob) : ActiveJob :=
  { j with phase := .pulse, energizedAt := now, passSeen := false, pulseTimer := some (now + Config.fitPulseMs) }

/-- R26, R40: the drive's claim is granted. -/
def Device.driveGranted (d : Device) : Device :=
  match d.drive.active with
  | none => d
  | some j =>
    match j.job with
    | .fitCheck n => (d.energize n j.companion).updateJob (·.pulse d.now)
    | .unitDrive n _ =>
      let offHome := (d.lane? n).any (·.offHome)
      (d.energize n j.companion).updateJob (·.turn d.now d.drive.turnMs offHome)

/-! ### The payout engine -/

/-- R116: the place and record of the current line, the first OPEN line. -/
def firstOpen (lines : List PlanLine) (at_ : Nat) : Option (Nat × PlanLine) :=
  match lines with
  | [] => none
  | l :: rest => if l.state = .opened then some (at_, l) else firstOpen rest (at_ + 1)

/-- R116: the current line. -/
def Plan.currentLine (p : Plan) : Option (Nat × PlanLine) := firstOpen p.lines 0

/-- R116: a chute window is open. -/
def Payout.windowOpen (p : Payout) : Bool := p.coin.any (·.windowOpen)

/-- R116: the pulse of the current line's coin: solenoid on, the gap in force fixed, the chute window opened. -/
def Payout.pulse (now line : Nat) (tube : Fin 6) (p : Payout) : Payout :=
  { p with solenoid := some tube, onTimer := some (now + p.set.onTime), pulseGap := p.set.gap, gapTimer := none,
           coin := some { tube := tube, line := line, windowOpen := true,
                          attempt := (p.coin.map (·.attempt)).getD .first,
                          windowEnd := now + Config.chuteWindowMs, seen := 0, cut := false } }

/-- R116: the next coin is pulsed when the plan is EJECTING, an OPEN line remains, the solenoid is off, the gap
has ended and no chute window is open. -/
def Device.tryPulse (d : Device) : Device :=
  match d.payout.plan with
  | none => d
  | some plan =>
    if plan.state = .ejecting && d.payout.solenoid.isNone && d.payout.gapTimer.isNone && !d.payout.windowOpen then
      match plan.currentLine with
      | none => d
      | some (i, l) => { d with payout := d.payout.pulse d.now i l.tube }
    else d

/-- Changes the last plan. -/
def Device.updatePlan (f : Plan → Plan) (d : Device) : Device :=
  { d with payout := { d.payout with plan := d.payout.plan.map f } }

/-- R115, R120: a plan in WAIT_LOAD goes on when its claim is granted. -/
def Plan.eject (p : Plan) : Plan := if p.state = .waitLoad then { p with state := .ejecting } else p

/-- R115, R120: the engine's claim is granted: EJECTING, and the next pulse when nothing holds it back. -/
def Device.payoutGranted (d : Device) : Device := (d.updatePlan Plan.eject).tryPulse

/-! ### The compressor and the heaters -/

/-- R149: the start copy fixed at the grant. -/
def Compressor.copy (c : Compressor) : StartCopy :=
  { startWindow := c.set.startWindow, confirmMode := c.set.confirmMode, confirmPolarity := c.set.confirmPolarity,
    minRun := c.set.minRun, levelAtClosing := c.confirmLevel }

/-- R149: the compressor's grant: the relay closes. -/
def Device.compressorGranted (d : Device) : Device :=
  let c := d.compressor
  { d with compressor := { c with state := .starting, startCopy := some c.copy, fanTimer := none,
                                  startTimer := some (d.now + 1000 * c.set.startWindow),
                                  runTimer := some (d.now + 1000 * c.set.minRun) } }

/-- R131: a heater's grant: at the first one the defrost timer starts. -/
def Device.heaterGranted (z : Fin 2) (d : Device) : Device :=
  d.updateZone z fun r =>
    { r with defrost := r.defrost.map fun f =>
               if f.timer.isSome then f else { f with timer := some (d.now + Config.minuteMs * f.maxMinutes) } }

/-- R174: the claimant is told of its grant and acts on it. -/
def Device.onGrant (who : Claimant) (d : Device) : Device :=
  match who with
  | .drive => d.driveGranted
  | .payout => d.payoutGranted
  | .compressor => d.compressorGranted
  | .heater z => d.heaterGranted z

end Sys2Proof.Machine
end

