-- ==== Sys2Proof/Machine/Load.lean ====
section
/-! DEFINITION. The load budget (R172 to R177): claims, the grant test, giving back and withdrawing, and the
requests READ LOAD and AMEND LOAD. -/
namespace Sys2Proof.Machine

/-- R172: the units in the grant set. -/
def LoadBudget.granted (b : LoadBudget) : Nat := (b.grants.map (·.units)).sum

/-- R172: the free units. -/
def LoadBudget.free (b : LoadBudget) : Nat := b.set.budget - b.granted

/-- R172: a claimant holds a grant. -/
def LoadBudget.holds (b : LoadBudget) (who : Claimant) : Bool := b.grants.any (·.who = who)

/-- R174 step 2: the head leaves the waiters and joins the tail of the grant set. -/
def LoadBudget.grantHead (c : Claim) (rest : List Claim) (b : LoadBudget) : LoadBudget :=
  { b with grants := b.grants ++ [c], waiters := rest }

/-- R174: the grant test, repeated while it grants, at most `fuel` times. -/
def Device.grantLoop (fuel : Nat) (d : Device) : Device :=
  match fuel with
  | 0 => d
  | fuel + 1 =>
    match d.load.band, d.load.waiters with
    | .normal, c :: rest =>
      if c.units ≤ d.load.free then
        Device.grantLoop fuel (Device.onGrant c.who { d with load := d.load.grantHead c rest })
      else d
    | _, _ => d

/-- R174: the grant test; each repeat takes one waiter and none joins meanwhile. -/
def Device.grantTest (d : Device) : Device := d.grantLoop d.load.waiters.length

/-- R173: a claim joins the tail of the waiter list and the grant test is made. -/
def Device.claim (c : Claim) (d : Device) : Device :=
  Device.grantTest { d with load := { d.load with waiters := d.load.waiters ++ [c] } }

/-- R175: a holder gives its units back and the grant test is made; without a grant nothing happens. -/
def Device.giveBack (who : Claimant) (d : Device) : Device :=
  if d.load.holds who then
    Device.grantTest { d with load := { d.load with grants := d.load.grants.filter (·.who ≠ who) } }
  else d

/-- R173: a waiting claim is withdrawn, with the grant test when it was the head. -/
def Device.withdraw (who : Claimant) (d : Device) : Device :=
  let left := { d with load := { d.load with waiters := d.load.waiters.filter (·.who ≠ who) } }
  if d.load.waiters.head?.any (·.who = who) then left.grantTest else left

/-- A claimant's grant is given back or its waiting claim withdrawn, whichever it has (R119, R131). -/
def Device.dropLoad (who : Claimant) (d : Device) : Device :=
  if d.load.holds who then d.giveBack who else d.withdraw who

/-! ### Requests (R177) -/

/-- READ LOAD's reply. -/
def loadReply (d : Device) : Reply :=
  let b := d.load
  reply .ok (u8 b.set.budget ++ u16 b.set.lowThreshold ++ u16 b.set.criticalThreshold ++ u8 (bandCode b.band) ++
    unsignedBytes b.supply ++ u8 b.granted ++ u8 b.free ++ counted claimBytes b.grants ++ counted claimBytes b.waiters)

/-- R177: READ LOAD. -/
def execReadLoad (s : State) : Result := .next (s.query loadReply)

/-- R172, R177: the settings that would result, and their ranges. -/
def LoadAmend.applied (a : LoadAmend) (p : LoadSettings) : LoadSettings :=
  { budget := a.budget.getD p.budget, lowThreshold := a.lowThreshold.getD p.lowThreshold,
    criticalThreshold := a.criticalThreshold.getD p.criticalThreshold }

/-- R170, R172, R177: every named value in its range, C no greater than L less 1.0 V. -/
def LoadAmend.inRange (a : LoadAmend) (p : LoadSettings) : Bool :=
  let r := LoadAmend.applied a p
  within 4 8 a.budget && within 180 240 a.lowThreshold && a.criticalThreshold.all (150 ≤ ·) &&
    r.criticalThreshold + 10 ≤ r.lowThreshold

/-- R177: AMEND LOAD on the device's records. -/
def amendLoad (a : LoadAmend) (d : Device) : Device × Reply :=
  let r := LoadAmend.applied a d.load.set
  if !LoadAmend.inRange a d.load.set then refuse .range d
  else if r.budget < d.load.granted then refuse .busy d
  else
    let d' := { d with load := { d.load with set := r } }
    okay (if d.load.set.budget < r.budget then d'.grantTest else d')

/-- R177: AMEND LOAD. -/
def execAmendLoad (a : LoadAmend) (s : State) : Result := .next (s.request (amendLoad a))

end Sys2Proof.Machine
end

