-- ==== Sys2Proof/Machine/Plan.lean ====
section
/-! DEFINITION. The change-plan function (R79 to R83): which coins would pay an amount now. A plan under
calculation is its lines, each a tube and its coins, with the amount that remains. -/
namespace Sys2Proof.Machine

/-- The coins a calculation has given from a tube so far. -/
def givenFrom (lines : List (Fin 6 × Nat)) (t : Fin 6) : Nat :=
  match lines.find? (·.1 = t) with
  | none => 0
  | some l => l.2

/-- R79, R81: coins are given from a tube: added to its line, or to a new line at the end; 0 coins get no line. -/
def giveFrom (lines : List (Fin 6 × Nat)) (t : Fin 6) (n : Nat) : List (Fin 6 × Nat) :=
  if n = 0 then lines
  else if lines.any (·.1 = t) then lines.map fun l => if l.1 = t then (t, l.2 + n) else l
  else lines ++ [(t, n)]

/-- R79: a tube's available coins in a calculation: none unless it is READY and bound. -/
def Device.coinsFree (d : Device) (lines : List (Fin 6 × Nat)) (t : Fin 6) : Nat :=
  let tube := d.payout.tubes[t]
  if tube.state = .ready && tube.boundClass.isSome then tube.count - tube.planned - givenFrom lines t else 0

/-- R80: one entry of the tendered list. -/
def Device.likeStep (d : Device) (acc : List (Fin 6 × Nat) × Nat) (c : Fin 8) : List (Fin 6 × Nat) × Nat :=
  match d.payout.tubeOf c with
  | none => acc
  | some t =>
    let v := d.coins.classes[c].value
    if 0 < d.coinsFree acc.1 t && v ≤ acc.2 then (giveFrom acc.1 t 1, acc.2 - v) else acc

/-- R80: the like-coin pass over the tendered list, oldest entry first. -/
def Device.likePass (d : Device) (acc : List (Fin 6 × Nat) × Nat) : List (Fin 6 × Nat) × Nat :=
  d.credit.tendered.foldl d.likeStep acc

/-- R81: the available tubes in descending order of value, the lower tube number first among equals. -/
def Device.greedyOrder (d : Device) (lines : List (Fin 6 × Nat)) : List (Fin 6) :=
  sortBy (fun s t => d.tubeValue t < d.tubeValue s || (d.tubeValue t = d.tubeValue s && s < t))
    (allTubes.filter fun t => 0 < d.coinsFree lines t)

/-- R81: one tube of the greedy pass gives min(a, r div v) coins. -/
def Device.greedyStep (d : Device) (acc : List (Fin 6 × Nat) × Nat) (t : Fin 6) : List (Fin 6 × Nat) × Nat :=
  let v := d.tubeValue t
  let n := min (d.coinsFree acc.1 t) (acc.2 / v)
  (giveFrom acc.1 t n, acc.2 - n * v)

/-- R81: the greedy pass; its list of tubes is fixed when it begins. -/
def Device.greedyPass (d : Device) (acc : List (Fin 6 × Nat) × Nat) : List (Fin 6 × Nat) × Nat :=
  (d.greedyOrder acc.1).foldl d.greedyStep acc

/-- R79, R83: the change plan of an amount, with or without the like-coin pass: its lines and what remains. -/
def Device.changePlan (d : Device) (like : Bool) (amount : Nat) : List (Fin 6 × Nat) × Nat :=
  d.greedyPass (if like then d.likePass ([], amount) else ([], amount))

/-- R79: the plan's total. -/
def Device.planTotal (d : Device) (like : Bool) (amount : Nat) : Nat := amount - (d.changePlan like amount).2

end Sys2Proof.Machine
end

