-- ==== Sys2Proof/Machine/Credit.lean ====
section
/-! DEFINITION. The acceptance mask (R98), the credit record (R73 to R78, R85), the making of a payout plan
(R115), and the requests READ CREDIT, AMEND CREDIT LIMIT and REFUND (R86 to R88). -/
namespace Sys2Proof.Machine

/-! ### The acceptance mask (R98) -/

/-- R98, R99: the tube route of a class: its bound tube when READY and not full. -/
def Payout.tubeRoute (p : Payout) (c : Fin 8) : Option (Fin 6) :=
  match p.tubeOf c with
  | none => none
  | some t => if p.tubes[t].state = .ready && !p.tubes[t].full then some t else none

/-- R98: the mask holds class c. -/
def Device.accepts (d : Device) (c : Fin 8) : Bool :=
  d.coins.link = .present && d.payout.idle && d.coins.classes[c].enabled &&
  d.credit.balance + d.coins.classes[c].value ≤ d.credit.maxCredit &&
  ((d.payout.tubeRoute c).isSome || d.onRef .cashbox)

/-- A set of classes: class n at bit n (11.6). -/
def classSet (f : Fin 8 → Bool) : BitVec 8 :=
  allClasses.foldl (fun m c => if f c then m ||| (1#8 <<< c.val) else m) 0#8

/-- R98: the mask is recomputed, and a SET_MASK is due when it differs from the mask last acknowledged or that
is absent. -/
def Device.recomputeMask (d : Device) : Device :=
  let m := classSet d.accepts
  { d with coins := { d.coins with mask := m, maskDue := d.coins.acknowledged != some m } }

/-- R98: a recomputation made when something the mask reads has changed. -/
def Device.recomputeIf (changed : Bool) (d : Device) : Device := if changed then d.recomputeMask else d

/-! ### The credit record -/

/-- Changes the committed amount. -/
def Device.setCommitted (n : Nat) (d : Device) : Device := { d with credit := { d.credit with committed := n } }

/-- R75, R78, R98: the balance takes a new value: the tendered list is emptied at 0, CREDIT_CHANGED is raised
and the mask recomputed when the value changed. -/
def Device.setBalance (n : Nat) (d : Device) : Device :=
  if n = d.credit.balance then d
  else
    Device.recomputeMask (Device.raise .creditChanged
      { d with credit := { d.credit with balance := n, tendered := if n = 0 then [] else d.credit.tendered } })

/-- R77: commitment at placement. -/
def Device.commit (cost : Nat) (d : Device) : Device := d.setCommitted (d.credit.committed + cost)

/-- R77: release. -/
def Device.releaseCredit (amount : Nat) (d : Device) : Device := d.setCommitted (d.credit.committed - amount)

/-- R77: the charge of a delivered unit: balance and committed fall together. -/
def Device.charge (price : Nat) (d : Device) : Device :=
  (d.setCommitted (d.credit.committed - price)).setBalance (d.credit.balance - price)

/-- R78: a class joins the tendered list; at 16 entries the oldest leaves first. -/
def tender (c : Fin 8) (list : List (Fin 8)) : List (Fin 8) :=
  (if list.length < Config.maxTendered then list else list.drop 1) ++ [c]

/-- R76: a delivered coin's value and class are credited. -/
def Device.creditCoin (c : Fin 8) (value : Nat) (d : Device) : Device :=
  Device.raise .creditChanged
    { d with credit := { d.credit with balance := d.credit.balance + value,
                                       tendered := tender c d.credit.tendered } }

/-- R77: what a paid coin of value v lowers the balance by. -/
def Credit.debit (c : Credit) (v : Nat) : Nat := min v c.uncommitted

/-! ### Making a plan (R115) -/

/-- R115, R119: the tubes' planned counts rise by the lines' coins. -/
def Device.raisePlanned (lines : List (Fin 6 × Nat)) (d : Device) : Device :=
  lines.foldl (fun d l => d.updateTube l.1 fun t => { t with planned := t.planned + l.2 }) d

/-- R115: a line as it is appended: OPEN with nothing paid. -/
def openLine (l : Fin 6 × Nat) : PlanLine := { tube := l.1, planned := l.2, paid := 0, state := .opened }

/-- R115: the record of a new plan. -/
def newPlan (kind : PlanKind) (req : Requested) (lines : List (Fin 6 × Nat)) : Plan :=
  { kind := kind, requested := req, lines := lines.map openLine, paid := 0, overpaid := 0,
    state := if lines.isEmpty then .ended else .waitLoad,
    result := if lines.isEmpty then some .short else none }

/-- R115: the new plan replaces the last one; a gap left from the last plan's pulse is dropped with it (log 29). -/
def Device.setPlan (p : Plan) (d : Device) : Device :=
  { d with payout := { d.payout with plan := some p, coin := none, gapTimer := none } }

/-- R172: the engine's claim. -/
def payoutClaim : Claim := { who := .payout, units := 1, job := none }

/-- R115: a plan is made from its lines: ended at once without a line, else WAIT_LOAD with 1 unit claimed and
the engine reported not idle. -/
def Device.makePlan (kind : PlanKind) (req : Requested) (lines : List (Fin 6 × Nat)) (d : Device) : Device :=
  let d := (d.setPlan (newPlan kind req lines)).raisePlanned lines
  if lines.isEmpty then d.raise .payoutEnded else (d.claim payoutClaim).recomputeMask

/-- R83, R85: a payback of kind CHANGE or REFUND for an amount. -/
def Device.payBack (kind : PlanKind) (amount : Nat) (d : Device) : Device :=
  d.makePlan kind (.amount amount) (d.changePlan (kind = .refund) amount).1

/-! ### Paybacks (R85) -/

/-- The kind of plan a mark asks for; none for NO. -/
def RefundPending.plan? : RefundPending → Option PlanKind
  | .no => none
  | .change => some .change
  | .refund => some .refund

/-- R85: the mark takes a value; a change raises CREDIT_CHANGED (R75). -/
def Device.markRefund (k : RefundPending) (d : Device) : Device :=
  if d.credit.pending = k then d
  else Device.raise .creditChanged { d with credit := { d.credit with pending := k } }

/-- R85, R88: the engine is idle and no coin is in flight. -/
def Device.moneyStill (d : Device) : Bool := d.payout.idle && d.coins.inFlight.isNone

/-- R85: a set mark is served when money stands still: the mark becomes NO, and U above 0 is paid back. -/
def Device.servePayback (d : Device) : Device :=
  match d.credit.pending.plan? with
  | none => d
  | some kind =>
    if d.moneyStill then
      let u := d.credit.uncommitted
      let d := d.markRefund .no
      if u = 0 then d else d.payBack kind u
    else d

/-- R85: what the mark becomes when a payback of a kind is asked for: REFUND is not overwritten by CHANGE. -/
def RefundPending.join : RefundPending → RefundPending → RefundPending
  | .refund, _ => .refund
  | _, .refund => .refund
  | .change, _ => .change
  | .no, k => k

/-- R85: a payback is asked for: the mark is set and the moment to serve it is tested. -/
def Device.askPayback (k : RefundPending) (d : Device) : Device :=
  (d.markRefund (d.credit.pending.join k)).servePayback

/-! ### Requests -/

/-- R87: READ CREDIT's reply. -/
def creditReply (d : Device) : Reply :=
  let c := d.credit
  reply .ok (u16 c.balance ++ u16 c.committed ++ u16 c.uncommitted ++ u16 c.maxCredit ++ u8 (refundCode c.pending) ++
    yesNo d.coins.inFlight.isSome ++ yesNo d.payout.idle ++ u16 (d.planTotal false c.uncommitted) ++
    counted num c.tendered)

/-- R87: READ CREDIT. -/
def execReadCredit (s : State) : Result := .next (s.query creditReply)

/-- R86: AMEND CREDIT LIMIT on the device's records. -/
def amendCreditLimit (m : Nat) (d : Device) : Device × Reply :=
  if !(1 ≤ m && m ≤ 65535 && d.credit.balance ≤ m) then refuse .range d
  else if d.coins.inFlight.isSome then refuse .busy d
  else okay (Device.recomputeIf (m != d.credit.maxCredit) { d with credit := { d.credit with maxCredit := m } })

/-- R86: AMEND CREDIT LIMIT. -/
def execAmendCreditLimit (m : Nat) (s : State) : Result := .next (s.request (amendCreditLimit m))

/-- R88: REFUND on the device's records. -/
def takeRefund (d : Device) : Device × Reply :=
  let u := d.credit.uncommitted
  if u = 0 then refuse .nothingToPay d
  else if !d.moneyStill then refuse .busy d
  else
    ((d.markRefund .no).payBack .refund u, reply .accepted (u16 u ++ u16 (d.planTotal true u)))

/-- R88: REFUND. -/
def execRefund (s : State) : Result := .next (s.request takeRefund)

end Sys2Proof.Machine
end

