-- ==== Sys2Proof/Machine/Payout.lean ====
section
/-! DEFINITION. The tubes and the payout engine (R109 to R123): coins in and out, pulses and chute windows, jams,
replanning and the end of a plan, and the requests of chapter 6 but READ LINK and AMEND LINK. -/
namespace Sys2Proof.Machine

/-! ### Tubes -/

/-- R111: a coin enters tube t; at capacity the fault is OVERFILL. -/
def Device.coinIn (t : Fin 6) (d : Device) : Device :=
  if d.payout.tubes[t].full then
    Device.raise .tubeFault (d.updateTube t fun r => { r with lastFault := some .overfill })
  else d.updateTube t fun r => { r with count := r.count + 1 }

/-- R117 steps 1 and 2: a coin leaves a tube. -/
def Tube.coinOut (r : Tube) : Tube :=
  let count := r.count - 1
  { r with count := count, planned := min (r.planned - 1) count,
           lastFault := if r.count = 0 then some .underflow else r.lastFault }

/-- R117 steps 1 and 2: the coin leaves tube t; from a count of 0, TUBE_FAULT. -/
def Device.coinOut (t : Fin 6) (d : Device) : Device :=
  let out := d.updateTube t Tube.coinOut
  if d.payout.tubes[t].count = 0 then out.raise .tubeFault else out

/-! ### Replanning and the end of a plan (R114, R119) -/

/-- R114: the value still planned in OPEN lines. -/
def Device.openValue (lines : List PlanLine) (d : Device) : Nat :=
  (lines.map fun l => if l.state = .opened then (l.planned - l.paid) * d.tubeValue l.tube else 0).sum

/-- R114: the unpaid remainder of a CHANGE or REFUND plan; not used for DISPENSE. -/
def Device.unpaid (p : Plan) (d : Device) : Nat :=
  match p.requested with
  | .amount a => a - p.paid - d.openValue p.lines
  | .coins _ _ => 0

/-- R119: the remainder is replanned by the greedy pass and the new lines appended, at most 24 in all. -/
def Device.replan (d : Device) : Device :=
  match d.payout.plan with
  | none => d
  | some p =>
    let u := d.unpaid p
    if u = 0 then d
    else
      let lines := (d.changePlan false u).1.take (Config.maxPlanLines - p.lines.length)
      (d.updatePlan fun p => { p with lines := p.lines ++ lines.map openLine }).raisePlanned lines

/-- R119: the plan is COMPLETE. -/
def Plan.complete (p : Plan) : Bool :=
  match p.requested with
  | .amount a => a ≤ p.paid
  | .coins _ n => p.lines.any fun l => n ≤ l.paid

/-- R119 steps 1 and 2: ENDED with its result, every planned count 0. -/
def Device.closePlan (d : Device) : Device :=
  let ended := d.updatePlan fun p =>
    { p with state := .ended, result := some (if p.complete then .complete else .short) }
  { ended with payout := { ended.payout with tubes := mapAll (fun t => { t with planned := 0 }) ended.payout.tubes } }

/-- R119: the end of a plan, in its six steps. -/
def Device.endPlan (d : Device) : Device :=
  (((d.closePlan.dropLoad .payout).raise .payoutEnded).recomputeMask).servePayback

/-- A plan runs and has an OPEN line. -/
def Payout.hasOpenLine (p : Payout) : Bool := p.plan.any fun plan => plan.currentLine.isSome

/-- R116, R119: after a window's settling: the next pulse, or a replanning and then a pulse or the end. -/
def Device.afterWindow (d : Device) : Device :=
  if d.payout.hasOpenLine then d.tryPulse
  else
    let r := d.replan
    if r.payout.hasOpenLine then r.tryPulse else r.endPlan

/-! ### Chute windows (R117, R118, R120) -/

/-- R118 steps 1 to 3: a second miss jams the tube and its OPEN lines. -/
def Device.jamTube (t : Fin 6) (d : Device) : Device :=
  let jammed := (d.updateTube t fun r => { r with state := .jammed, lastFault := some .jam, planned := 0 }).updatePlan
    fun p => { p with lines := p.lines.map fun l =>
      if l.tube = t && l.state = .opened then { l with state := .jammed } else l }
  (jammed.raise .tubeFault).recomputeMask

/-- Replaces the pending coin. -/
def Device.setCoin (c : Option PendingCoin) (d : Device) : Device := { d with payout := { d.payout with coin := c } }

/-- R116 to R120: a chute window closes: its coin is paid, left unpaid by a revocation, missed once, or jams its
tube; the next step follows. -/
def Device.closeWindow (c : PendingCoin) (d : Device) : Device :=
  if 0 < c.seen then (d.setCoin none).afterWindow
  else if c.cut then
    (d.setCoin (some { c with windowOpen := false, cut := false, attempt := .first })).afterWindow
  else
    match c.attempt with
    | .first => (d.setCoin (some { c with windowOpen := false, attempt := .retry })).afterWindow
    | .retry => (((d.setCoin none).jamTube c.tube).replan).afterWindow

/-- R117 step 3: the coin is counted in its line, DONE at its coins planned. -/
def PlanLine.pay (l : PlanLine) : PlanLine :=
  { l with paid := l.paid + 1, state := if l.state = .opened && l.planned ≤ l.paid + 1 then .done else l.state }

/-- The list with its i-th entry changed. -/
def changeAt {α : Type} (f : α → α) : Nat → List α → List α
  | _, [] => []
  | 0, x :: xs => f x :: xs
  | i + 1, x :: xs => x :: changeAt f i xs

/-- R117 steps 3 and 4. -/
def Plan.payCoin (line v : Nat) (p : Plan) : Plan :=
  { p with lines := changeAt PlanLine.pay line p.lines, paid := satAdd 65535 p.paid v }

/-- R117 step 5: for CHANGE and REFUND the balance falls by min(v, uncommitted); the rest is overpaid. -/
def Device.debitCoin (v : Nat) (d : Device) : Device :=
  if d.payout.plan.any (·.kind ≠ .dispense) then
    let k := d.credit.debit v
    (d.setBalance (d.credit.balance - k)).updatePlan fun p => { p with overpaid := satAdd 65535 p.overpaid (v - k) }
  else d

/-- R117: a count in an open window. -/
def Device.payCoin (c : PendingCoin) (d : Device) : Device :=
  let v := d.tubeValue c.tube
  let counted := d.payout.tubes[c.tube].count
  let d := ((d.setCoin (some { c with seen := c.seen + 1 })).coinOut c.tube).updatePlan (Plan.payCoin c.line v)
  (d.debitCoin v).recomputeIf (counted != 0)

/-- R120: a plan that is EJECTING waits for its load again. -/
def Plan.waitAgain (p : Plan) : Plan := if p.state = .ejecting then { p with state := .waitLoad } else p

/-- R120: the engine's grant is revoked: solenoid off, an open window cut, WAIT_LOAD, and a new claim. -/
def Device.payoutRevoked (d : Device) : Device :=
  let p := d.payout
  let coin := p.coin.map fun c => { c with cut := c.windowOpen }
  let stopped := { d with payout := { p with solenoid := none, onTimer := none, gapTimer := none, coin := coin } }
  (Device.updatePlan Plan.waitAgain stopped).claim payoutClaim

/-! ### Events -/

/-- R116: the pulse ends: the solenoid goes off and the gap runs. -/
def Device.pulseOnEnd (d : Device) : Device :=
  d.onExpiry d.payout.onTimer fun due d =>
    { d with payout := { d.payout with solenoid := none, onTimer := none,
                                       gapTimer := some (due + d.payout.pulseGap) } }

/-- R116: PULSE ON END. -/
def execPulseOnEnd (s : State) : Result := .next (s.event Device.pulseOnEnd)

/-- R116: the gap ends; the next coin is pulsed if its window has closed. -/
def Device.pulseGapEnd (d : Device) : Device :=
  d.onExpiry d.payout.gapTimer fun _ d => Device.tryPulse { d with payout := { d.payout with gapTimer := none } }

/-- R116: PULSE GAP END. -/
def execPulseGapEnd (s : State) : Result := .next (s.event Device.pulseGapEnd)

/-- R116: the close of the open chute window, if one is open. -/
def Device.chuteWindowClose (d : Device) : Device :=
  match d.payout.coin with
  | none => d
  | some c => if c.windowOpen then (d.reach c.windowEnd).closeWindow c else d

/-- R118: CHUTE WINDOW CLOSE. -/
def execChuteWindowClose (s : State) : Result := .next (s.event Device.chuteWindowClose)

/-- R121: a stray chute count. -/
def Device.strayChute (d : Device) : Device :=
  Device.raise .tubeFault { d with payout := { d.payout with strayCount := bump d.payout.strayCount } }

/-- R117, R121: a count of the chute sensor. -/
def Device.chuteCount (d : Device) : Device :=
  match d.payout.coin with
  | none => d.strayChute
  | some c => if c.windowOpen then d.payCoin c else d.strayChute

/-- R117: CHUTE COUNT. -/
def execChuteCount (s : State) : Result := .next (s.event Device.chuteCount)

/-! ### Requests -/

/-- R113: a tube record with its bound class's value. -/
def tubeBytes (d : Device) (r : Tube) : List Byte :=
  optNum r.boundClass ++ u8 r.capacity ++ u8 r.count ++ u8 r.planned ++ u8 (tubeStateCode r.state) ++
    optCode tubeFaultCode r.lastFault ++ presence (fun c => u16 d.coins.classes[c].value) r.boundClass

/-- R113: READ TUBE's reply. -/
def tubesReply (d : Device) : Reply := reply .ok (d.payout.tubes.toList.flatMap (tubeBytes d))

/-- R113: READ TUBE. -/
def execReadTube (s : State) : Result := .next (s.query tubesReply)

/-- R112: the binding that results: absent, or the named class. -/
def TubeAmend.binding (a : TubeAmend) (present : Option (Fin 8)) : Option (Fin 8) :=
  match a.boundClass with
  | none => present
  | some none => none
  | some (some c) => index 8 c

/-- R112: the state after a taken request. -/
def TubeAmend.stateAfter (a : TubeAmend) (r : Tube) : TubeState :=
  let b := TubeAmend.binding a r.boundClass
  if b.isNone then .disabled
  else
    match a.state.bind tubeStateOf with
    | some st => st
    | none => if r.boundClass.isNone then .ready else r.state

/-- R112 check 1. -/
def TubeAmend.inRange (a : TubeAmend) (r : Tube) : Bool :=
  a.boundClass.all (fun b => b.all (· < 8)) && within 1 250 a.capacity && a.capacity.all (r.count ≤ ·) &&
  coded tubeStateOf a.state

/-- R112 check 2: the request changes the binding or the state. -/
def TubeAmend.changes (a : TubeAmend) (r : Tube) : Bool :=
  TubeAmend.binding a r.boundClass != r.boundClass || TubeAmend.stateAfter a r != r.state ||
  (a.state.bind tubeStateOf).any (· ≠ r.state)

/-- R112 check 3: the resulting class, when new, is bound to another tube. -/
def boundElsewhere (d : Device) (t : Fin 6) (b : Option (Fin 8)) : Bool :=
  allTubes.any fun u => u ≠ t && b.isSome && d.payout.tubes[u].boundClass = b

/-- R112 check 4. -/
def TubeAmend.notAllowed (a : TubeAmend) (r : Tube) : Bool :=
  let b := TubeAmend.binding a r.boundClass
  (r.boundClass.isSome && b.isSome && b != r.boundClass && r.count != 0) ||
  (a.state.bind tubeStateOf = some .ready && b.isNone)

/-- R112: the record after a taken request. -/
def TubeAmend.applied (a : TubeAmend) (r : Tube) : Tube :=
  { r with boundClass := TubeAmend.binding a r.boundClass, capacity := a.capacity.getD r.capacity,
           state := TubeAmend.stateAfter a r,
           lastFault := if a.state.bind tubeStateOf = some .ready then none else r.lastFault }

/-- R112: AMEND TUBE on the device's records. -/
def amendTube (tube : Nat) (a : TubeAmend) (d : Device) : Device × Reply :=
  match index 6 tube with
  | none => refuse .range d
  | some t =>
    let r := d.payout.tubes[t]
    let b := TubeAmend.binding a r.boundClass
    if !TubeAmend.inRange a r then refuse .range d
    else if TubeAmend.changes a r && !d.payout.idle then refuse .busy d
    else if b != r.boundClass && boundElsewhere d t b then refuse .exists_ d
    else if TubeAmend.notAllowed a r then refuse .notAllowed d
    else
      let r' := TubeAmend.applied a r
      okay ((d.updateTube t (TubeAmend.applied a)).recomputeIf
        (r'.boundClass != r.boundClass || r'.state != r.state || r'.capacity != r.capacity))

/-- R112: AMEND TUBE. -/
def execAmendTube (tube : Nat) (a : TubeAmend) (s : State) : Result := .next (s.request (amendTube tube a))

/-- R113: SET TUBE COUNT on the device's records. -/
def setTubeCount (tube count : Nat) (d : Device) : Device × Reply :=
  match index 6 tube with
  | none => refuse .range d
  | some t =>
    let r := d.payout.tubes[t]
    if r.capacity < count then refuse .range d
    else if !d.payout.idle then refuse .busy d
    else ((d.updateTube t fun r => { r with count := count }).recomputeIf (count != r.count), reply .ok (u8 r.count))

/-- R113: SET TUBE COUNT. -/
def execSetTubeCount (tube count : Nat) (s : State) : Result := .next (s.request (setTubeCount tube count))

/-- R122: DISPENSE on the device's records. -/
def dispense (tube n : Nat) (d : Device) : Device × Reply :=
  match index 6 tube with
  | none => refuse .range d
  | some t =>
    let r := d.payout.tubes[t]
    if !(1 ≤ n && n ≤ 250) then refuse .range d
    else if !d.moneyStill || d.credit.pending != .no then refuse .busy d
    else if r.state ≠ .ready then refuse .notAllowed d
    else if r.count - r.planned < n then refuse .noChange d
    else (d.makePlan .dispense (.coins t n) [(t, n)], reply .accepted [])

/-- R122: DISPENSE. -/
def execDispense (tube n : Nat) (s : State) : Result := .next (s.request (dispense tube n))

/-- R123: a line of the plan. -/
def lineBytes (l : PlanLine) : List Byte :=
  num l.tube ++ u8 l.planned ++ u16 l.paid ++ u8 (lineStateCode l.state)

/-- R114: the amount requested. -/
def requestedBytes : Requested → List Byte
  | .amount a => u16 a
  | .coins t n => num t ++ u8 n

/-- R123: the last plan whole. -/
def planBytes (p : Plan) : List Byte :=
  u8 (planKindCode p.kind) ++ requestedBytes p.requested ++ counted lineBytes p.lines ++ u16 p.paid ++
    u16 p.overpaid ++ u8 (planStateCode p.state) ++ optCode planResultCode p.result

/-- R123: the pending coin; the counts seen in the window in 1 byte, modulo 256 (log 9). -/
def coinBytes (c : PendingCoin) : List Byte :=
  num c.tube ++ u8 (attemptCode c.attempt) ++ yesNo c.windowOpen ++ u8 c.seen

/-- R123: READ PAYOUT's reply. -/
def payoutReply (d : Device) : Reply :=
  let p := d.payout
  reply .ok (yesNo p.idle ++ presence planBytes p.plan ++ (if p.idle then [] else presence coinBytes p.coin) ++
    u16 p.set.onTime ++ u16 p.set.gap ++ u16 p.strayCount)

/-- R123: READ PAYOUT. -/
def execReadPayout (s : State) : Result := .next (s.query payoutReply)

/-- R123: AMEND PAYOUT on the device's records. -/
def amendPayout (a : PayoutAmend) (d : Device) : Device × Reply :=
  if within 20 200 a.onTime && within 20 500 a.gap && within 0 0 a.strayCount then
    okay { d with payout :=
      { d.payout with set := { onTime := a.onTime.getD d.payout.set.onTime, gap := a.gap.getD d.payout.set.gap },
                      strayCount := a.strayCount.getD d.payout.strayCount } }
  else refuse .range d

/-- R123: AMEND PAYOUT. -/
def execAmendPayout (a : PayoutAmend) (s : State) : Result := .next (s.request (amendPayout a))

end Sys2Proof.Machine
end

