-- ==== Sys2Proof/Machine/Coins.lean ====
section
/-! DEFINITION. Coin acceptance (R90 to R106): the coin link's frames and exchanges, the routing handshake, the
link's events, and the class, cash box and link requests. -/
namespace Sys2Proof.Machine

/-- Changes the coin acceptance records. -/
def Device.updateCoins (f : CoinAcceptance → CoinAcceptance) (d : Device) : Device := { d with coins := f d.coins }

/-! ### Frames (R90, R91, 11.6) -/

/-- R90: the check byte: the exclusive-OR of every byte before it. -/
def checkByte (bytes : List Byte) : Byte := bytes.foldl (· ^^^ ·) 0#8

/-- 11.6: a message's kind code and payload. -/
def messageBody : Message → Nat × List Byte
  | .poll => (0x01, [])
  | .setMask m => (0x02, [m])
  | .route c r => (0x03, u8 c.val ++ u8 (routeCode r))
  | .identify => (0x04, [])

/-- R90: a message as a frame to the acceptor, unit 6. -/
def messageFrame (m : Message) : List Byte :=
  let b := messageBody m
  let head := u8 6 ++ u8 b.1 ++ u8 b.2.length ++ b.2
  head ++ [checkByte head]

/-- R91: the acceptor's reports. -/
inductive Report where
  | idle
  | coinReady (c : Fin 8)
  | coinDone (c : Fin 8)
  | coinReturned (c : Fin 8)
  | returnLever
  | fault (code : Nat)
  | ident (bytes : List Byte)
  deriving DecidableEq, Repr

/-- R90: a received frame is not discarded. -/
def frameKept (bytes : List Byte) (framingError : Bool) : Bool :=
  match bytes with
  | addr :: _ :: len :: _ =>
    !framingError && len.toNat ≤ 8 && bytes.length = 4 + len.toNat &&
      bytes.getLast? == some (checkByte bytes.dropLast) && addr = 1#8
  | _ => false

/-- R91: a report that names a class, none above 7. -/
def classReport (f : Fin 8 → Report) (c : Byte) : Option Report := (index 8 c.toNat).map f

/-- R91, 11.6: the report a kind and payload make, none for a bad reply (log 20). -/
def reportOf (kind : Nat) (payload : List Byte) : Option Report :=
  match kind, payload with
  | 0x10, [] => some .idle
  | 0x11, [c] => classReport .coinReady c
  | 0x12, [c] => classReport .coinDone c
  | 0x13, [c] => classReport .coinReturned c
  | 0x14, [] => some .returnLever
  | 0x15, [c] => if c = 0#8 then none else some (.fault c.toNat)
  | 0x16, b :: bs => some (.ident (b :: bs))
  | _, _ => none

/-- R91: IDENT answers IDENTIFY and nothing else. -/
def Report.fits (r : Report) (m : Message) : Bool :=
  match r, m with
  | .ident _, .identify => true
  | .ident _, _ => false
  | _, .identify => false
  | _, _ => true

/-- R92: the report of a good reply to a message, none for a bad reply. -/
def goodReply (m : Message) (bytes : List Byte) (framingError : Bool) : Option Report :=
  if frameKept bytes framingError then
    match bytes with
    | _ :: kind :: _ :: rest => (reportOf kind.toNat rest.dropLast).filter (·.fits m)
    | _ => none
  else none

/-! ### Exchanges (R92, R93, R100) -/

/-- R92: the device sends a message and waits for its reply; a SET_MASK taken is no longer due, and an IDENTIFY
starts its 500 ms. -/
def Device.send (m : Message) (d : Device) : Device :=
  d.updateCoins fun c =>
    { c with exchange := some { message := m, replyStarted := false, replyTimer := some (d.now + Config.replyMs) },
             lastSent := messageFrame m, slotTimer := none,
             maskDue := c.maskDue && (match m with
                                      | .setMask _ => false
                                      | _ => true),
             identifyTimer := if m = .identify then some (d.now + Config.identifyMs) else c.identifyTimer }

/-- R100: a ROUTE is due. -/
def CoinAcceptance.routeDue (c : CoinAcceptance) : Bool := c.inFlight.any (·.routeState = .due)

/-- R92: the first message due at a slot. -/
def CoinAcceptance.slotMessage (c : CoinAcceptance) : Message :=
  match c.inFlight with
  | some coin =>
    if coin.routeState = .due then .route coin.coinClass coin.route
    else if c.maskDue then .setMask c.mask else .poll
  | none => if c.maskDue then .setMask c.mask else .poll

/-- R92: a slot opens while PRESENT with no exchange under way. -/
def Device.openSlot (d : Device) : Device :=
  if d.coins.link = .present && d.coins.exchange.isNone then d.send d.coins.slotMessage else d

/-- R92, R100: the exchange has ended: the next slot is timed, or opens at once for a ROUTE. -/
def Device.afterExchange (d : Device) : Device :=
  if d.coins.link = .present && d.coins.exchange.isNone then
    if d.coins.routeDue then d.openSlot
    else d.updateCoins fun c => { c with slotTimer := some (d.now + c.pollPeriod) }
  else d

/-! ### The routing handshake (R99 to R103) -/

/-- R76, R103: the handshake ends: record and marker cleared, CREDIT_CHANGED, a pending payback tested. -/
def Device.endHandshake (d : Device) : Device :=
  Device.servePayback (Device.raise .creditChanged (d.updateCoins fun c => { c with inFlight := none, marker := none }))

/-- R103: a handshake ends uncertain. -/
def Device.endUncertain (coin : CoinInFlight) (cause : UncertainCause) (d : Device) : Device :=
  let u : UncertainCoin := { coinClass := coin.coinClass, value := coin.value, route := coin.route,
                             routeState := some coin.routeState, cause := cause }
  ((d.updateCoins fun c => { c with uncertain := some u }).endHandshake).raise .coinUncertain

/-- R99: the route of an offered class, with the reason of a REJECT. -/
def Device.routeFor (d : Device) (c : Fin 8) : Route × Option RejectReason :=
  let r := d.coins.classes[c]
  if !r.enabled then (.reject, some .disabled)
  else if !d.payout.idle then (.reject, some .payout)
  else if d.credit.maxCredit < d.credit.balance + r.value then (.reject, some .limit)
  else
    match d.payout.tubeRoute c with
    | some t => (.tube t, none)
    | none => if d.onRef .cashbox then (.cashbox, none) else (.reject, some .noRoute)

/-- R99: a handshake begins. -/
def Device.offer (c : Fin 8) (d : Device) : Device :=
  let r := d.routeFor c
  let v := d.coins.classes[c].value
  d.updateCoins fun k =>
    { k with inFlight := some { coinClass := c, value := v, route := r.1, reason := r.2, routeState := .due,
                                offeredAt := d.now },
             marker := some { coinClass := c, value := v, route := r.1 } }

/-- R100, R102: the route state of the coin in flight. -/
def Device.setRouteState (r : RouteState) (d : Device) : Device :=
  d.updateCoins fun c => { c with inFlight := c.inFlight.map fun k => { k with routeState := r } }

/-- R99, R102: COIN_READY. -/
def Device.coinReady (c : Fin 8) (d : Device) : Device :=
  match d.coins.inFlight with
  | none => d.offer c
  | some coin => if coin.coinClass = c then d.setRouteState .due else (d.endUncertain coin .protocol).offer c

/-- R101 step 1: the coin is counted where it was routed. -/
def Device.countCoin (coin : CoinInFlight) (d : Device) : Device :=
  match coin.route with
  | .tube t => d.coinIn t
  | .cashbox => d.updateCoins fun c => { c with cashbox := put c.cashbox coin.coinClass (bump c.cashbox[coin.coinClass]) }
  | .reject => d

/-- R101: COIN_DONE. -/
def Device.coinDone (c : Fin 8) (d : Device) : Device :=
  match d.coins.inFlight with
  | none => d
  | some coin =>
    if coin.route = .reject || coin.coinClass ≠ c then d.endUncertain coin .protocol
    else (((d.countCoin coin).creditCoin coin.coinClass coin.value).endHandshake).recomputeMask

/-- R102: COIN_RETURNED. -/
def Device.coinReturned (d : Device) : Device := if d.coins.inFlight.isSome then d.endHandshake else d

/-! ### Replies (R92 to R94) -/

/-- R93: a good IDENT while ABSENT. -/
def Device.linkPresent (bytes : List Byte) (d : Device) : Device :=
  let d := d.updateCoins fun c => { c with link := .present, identity := some bytes, identifyTimer := none }
  ((d.raise .linkChanged).recomputeMask).updateCoins fun c => { c with maskDue := true }

/-- R94: the report of a good reply. -/
def Device.handleReport (r : Report) (d : Device) : Device :=
  match r with
  | .idle => d
  | .coinReady c => d.coinReady c
  | .coinDone c => d.coinDone c
  | .coinReturned _ => d.coinReturned
  | .returnLever => d.askPayback .refund
  | .fault code =>
    Device.raise .linkChanged
      (d.updateCoins fun c => { c with lastFault := some code, faultCount := satAdd 255 c.faultCount 1 })
  | .ident bytes => d.linkPresent bytes

/-- R94, R98, R100: what a good reply to a message does before its report is handled. -/
def Device.acknowledge (m : Message) (d : Device) : Device :=
  match m with
  | .setMask k => d.updateCoins fun c => { c with acknowledged := some k, maskDue := c.maskDue || c.mask != k }
  | .route _ _ => d.setRouteState .sent
  | .poll | .identify => d

/-- The exchange is over. -/
def Device.closeExchange (d : Device) : Device := d.updateCoins fun c => { c with exchange := none }

/-- R92: a good reply. -/
def Device.replied (m : Message) (r : Report) (d : Device) : Device :=
  (((d.closeExchange.updateCoins fun c => { c with missCount := 0 }).acknowledge m).handleReport r).afterExchange

/-- R93: the coin in flight, if any, ends uncertain as the link is lost. -/
def Device.loseCoin (d : Device) : Device :=
  match d.coins.inFlight with
  | none => d
  | some coin => d.endUncertain coin .linkLost

/-- R93: the link goes ABSENT. -/
def Device.linkLost (d : Device) : Device :=
  let d := d.updateCoins fun c => { c with link := .absent, missCount := 0, acknowledged := none, slotTimer := none }
  (((d.recomputeMask).loseCoin).raise .linkChanged).send .identify

/-- R92, R93, R98: a bad or missing reply. -/
def Device.missed (m : Message) (d : Device) : Device :=
  let d := d.closeExchange.updateCoins fun c =>
    { c with maskDue := c.maskDue || (match m with
                                      | .setMask _ => true
                                      | _ => false) }
  match d.coins.link with
  | .absent => d
  | .present =>
    let d := d.updateCoins fun c => { c with missCount := c.missCount + 1 }
    if Config.missLimit ≤ d.coins.missCount then d.linkLost else d.afterExchange

/-! ### Events -/

/-- R92: a slot opens when the poll period has elapsed. -/
def Device.linkSlot (d : Device) : Device :=
  d.onExpiry d.coins.slotTimer fun _ d => (d.updateCoins fun c => { c with slotTimer := none }).openSlot

/-- R92: LINK SLOT. -/
def execLinkSlot (s : State) : Result := .next (s.event Device.linkSlot)

/-- R93: 500 ms after the last IDENTIFY; while an exchange is under way the message stays due (log 22). -/
def Device.identifyExpiry (d : Device) : Device :=
  d.onExpiry d.coins.identifyTimer fun _ d =>
    if d.coins.link = .absent && d.coins.exchange.isNone then d.send .identify else d

/-- R93: IDENTIFY TIMER. -/
def execIdentifyTimer (s : State) : Result := .next (s.event Device.identifyExpiry)

/-- R92: the first byte of the reply. -/
def Device.linkFirstByte (d : Device) : Device :=
  d.updateCoins fun c =>
    { c with exchange := c.exchange.map fun e =>
        if e.replyTimer.isSome then { e with replyStarted := true, replyTimer := none } else e }

/-- R92: LINK FIRST BYTE. -/
def execLinkFirstByte (s : State) : Result := .next (s.event Device.linkFirstByte)

/-- R92: a frame has ended: the reply of the exchange whose first byte came, else discarded unread (log 19). -/
def Device.linkFrame (bytes : List Byte) (framingError : Bool) (d : Device) : Device :=
  match d.coins.exchange with
  | none => d
  | some e =>
    if e.replyStarted then
      match goodReply e.message bytes framingError with
      | some r => d.replied e.message r
      | none => d.missed e.message
    else d

/-- R92: LINK FRAME. -/
def execLinkFrame (bytes : List Byte) (framingError : Bool) (s : State) : Result :=
  .next (s.event (Device.linkFrame bytes framingError))

/-- R92: no byte of the reply within 15 ms. -/
def Device.linkReplyTimeout (d : Device) : Device :=
  match d.coins.exchange with
  | none => d
  | some e => d.onExpiry e.replyTimer fun _ d => d.missed e.message

/-- R92: LINK REPLY TIMEOUT. -/
def execLinkReplyTimeout (s : State) : Result := .next (s.event Device.linkReplyTimeout)

/-- R103: 1000 ms pass from the offer. -/
def Device.coinTimeout (d : Device) : Device :=
  match d.coins.inFlight with
  | none => d
  | some coin => (d.reach (coin.offeredAt + Config.coinMs)).endUncertain coin .timeout

/-- R103: COIN TIMEOUT. -/
def execCoinTimeout (s : State) : Result := .next (s.event Device.coinTimeout)

/-! ### Requests -/

/-- R95: a class record with its binding and cash box count. -/
def classBytes (d : Device) (c : Fin 8) : List Byte :=
  u16 d.coins.classes[c].value ++ yesNo d.coins.classes[c].enabled ++ optNum (d.payout.tubeOf c) ++
    u16 d.coins.cashbox[c]

/-- R95: READ CLASS's reply. -/
def classReply (d : Device) : Reply := reply .ok (allClasses.flatMap (classBytes d))

/-- R95: READ CLASS. -/
def execReadClass (s : State) : Result := .next (s.query classReply)

/-- R96: the record after a taken request. -/
def ClassAmend.applied (a : ClassAmend) (r : CoinClass) : CoinClass :=
  { value := a.value.getD r.value, enabled := decoded yesNoOf a.enabled r.enabled }

/-- R96: AMEND CLASS on the device's records. -/
def amendClass (coinClass : Nat) (a : ClassAmend) (d : Device) : Device × Reply :=
  match index 8 coinClass with
  | none => refuse .range d
  | some c =>
    let r := d.coins.classes[c]
    if !(within 1 10000 a.value && coded yesNoOf a.enabled) then refuse .range d
    else if a.value.any (· ≠ r.value) && !d.payout.idle then refuse .busy d
    else okay (d.updateCoins fun k => { k with classes := put k.classes c (ClassAmend.applied a r) }).recomputeMask

/-- R96: AMEND CLASS. -/
def execAmendClass (coinClass : Nat) (a : ClassAmend) (s : State) : Result := .next (s.request (amendClass coinClass a))

/-- R97: the eight cash box counts. -/
def cashboxBytes (d : Device) : List Byte := d.coins.cashbox.toList.flatMap u16

/-- R97: READ CASHBOX's reply. -/
def cashboxReply (d : Device) : Reply := reply .ok (cashboxBytes d)

/-- R97: READ CASHBOX. -/
def execReadCashbox (s : State) : Result := .next (s.query cashboxReply)

/-- R97: CLEAR CASHBOX on the device's records. -/
def clearCashbox (d : Device) : Device × Reply :=
  (d.updateCoins fun c => { c with cashbox := Vector.replicate 8 0 }, cashboxReply d)

/-- R97: CLEAR CASHBOX. -/
def execClearCashbox (s : State) : Result := .next (s.request clearCashbox)

/-- R106: the coin in flight. -/
def inFlightBytes (now : Nat) (c : CoinInFlight) : List Byte :=
  num c.coinClass ++ u16 c.value ++ u8 (routeCode c.route) ++ optCode reasonCode c.reason ++
    u8 (routeStateCode c.routeState) ++ u16 (now - c.offeredAt)

/-- R103, R106: the last uncertain coin. -/
def uncertainBytes (c : UncertainCoin) : List Byte :=
  num c.coinClass ++ u16 c.value ++ u8 (routeCode c.route) ++ optCode routeStateCode c.routeState ++
    u8 (uncertainCode c.cause)

/-- R106: READ LINK's reply; the fault count in 1 byte (log 9). -/
def linkReply (d : Device) : Reply :=
  let c := d.coins
  reply .ok (u8 (linkStateCode c.link) ++ u8 c.missCount ++ u16 c.pollPeriod ++ [c.mask] ++
    presence (fun m => [m]) c.acknowledged ++ yesNo c.maskDue ++ presence (inFlightBytes d.now) c.inFlight ++
    presence uncertainBytes c.uncertain ++ presence (counted fun b => [b]) c.identity ++ presence u8 c.lastFault ++
    u8 c.faultCount)

/-- R106: READ LINK. -/
def execReadLink (s : State) : Result := .next (s.query linkReply)

/-- R106: AMEND LINK on the device's records. -/
def amendLink (a : LinkAmend) (d : Device) : Device × Reply :=
  if within 20 200 a.pollPeriod && within 0 0 a.faultCount then
    okay (d.updateCoins fun c =>
      { c with pollPeriod := a.pollPeriod.getD c.pollPeriod, faultCount := a.faultCount.getD c.faultCount })
  else refuse .range d

/-- R106: AMEND LINK. -/
def execAmendLink (a : LinkAmend) (s : State) : Result := .next (s.request (amendLink a))

end Sys2Proof.Machine
end

