-- ==== Sys2Proof/Machine/Image.lean ====
section
/-! DEFINITION. The stored image (R186): the device's saved fields as bytes in the order R186 lists them, and the
fields read back from the bytes. The byte layout is the model's (log 7). -/
namespace Sys2Proof.Machine

/-! ### Writing -/

/-- R186: a lane record, every field but reserved, in the order of R1. -/
def laneImage (n : Fin 64) (l : Lane) : List Byte :=
  num n ++ u8 (baseCode l.base) ++ yesNo l.held ++ yesNo l.spoiled ++ u16 l.product ++ u16 l.price ++ u8 l.capacity ++
    u8 l.stock ++ num l.zone ++ u8 (laneClassCode l.laneClass) ++ optNum l.companion ++ u8 l.turns ++
    u8 l.extraTurns ++ u8 (dropCheckCode l.dropCheck) ++ u16 l.stamp.toNat ++ u16 l.baseline ++ yesNo l.offHome ++
    u8 l.jams ++ u16 l.sales ++ u16 (l.lastTurn.getD 0)

/-- The length of laneImage. -/
def laneImageBytes : Nat := 26

/-- R186: a slot: the mark, then the record or zeros. -/
def slotImage (d : Device) (n : Fin 64) : List Byte :=
  match d.lane? n with
  | none => u8 0 ++ List.replicate laneImageBytes 0#8
  | some l => u8 1 ++ laneImage n l

/-- R186: a coin class record. -/
def classImage (d : Device) (c : Fin 8) : List Byte :=
  u16 d.coins.classes[c].value ++ yesNo d.coins.classes[c].enabled ++ optNum (d.payout.tubeOf c)

/-- R186: a tube record. -/
def tubeImage (t : Tube) : List Byte := optNum t.boundClass ++ u8 t.capacity ++ u8 t.count ++ u8 (tubeStateCode t.state)

/-- R186: a zone's settings and accumulator. -/
def zoneImage (z : Zone) : List Byte :=
  onOff z.set.enabled ++ i16 z.set.setPoint ++ i16 z.set.differential ++ i16 z.set.warmLimit ++ yesNo z.set.holdChilled ++
    u16 z.set.allowance ++ u16 z.set.defrostInterval ++ i16 z.set.defrostEnd ++ u16 z.set.defrostMax ++ u16 z.exposure

/-- R186: the compressor's settings. -/
def compressorImage (c : CompressorSettings) : List Byte :=
  u16 c.minRest ++ u16 c.minRun ++ u16 c.startWindow ++ u8 (confirmModeCode c.confirmMode) ++
    u8 (levelCode c.confirmPolarity) ++ i16 c.hotLimit

/-- R186: a channel setup. -/
def channelImage (s : ChannelSetup) : List Byte := u8 (curveCode s.curve) ++ i16 s.offset ++ yesNo s.enabled

/-- R186: the saved fields, after the header and before the CRC-16. -/
def imageFields (d : Device) : List Byte :=
  u8 d.drive.set.turnLimit ++ u8 d.drive.set.dropWindow ++ u16 d.payout.set.onTime ++ u16 d.payout.set.gap ++
    u16 d.coins.pollPeriod ++ u8 d.load.set.budget ++ u16 d.load.set.lowThreshold ++ u16 d.load.set.criticalThreshold ++
    u16 d.powerLossCharge ++ allLanes.flatMap (slotImage d) ++ u16 d.table.stampCounter.toNat ++
    allClasses.flatMap (classImage d) ++ d.coins.cashbox.toList.flatMap u16 ++ d.payout.tubes.toList.flatMap tubeImage ++
    u16 d.credit.maxCredit ++ d.zones.toList.flatMap zoneImage ++ compressorImage d.compressor.set ++
    d.scanner.setups.toList.flatMap channelImage ++ u16 d.scanner.period ++
    d.inputs.toList.flatMap fun i => u8 (levelCode i.reference)

/-- R186: the fixed length of the format 3 image, its header and CRC-16 counted. -/
def imageLength : Nat := 1908

/-- R186: the image of the records as they stand. -/
def imageOf (d : Device) : List Byte :=
  let body := u8 Config.imageFormat ++ u16 imageLength ++ imageFields d
  body ++ u16 (crc16 body).toNat

/-- R188: the image's pages. -/
def imagePages : Nat := (imageLength + Config.pageBytes - 1) / Config.pageBytes

/-- R188: the bytes of a page of the snapshot. -/
def pageOf (image : List Byte) (page : Nat) : List Byte := (image.drop (page * Config.pageBytes)).take Config.pageBytes

/-! ### Reading -/

/-- A byte read from the front; a missing byte reads 0. -/
def get8 : List Byte → Nat × List Byte
  | [] => (0, [])
  | b :: bs => (b.toNat, bs)

/-- Two bytes read. -/
def get16 (bs : List Byte) : Nat × List Byte :=
  let (h, bs) := get8 bs
  let (l, bs) := get8 bs
  (256 * h + l, bs)

/-- A signed number of two bytes read. -/
def getInt (bs : List Byte) : Int × List Byte :=
  let (n, bs) := get16 bs
  (if n < 32768 then n else (n : Int) - 65536, bs)

/-- A yes or no read. -/
def getBool (bs : List Byte) : Bool × List Byte :=
  let (n, bs) := get8 bs
  (n = 1, bs)

/-- A code read, by the enumeration's reader. -/
def getCode {α : Type} (f : Nat → Option α) (other : α) (bs : List Byte) : α × List Byte :=
  let (n, bs) := get8 bs
  ((f n).getD other, bs)

/-- A number below n or absent, read. -/
def getOpt (n : Nat) (bs : List Byte) : Option (Fin n) × List Byte :=
  let (k, bs) := get8 bs
  (index n k, bs)

/-- n records read. -/
def getMany {α : Type} (f : List Byte → α × List Byte) : Nat → List Byte → List α × List Byte
  | 0, bs => ([], bs)
  | n + 1, bs =>
    let (x, bs) := f bs
    let (xs, bs) := getMany f n bs
    (x :: xs, bs)

/-- A table of n entries from a list, filled up with `other`. -/
def tableOf {α : Type} (n : Nat) (other : α) (xs : List α) : Vector α n :=
  ⟨⟨(List.range n).map fun i => xs.getD i other⟩, by simp⟩

/-- R2: a saved base state. -/
def baseOf : Nat → Option BaseState
  | 0 => some .checking
  | 1 => some .inService
  | 2 => some .noMotor
  | 3 => some .jammed
  | 4 => some .offline
  | _ => none

/-- R109: a saved tube state. -/
def savedTubeStateOf : Nat → Option TubeState
  | 0 => some .ready
  | 1 => some .jammed
  | 2 => some .disabled
  | _ => none

/-- A saved lane record; reserved is 0 (R20). -/
def getLane (bs : List Byte) : Lane × List Byte :=
  let (_, bs) := get8 bs
  let (base, bs) := getCode baseOf .offline bs
  let (held, bs) := getBool bs
  let (spoiled, bs) := getBool bs
  let (product, bs) := get16 bs
  let (price, bs) := get16 bs
  let (capacity, bs) := get8 bs
  let (stock, bs) := get8 bs
  let (zone, bs) := getCode (index 2) 0 bs
  let (laneClass, bs) := getCode laneClassOf .ambient bs
  let (companion, bs) := getOpt 64 bs
  let (turns, bs) := get8 bs
  let (extraTurns, bs) := get8 bs
  let (dropCheck, bs) := getCode dropCheckOf .required bs
  let (stamp, bs) := get16 bs
  let (baseline, bs) := get16 bs
  let (offHome, bs) := getBool bs
  let (jams, bs) := get8 bs
  let (sales, bs) := get16 bs
  let (last, bs) := get16 bs
  ({ base := base, held := held, spoiled := spoiled, product := product, price := price, capacity := capacity,
     stock := stock, reserved := 0, zone := zone, laneClass := laneClass, companion := companion, turns := turns,
     extraTurns := extraTurns, dropCheck := dropCheck, stamp := BitVec.ofNat 16 stamp, baseline := baseline,
     offHome := offHome, jams := jams, sales := sales, lastTurn := if last = 0 then none else some last }, bs)

/-- A saved slot. -/
def getSlot (bs : List Byte) : Option Lane × List Byte :=
  let (mark, bs) := getBool bs
  let (lane, bs) := getLane bs
  (if mark then some lane else none, bs)

/-- A saved class record; its binding is read from the tubes, which agree with it (R124). -/
def getClass (bs : List Byte) : CoinClass × List Byte :=
  let (value, bs) := get16 bs
  let (enabled, bs) := getBool bs
  let (_, bs) := get8 bs
  ({ value := value, enabled := enabled }, bs)

/-- A saved tube record (R124). -/
def getTube (bs : List Byte) : Tube × List Byte :=
  let (boundClass, bs) := getOpt 8 bs
  let (capacity, bs) := get8 bs
  let (count, bs) := get8 bs
  let (state, bs) := getCode savedTubeStateOf .disabled bs
  ({ boundClass := boundClass, capacity := capacity, count := count, planned := 0, state := state,
     lastFault := none }, bs)

/-- A zone's saved settings and accumulator, in a zone that is otherwise at its default. -/
def getZone (bs : List Byte) : Zone × List Byte :=
  let (enabled, bs) := getCode onOffOf false bs
  let (setPoint, bs) := getInt bs
  let (differential, bs) := getInt bs
  let (warmLimit, bs) := getInt bs
  let (holdChilled, bs) := getBool bs
  let (allowance, bs) := get16 bs
  let (defrostInterval, bs) := get16 bs
  let (defrostEnd, bs) := getInt bs
  let (defrostMax, bs) := get16 bs
  let (exposure, bs) := get16 bs
  ({ Zone.default with
     set := { enabled := enabled, setPoint := setPoint, differential := differential, warmLimit := warmLimit,
              holdChilled := holdChilled, allowance := allowance, defrostInterval := defrostInterval,
              defrostEnd := defrostEnd, defrostMax := defrostMax }
     exposure := exposure }, bs)

/-- The compressor's saved settings. -/
def getCompressor (bs : List Byte) : CompressorSettings × List Byte :=
  let (minRest, bs) := get16 bs
  let (minRun, bs) := get16 bs
  let (startWindow, bs) := get16 bs
  let (confirmMode, bs) := getCode confirmModeOf .delay bs
  let (confirmPolarity, bs) := getCode levelOf .high bs
  let (hotLimit, bs) := getInt bs
  ({ minRest := minRest, minRun := minRun, startWindow := startWindow, confirmMode := confirmMode,
     confirmPolarity := confirmPolarity, hotLimit := hotLimit }, bs)

/-- A saved channel setup. -/
def getChannel (bs : List Byte) : ChannelSetup × List Byte :=
  let (curve, bs) := getCode curveOf .a bs
  let (offset, bs) := getInt bs
  let (enabled, bs) := getBool bs
  ({ curve := curve, offset := offset, enabled := enabled }, bs)

/-- A saved reference level. -/
def getLevel (bs : List Byte) : Level × List Byte := getCode levelOf .low bs

/-- Input records with saved reference levels. -/
def withReferences (inputs : Vector Input 4) (levels : List Level) : Vector Input 4 :=
  tableOf 4 Input.default
    ((inputs.toList.zip levels).map fun x => { x.1 with reference := x.2 })

/-- R187: the device takes the saved fields from the bytes after the header. -/
def Device.loadFields (bs : List Byte) (d : Device) : Device :=
  let (turnLimit, bs) := get8 bs
  let (dropWindow, bs) := get8 bs
  let (onTime, bs) := get16 bs
  let (gap, bs) := get16 bs
  let (pollPeriod, bs) := get16 bs
  let (budget, bs) := get8 bs
  let (low, bs) := get16 bs
  let (critical, bs) := get16 bs
  let (charge, bs) := get16 bs
  let (slots, bs) := getMany getSlot 64 bs
  let (stamp, bs) := get16 bs
  let (classes, bs) := getMany getClass 8 bs
  let (cashbox, bs) := getMany get16 8 bs
  let (tubes, bs) := getMany getTube 6 bs
  let (maxCredit, bs) := get16 bs
  let (zones, bs) := getMany getZone 2 bs
  let (compressor, bs) := getCompressor bs
  let (setups, bs) := getMany getChannel 8 bs
  let (period, bs) := get16 bs
  let (levels, _) := getMany getLevel 4 bs
  { d with
    table := { d.table with slots := tableOf 64 none slots, stampCounter := BitVec.ofNat 16 stamp }
    drive := { d.drive with set := { turnLimit := turnLimit, dropWindow := dropWindow } }
    credit := { d.credit with maxCredit := maxCredit }
    coins := { d.coins with pollPeriod := pollPeriod, classes := tableOf 8 { value := 1, enabled := false } classes,
                            cashbox := tableOf 8 0 cashbox }
    payout := { d.payout with tubes := tableOf 6 Tube.default tubes, set := { onTime := onTime, gap := gap } }
    zones := tableOf 2 Zone.default zones
    powerLossCharge := charge
    compressor := { d.compressor with set := compressor }
    scanner := { d.scanner with setups := tableOf 8 { curve := .a, offset := 0, enabled := false } setups,
                                period := period }
    inputs := withReferences d.inputs levels
    load := { d.load with set := { budget := budget, lowThreshold := low, criticalThreshold := critical } } }

/-- R187: the finding on the image memory: the header first, then the CRC-16. -/
def imageFinding (acknowledges : Bool) (m : Memory) : ImageStatus :=
  if !acknowledges then .defaultsAbsent
  else if (m.read 0).toNat ≠ Config.imageFormat || n16 (m.read 1) (m.read 2) ≠ imageLength then .defaultsFormat
  else if u16 (crc16 (m.readAll 0 (imageLength - 2))).toNat = m.readAll (imageLength - 2) 2 then .loaded
  else .defaultsCheck

/-- R187: with LOADED, the saved fields are taken. -/
def Device.loadImage (st : ImageStatus) (m : Memory) (d : Device) : Device :=
  if st = .loaded then d.loadFields (m.readAll 3 (imageLength - 5)) else d

end Sys2Proof.Machine
end

