-- ==== Sys2Proof/Machine/Orders.lean ====
section
/-! DEFINITION. Units and orders: the lane table's stock and reservations (R5 to R7), unit outcomes (R57 to R60),
the ending of orders (R48, R49, R61 to R63), the start of the head and of units (R55, R56), the taking of drive
jobs (R24, R25), halts, resumption and abandonment (R36 to R39). -/
namespace Sys2Proof.Machine

/-! ### Stock and reservations (R5, R7) -/

/-- R5: units are reserved. -/
def Device.reserve (n : Fin 64) (q : Nat) (d : Device) : Device :=
  d.updateLane n fun l => { l with reserved := l.reserved + q }

/-- R5: units are released. -/
def Device.release (n : Fin 64) (q : Nat) (d : Device) : Device :=
  d.updateLane n fun l => { l with reserved := l.reserved - q }

/-- R5: a unit is delivered. -/
def Device.deliverStock (n : Fin 64) (d : Device) : Device :=
  d.updateLane n fun l => { l with stock := l.stock - 1, reserved := l.reserved - 1, sales := bump l.sales }

/-- R7: JAM. -/
def Device.jamLane (n : Fin 64) (d : Device) : Device :=
  d.changeLane n fun l => { l with base := .jammed, jams := satAdd 255 l.jams 1 }

/-- R7: MOTOR_OPEN. -/
def Device.openLane (n : Fin 64) (d : Device) : Device := d.changeLane n fun l => { l with base := .noMotor }

/-- R6: NO_DROP sets the stock to 0. -/
def Device.emptyLane (n : Fin 64) (d : Device) : Device := d.changeLane n fun l => { l with stock := 0 }

/-- R7: a fit check's outcome; ignored in a base state other than CHECKING. -/
def Device.fitOutcome (n : Fin 64) (pass : Bool) (d : Device) : Device :=
  if (d.lane? n).any (·.base = .checking) then
    d.changeLane n fun l => { l with base := if pass then .inService else .noMotor }
  else d

/-- R59: the lane table applies a fault. -/
def Device.laneFault (cause : EndCause) (n : Fin 64) (d : Device) : Device :=
  match cause with
  | .motorOpen => d.openLane n
  | _ => d.jamLane n

/-! ### The ending of an order (R48, R49) -/

/-- R48: the end state, by the order's counts and its state at the ending. -/
def Order.endState (o : Order) : OrderState :=
  if o.state = .queued then .cancelled
  else if o.delivered = o.quantity then .delivered
  else if 0 < o.delivered then .partly
  else .failed

/-- R49 step 2. -/
def Order.close (cause : EndCause) (o : Order) : Order :=
  { o with residue := o.quantity - o.delivered, state := o.endState, cause := some cause }

/-- R49 step 1: m units of the order are released to its lane and, for CREDIT, on the credit record. -/
def Device.releaseUnits (o : Order) (m : Nat) (d : Device) : Device :=
  let d := d.release o.lane m
  if o.payment = .credit then d.releaseCredit (o.price * m) else d

/-- R62: HOLD_AFTER. -/
def Device.holdAfter (o : Order) (d : Device) : Device :=
  if o.holdAfter then { d with queue := { d.queue with state := .held } } else d

/-- R49: a live order ends; `failed` units of it were released by R58 in the same event. -/
def Device.endLive (o : Order) (cause : EndCause) (failed : Nat) (d : Device) : Device :=
  let d := ((d.releaseUnits o (o.quantity - o.delivered - failed)).updateOrder o.tag (Order.close cause)).raise .orderEnded
  let d := d.holdAfter o
  if o.state.current then d.setUnitPos .none else d

/-- The live order with a tag. -/
def OrderQueue.liveOrder? (q : OrderQueue) (tag : Nat) : Option Order := (q.find? tag).filter (·.state.live)

/-- R49, R59: the live order with a tag ends; a report for another order is not applied. -/
def Device.endOrder (tag : Nat) (cause : EndCause) (d : Device) : Device :=
  match d.queue.liveOrder? tag with
  | none => d
  | some o => d.endLive o cause 0

/-- R63: QUEUED orders on a lane end, oldest first. -/
def Device.cancelQueued (n : Fin 64) (cause : EndCause) (d : Device) : Device :=
  (d.queue.orders.filter fun o => o.state = .queued && o.lane = n).foldl (fun d o => d.endOrder o.tag cause) d

/-- R68: every QUEUED order ends, oldest first. -/
def Device.cancelAllQueued (cause : EndCause) (d : Device) : Device :=
  (d.queue.orders.filter (·.state = .queued)).foldl (fun d o => d.endOrder o.tag cause) d

/-! ### Unit outcomes (R57 to R60) -/

/-- R59: the current order when it carries the tag; other reports are not applied. -/
def OrderQueue.currentWith (q : OrderQueue) (tag : Nat) : Option Order := q.current?.filter (·.tag = tag)

/-- R57: one delivered unit. -/
def Order.credit (o : Order) : Order := { o with delivered := o.delivered + 1, charged := o.charged + o.price }

/-- R57, R60: a DELIVERED report; an order whose last unit this is ends COMPLETED. -/
def Device.unitDelivered (tag : Nat) (d : Device) : Device :=
  match d.queue.currentWith tag with
  | none => d
  | some o =>
    let d := (d.updateOrder tag Order.credit).deliverStock o.lane
    let d := (if o.payment = .credit then d.charge o.price else d).setUnitPos .none
    if o.delivered + 1 = o.quantity then d.endOrder tag .completed else d

/-- R58: a FAILED report: the unit is released, then the order ends with the cause. -/
def Device.unitFailed (tag : Nat) (cause : EndCause) (d : Device) : Device :=
  match d.queue.currentWith tag with
  | none => d
  | some o => (d.releaseUnits o 1).endLive o cause 1

/-! ### Gates and starts (R55, R56) -/

/-- R56: the door and flap gates. -/
def Device.gatesOpen (d : Device) : Bool := d.onRef .door && d.onRef .flap

/-- R56: a unit of the current order is started when it is DRIVING with unit position NONE, units owed and the
gates open: a unit drive joins the job list. -/
def Device.startUnit (d : Device) : Device :=
  match d.queue.current? with
  | none => d
  | some o =>
    if o.state = .driving && d.queue.unitPos = .none && o.delivered < o.quantity && d.gatesOpen then
      Device.setUnitPos .posted { d with drive := { d.drive with jobs := d.drive.jobs ++ [.unitDrive o.lane o.tag] } }
    else d

/-- R55: the head starts when there is no current order, the queue is RUNNING and DOOR and FLAP are
on-reference. -/
def Device.startHead (d : Device) : Device :=
  match d.queue.current?, d.queue.head? with
  | none, some o =>
    if d.queue.state = .running && d.gatesOpen then
      (d.updateOrder o.tag fun o => { o with state := .driving }).startUnit
    else d
  | _, _ => d

/-! ### The end of an event (R49, R61) -/

/-- The orders that have ended since the queue stood as q0. -/
def OrderQueue.endedSince (q0 q : OrderQueue) : List Order :=
  q.orders.filter fun o => !o.state.live && (q0.find? o.tag).all (·.state.live)

/-- A live CREDIT order remains (R61). -/
def OrderQueue.liveCredit (q : OrderQueue) : Bool := q.orders.any fun o => o.state.live && o.payment = .credit

/-- R61: the FINAL test of an event finds change to ask for. -/
def OrderQueue.finalDue (q0 q : OrderQueue) : Bool :=
  ((q0.endedSince q).any fun o => o.payment = .credit && o.final) && !q.liveCredit

/-- R49: after orders ended: the FINAL test, unless it has asked in this event, and then the head. The mark
says whether the test has asked (log 17). -/
def Device.afterEndings (q0 : OrderQueue) (asked : Bool) (d : Device) : Device × Bool :=
  if (q0.endedSince d.queue).isEmpty then (d, asked)
  else if !asked && q0.finalDue d.queue then ((d.askPayback .change).startHead, true)
  else (d.startHead, asked)

/-! ### Taking jobs (R24, R25) -/

/-- R172: the drive's claim for a job. -/
def driveClaim (units : Nat) (job : Job) : Claim := { who := .drive, units := units, job := some job }

/-- R25: the units a unit drive claims. -/
def unitLoad (companion : Option (Fin 64)) : Nat := if companion.isSome then 4 else 2

/-- R24, R25: a taken job with the settings copied from its lane. -/
def newJob (job : Job) (l : Lane) : ActiveJob :=
  { job := job, phase := .waitLoad, companion := l.companion, turns := l.turns, extraTurns := l.extraTurns,
    dropCheck := l.dropCheck, turnCount := 0, turnTarget := l.turns, extraCount := 0, dropSeen := false,
    supplyMark := false, windowOpen := false, energizedBefore := false, energizedAt := 0, departureTimer := none,
    turnTimer := none, offHomeTurn := false, openedAt := none, lowRun := 0, passSeen := false,
    closingTimer := none, pulseTimer := none }

/-- The cause of R4's reasons; the last two cannot arise at a take (log 26). -/
def Unsellable.cause : Unsellable → EndCause
  | .laneNotInService => .laneNotInService
  | .laneSpoiled => .laneSpoiled
  | .laneHeld => .laneHeld
  | .soldOut => .soldOut

/-- R25: the validation of a unit drive: none when it passes. -/
def Device.unitRefusal (n : Fin 64) (d : Device) : Option Unsellable :=
  match d.lane? n with
  | none => some .laneNotInService
  | some l => l.unsellable 1 1

/-- R24: the job becomes active and claims its load. -/
def Device.activate (job : Job) (l : Lane) (units : Nat) (d : Device) : Device :=
  Device.claim (driveClaim units job) { d with drive := { d.drive with active := some (newJob job l) } }

/-- R24, R25: a job taken from the list: active, discarded, or reported NOT_STARTED. -/
def Device.takeJob (job : Job) (d : Device) : Device :=
  match job with
  | .fitCheck n =>
    match d.lane? n with
    | none => d
    | some l => if l.base = .checking then d.activate job l 1 else d
  | .unitDrive n tag =>
    match d.unitRefusal n with
    | some r => d.endOrder tag r.cause
    | none =>
      match d.lane? n with
      | none => d
      | some l => d.activate job l (unitLoad l.companion)

/-- R24: while no job is active and the list is not empty the head is taken; the endings a take causes are
followed up before the next (log 17). -/
def Device.takeLoop (q0 : OrderQueue) (fuel : Nat) (asked : Bool) (d : Device) : Device :=
  match fuel with
  | 0 => d
  | fuel + 1 =>
    match d.drive.active, d.drive.jobs with
    | none, job :: rest =>
      let taken := Device.takeJob job { d with drive := { d.drive with jobs := rest } }
      let r := if taken.drive.active.isSome then (taken, asked) else taken.afterEndings q0 asked
      Device.takeLoop q0 fuel r.2 r.1
    | _, _ => d

/-- Enough rounds for every listed job and every order. -/
def Device.takeFuel (d : Device) : Nat := d.drive.jobs.length + d.queue.orders.length + 1

/-- The list is taken from, for an event that began with the queue as q0. -/
def Device.takeFrom (q0 : OrderQueue) (d : Device) : Device := d.takeLoop q0 d.takeFuel false

/-- The end of an event that may have ended orders or jobs: what follows the endings (R49, R61), then the list. R24 takes
a listed entry 'at once' and R61 tests 'at the end of each event': the payback and the head come first, and then the
entry is taken (DESIGN CHOICE, log 17). -/
def Device.conclude (q0 : OrderQueue) (d : Device) : Device :=
  let r := d.afterEndings q0 false
  r.1.takeLoop q0 r.1.takeFuel r.2

/-- R23: a job joins the tail of the list, which is taken from at once (R24). -/
def Device.joinJobs (job : Job) (d : Device) : Device :=
  Device.takeFrom d.queue { d with drive := { d.drive with jobs := d.drive.jobs ++ [job] } }

/-! ### Halting, resuming and abandoning (R36 to R39) -/

/-- R36, R39: the active job that is a unit drive of the order: not one in WINDOW whose unit is reported. -/
def Drive.unitOf (v : Drive) (tag : Nat) : Option ActiveJob :=
  v.active.filter fun j => j.job.tag? = some tag && !(j.phase = .window && j.dropCheck = .notRequired)

/-- R36, R39: a listed unit drive leaves the list. -/
def Device.unlist (tag : Nat) (d : Device) : Device :=
  { d with drive := { d.drive with jobs := d.drive.jobs.filter (·.tag? ≠ some tag) } }

/-- The motors of the active job stop and its grant is given back. -/
def Device.stopWork (n : Fin 64) (d : Device) : Device := (d.stopMotors n).giveBack .drive

/-- R36: the job is HALTED: the partial turn and its timers are discarded. -/
def ActiveJob.halt (revoked : Bool) (j : ActiveJob) : ActiveJob :=
  { j with phase := .halted, departureTimer := none, turnTimer := none, openedAt := none,
           supplyMark := j.supplyMark || revoked }

/-- R65: a halt report puts the live current order in HALTED. -/
def Device.orderHalted (tag : Nat) (d : Device) : Device :=
  match d.queue.currentWith tag with
  | none => d
  | some _ => d.updateOrder tag fun o => { o with state := .halted }

/-- R36, R65: a halt of a unit drive of order `tag` that is the active job. -/
def Device.haltActive (tag : Nat) (revoked : Bool) (j : ActiveJob) (d : Device) : Device :=
  match j.phase with
  | .waitLoad =>
    (((d.withdraw .drive).updateJob (·.halt revoked)).setUnitPos .halted).orderHalted tag
  | .turning =>
    let d := d.stopWork j.job.lane
    if j.dropSeen then ((d.endJob).unitDelivered tag).orderHalted tag
    else ((d.updateJob (·.halt revoked)).setUnitPos .halted).orderHalted tag
  | .window | .halted | .pulse => d.orderHalted tag

/-- R36, R65: a halt of the current order: nothing unless it is DRIVING. -/
def Device.haltOrder (revoked : Bool) (d : Device) : Device :=
  match d.queue.current? with
  | none => d
  | some o =>
    if o.state = .driving then
      match d.drive.unitOf o.tag with
      | some j => d.haltActive o.tag revoked j
      | none => ((d.unlist o.tag).setUnitPos .none).orderHalted o.tag
    else d

/-- R38: a HALTED unit drive claims again and enters WAIT_LOAD. -/
def Device.resumeUnit (d : Device) : Device :=
  match d.drive.active.filter (·.phase = .halted) with
  | none => d
  | some j => (d.updateJob fun j => { j with phase := .waitLoad }).claim (driveClaim (unitLoad j.companion) j.job)

/-- R35, R39: DELIVERED when the drop was seen, in whatever phase (log 16); ABANDONED releases nothing itself (R58). -/
def Device.abandonReport (tag : Nat) (j : ActiveJob) (d : Device) : Device :=
  if j.dropSeen then d.unitDelivered tag else d

/-- R39: the unit drive of the current order is abandoned. -/
def Device.abandon (tag : Nat) (d : Device) : Device :=
  match d.drive.unitOf tag with
  | none => d.unlist tag
  | some j =>
    match j.phase with
    | .waitLoad => ((d.withdraw .drive).endJob).abandonReport tag j
    | .turning => ((d.stopWork j.job.lane).endJob).abandonReport tag j
    | .halted | .window | .pulse => d.endJob.abandonReport tag j

end Sys2Proof.Machine
end

