-- ==== Sys2Proof/Machine/Drive.lean ====
section
/-! DEFINITION. The spiral drive (R22 to R44): cam and turns, the drop window, failures, motor-current samples,
fit checks, the drive's events, and READ DRIVE and AMEND DRIVE. -/
namespace Sys2Proof.Machine

/-! ### Failures (R33, R34, R38) -/

/-- R33, R34, R38: the reports of a unit that ends with a JAM or MOTOR_OPEN, its motors already stopped. -/
def Device.reportFault (cause : EndCause) (n : Fin 64) (tag : Nat) (j : ActiveJob) (d : Device) : Device :=
  if j.dropSeen then
    let d := d.unitDelivered tag
    if j.supplyMark then d else (d.laneFault cause n).endOrder tag cause
  else if j.supplyMark then d.unitFailed tag .supply
  else (d.unitFailed tag cause).laneFault cause n

/-- R33, R34: the unit drive under way ends with a JAM or MOTOR_OPEN. -/
def Device.unitFault (cause : EndCause) (d : Device) : Device :=
  match d.drive.active with
  | none => d
  | some j =>
    match j.job with
    | .fitCheck _ => d
    | .unitDrive n tag => (((d.stopWork n).endJob.reportFault cause n tag j).startUnit).conclude d.queue

/-! ### Turns (R27 to R31) -/

/-- R28: the open-cam time, held to 1 to 10,000 ms. -/
def openCamMs (openedAt closed : Nat) : Nat := max 1 (min 10000 (closed - openedAt))

/-- R28 steps 2 and 3, R38: the turn is counted, the turn timer restarted and the supply mark cleared. -/
def ActiveJob.countTurn (at_ limit : Nat) (j : ActiveJob) : ActiveJob :=
  { j with turnCount := j.turnCount + 1, turnTimer := some (at_ + limit), supplyMark := false,
           offHomeTurn := false, openedAt := none }

/-- R31: the job enters WINDOW with the closing time running. -/
def ActiveJob.toWindow (at_ window : Nat) (j : ActiveJob) : ActiveJob :=
  { j with phase := .window, turnTimer := none, closingTimer := some (at_ + window) }

/-- R31: one extra turn. -/
def ActiveJob.addExtra (j : ActiveJob) : ActiveJob :=
  { j with extraCount := j.extraCount + 1, turnTarget := j.turnTarget + 1 }

/-- R31: the step after a turn completion at time `at_`, by the job as counted. -/
def Device.decideTurn (at_ : Nat) (n : Fin 64) (tag : Nat) (j : ActiveJob) (d : Device) : Device :=
  if j.dropSeen then ((((d.stopWork n).endJob).unitDelivered tag).startUnit).conclude d.queue
  else if j.turnCount < j.turnTarget then d
  else if j.dropCheck = .notRequired then
    ((((d.stopWork n).updateJob (·.toWindow at_ d.drive.windowMs)).unitDelivered tag).startUnit).conclude d.queue
  else if j.extraCount < j.extraTurns then d.updateJob ActiveJob.addExtra
  else (d.stopWork n).updateJob (·.toWindow at_ d.drive.windowMs)

/-- R28: a turn is completed at time `at_`, its cam open since `openedAt`. -/
def Device.completeTurn (at_ openedAt : Nat) (n : Fin 64) (tag : Nat) (j : ActiveJob) (d : Device) : Device :=
  let counted := j.countTurn at_ d.drive.turnMs
  ((d.updateLane n fun l => { l with lastTurn := some (openCamMs openedAt at_), offHome := false }).updateJob
    fun _ => counted).decideTurn at_ n tag counted

/-- R27, R29: the cam is confirmed open at time `at_`. -/
def ActiveJob.camOpened (at_ limit : Nat) (j : ActiveJob) : ActiveJob :=
  if j.departureTimer.isSome then
    { j with departureTimer := none, turnTimer := some (at_ + limit), openedAt := some at_ }
  else if j.openedAt.isSome then j
  else if j.offHomeTurn && at_ ≤ j.energizedAt + Config.offHomeOpenMs then { j with openedAt := some j.energizedAt }
  else { j with openedAt := some at_ }

/-- R27 to R29: what a confirmed level means to a TURNING unit drive. -/
def Device.camSeen (at_ : Nat) (level : CamLevel) (d : Device) : Device :=
  match d.drive.active with
  | none => d
  | some j =>
    match j.phase, j.job, level, j.openedAt with
    | .turning, .unitDrive _ _, .opened, _ => d.updateJob (·.camOpened at_ d.drive.turnMs)
    | .turning, .unitDrive n tag, .closed, some t => d.completeTurn at_ t n tag j
    | _, _, _, _ => d

/-! ### Events -/

/-- R27: the cam line takes a level: a new level is timed while a lane is energized; a return to the confirmed
level is no change. One level is kept for all lanes, and stands while none is energized (log 30). -/
def Device.camLineEdge (level : CamLevel) (d : Device) : Device :=
  if level = d.drive.camLine then d
  else
    { d with drive :=
      { d.drive with camLine := level,
                     camTimer := if d.drive.energized.isSome && d.drive.camConfirmed != some level
                                 then some (d.now + Config.camDebounceMs) else none } }

/-- R27: CAM LINE EDGE. -/
def execCamLineEdge (level : CamLevel) (s : State) : Result := .next (s.ungatedEvent (Device.camLineEdge level))

/-- R27: the level held for 20 ms becomes the confirmed level. -/
def Device.camConfirm (d : Device) : Device :=
  d.onExpiry d.drive.camTimer fun due d =>
    let level := d.drive.camLine
    Device.camSeen due level { d with drive := { d.drive with camConfirmed := some level, camTimer := none } }

/-- R27: CAM CONFIRM. -/
def execCamConfirm (s : State) : Result := .next (s.event Device.camConfirm)

/-- The timer of the active job that f names; it runs in one phase alone (R24). -/
def Device.jobTimer (d : Device) (phase : DrivePhase) (f : ActiveJob → Timer) : Timer :=
  (d.drive.active.filter (·.phase = phase)).bind f

/-- R27, R33: 600 ms pass with the cam not confirmed open. -/
def Device.departureTimeout (d : Device) : Device :=
  d.onExpiry (d.jobTimer .turning (·.departureTimer)) fun _ d => d.unitFault .jam

/-- R27: DEPARTURE TIMEOUT. -/
def execDepartureTimeout (s : State) : Result := .next (s.event Device.departureTimeout)

/-- R28, R33: the turn timer expires before the turn in progress is completed. -/
def Device.turnTimerExpiry (d : Device) : Device :=
  d.onExpiry (d.jobTimer .turning (·.turnTimer)) fun _ d => d.unitFault .jam

/-- R28: TURN TIMER EXPIRY. -/
def execTurnTimerExpiry (s : State) : Result := .next (s.event Device.turnTimerExpiry)

/-- R42: a stray drop. -/
def Device.strayDrop (d : Device) : Device :=
  Device.raise .strayDrop { d with drive := { d.drive with strayCount := bump d.drive.strayCount } }

/-- R30, R37: a break credited to the job's unit: the mark is set and the window closes; in HALTED and WINDOW the
job ends, reporting DELIVERED unless it has been reported. -/
def Device.creditDrop (tag : Nat) (j : ActiveJob) (d : Device) : Device :=
  match j.phase, j.dropCheck with
  | .halted, _ | .window, .required => ((d.endJob.unitDelivered tag).startUnit).conclude d.queue
  | .window, .notRequired => d.endJob.conclude d.queue
  | _, _ => d.updateJob fun j => { j with dropSeen := true, windowOpen := false }

/-- R30, R42: a beam break is credited to the open drop window, or is a stray drop. -/
def Device.beamBreak (d : Device) : Device :=
  match d.drive.active with
  | none => d.strayDrop
  | some j =>
    match j.job.tag? with
    | none => d.strayDrop
    | some tag => if j.windowOpen then d.creditDrop tag j else d.strayDrop

/-- R30: BEAM BREAK. -/
def execBeamBreak (s : State) : Result := .next (s.event Device.beamBreak)

/-- R31, R32: the closing time expires: NO_DROP for a REQUIRED unit, the job's end for the other. -/
def Device.windowExpired (d : Device) : Device :=
  match d.drive.active with
  | none => d
  | some j =>
    match j.job, j.dropCheck with
    | .unitDrive n tag, .required =>
      (((d.endJob.unitFailed tag .noDrop).emptyLane n).cancelQueued n .soldOut).conclude d.queue
    | _, _ => d.endJob.conclude d.queue

/-- R32: DROP WINDOW EXPIRY. -/
def Device.dropWindowExpiry (d : Device) : Device :=
  d.onExpiry (d.jobTimer .window (·.closingTimer)) fun _ d => d.windowExpired

/-- R32: DROP WINDOW EXPIRY. -/
def execDropWindowExpiry (s : State) : Result := .next (s.event Device.dropWindowExpiry)

/-- R40: the pulse ends and the check reports. -/
def Device.pulseEnded (d : Device) : Device :=
  match d.drive.active with
  | none => d
  | some j => (((d.stopWork j.job.lane).endJob).fitOutcome j.job.lane j.passSeen).conclude d.queue

/-- R40: FIT PULSE END. -/
def Device.fitPulseEnd (d : Device) : Device :=
  d.onExpiry (d.jobTimer .pulse (·.pulseTimer)) fun _ d => d.pulseEnded

/-- R40: FIT PULSE END. -/
def execFitPulseEnd (s : State) : Result := .next (s.event Device.fitPulseEnd)

/-! ### Motor-current samples (R34, R40) -/

/-- R34: the run of low samples after a judged sample. -/
def lowRunAfter (sample : Sample) (run : Nat) : Nat :=
  match sample with
  | .good v => if v < Config.motorThresholdMa then run + 1 else 0
  | _ => 0

/-- R40: the threshold for the motors energized. -/
def passThreshold (companion : Option (Fin 64)) : Int :=
  if companion.isSome then 2 * Config.motorThresholdMa else Config.motorThresholdMa

/-- R40: a pass sample. -/
def isPass (companion : Option (Fin 64)) : Sample → Bool
  | .good v => passThreshold companion ≤ v
  | .overRange => true
  | .opened | .short => false

/-- R34, R40: a motor-current sample stored at time `at_`, judged from 50 ms after the energizing onward. -/
def Device.motorSample (at_ : Nat) (sample : Sample) (d : Device) : Device :=
  match d.drive.active with
  | none => d
  | some j =>
    if j.energizedAt + Config.settleMs ≤ at_ then
      match j.phase with
      | .turning =>
        let run := lowRunAfter sample j.lowRun
        let d := d.updateJob fun j => { j with lowRun := run }
        if Config.openCoilRun ≤ run then d.unitFault .motorOpen else d
      | .pulse => d.updateJob fun k => { k with passSeen := k.passSeen || isPass j.companion sample }
      | _ => d
    else d

/-! ### Revocation (R36, R41) -/

/-- R41: a revoked fit check goes back to the head of the list and is taken again at once. -/
def Device.fitRevoked (n : Fin 64) (d : Device) : Device :=
  let d := (d.stopMotors n).endJob
  Device.takeFrom d.queue { d with drive := { d.drive with jobs := .fitCheck n :: d.drive.jobs } }

/-- R176: the drive's grant is revoked; what follows the end of an order comes before the later holders are told
(log 31). -/
def Device.driveRevoked (d : Device) : Device :=
  match d.drive.active.map (·.job) with
  | none => d
  | some (Job.fitCheck n) => d.fitRevoked n
  | some (Job.unitDrive _ _) => (d.haltOrder true).conclude d.queue

/-! ### Requests -/

/-- R43: the active job. R43 gives an order tag to unit drives alone; a fit check sends its tag as absent, 0xFF, as in
the list's entries (DESIGN CHOICE, log 9). -/
def activeBytes (j : ActiveJob) : List Byte :=
  jobBytes j.job ++ u8 (phaseCode j.phase) ++
    (match j.job with
     | .fitCheck _ => []
     | .unitDrive _ _ => u8 j.turnCount ++ u8 j.turnTarget ++ u8 j.extraCount ++ yesNo j.dropSeen ++ yesNo j.supplyMark)

/-- R43: READ DRIVE's reply. -/
def driveReply (d : Device) : Reply :=
  let v := d.drive
  reply .ok (u8 v.set.turnLimit ++ u8 v.set.dropWindow ++ u16 v.strayCount ++ optNum v.energized ++
    presence activeBytes v.active ++ u8 v.jobs.length ++ counted jobBytes (v.jobs.take 12))

/-- R43: READ DRIVE. -/
def execReadDrive (s : State) : Result := .next (s.query driveReply)

/-- R44: AMEND DRIVE on the device's records. -/
def amendDrive (a : DriveAmend) (d : Device) : Device × Reply :=
  if within 20 100 a.turnLimit && within 2 30 a.dropWindow && within 0 0 a.strayCount then
    okay { d with drive :=
      { d.drive with set := { turnLimit := a.turnLimit.getD d.drive.set.turnLimit,
                              dropWindow := a.dropWindow.getD d.drive.set.dropWindow },
                     strayCount := a.strayCount.getD d.drive.strayCount } }
  else refuse .range d

/-- R44: AMEND DRIVE. -/
def execAmendDrive (a : DriveAmend) (s : State) : Result := .next (s.request (amendDrive a))

end Sys2Proof.Machine
end

