-- ==== Sys2Proof/Machine/Compressor.lean ====
section
/-! DEFINITION. The compressor (R144 to R154): demand, the condenser, rests, starts and stops, its events, and its
three requests. -/
namespace Sys2Proof.Machine

/-- Changes the compressor record. -/
def Device.updateCompressor (f : Compressor → Compressor) (d : Device) : Device :=
  { d with compressor := f d.compressor }

/-- R144: the relay is closed in STARTING and RUNNING. -/
def Compressor.relay (c : Compressor) : Bool := c.state = .starting || c.state = .running

/-- R152: the condenser fan. -/
def Compressor.fan (c : Compressor) : Bool := c.relay || c.fanTimer.isSome

/-- R129: a zone's valve is open in CALLING. -/
def Zone.valve (z : Zone) : Bool := z.state = .calling

/-- R146: a GOOD reading above the hot limit it was judged against. -/
def Compressor.hot (c : Compressor) : Bool :=
  match c.condenser with
  | some (.good v) => c.judgedLimit < v
  | _ => false

/-- R146: cool enough to start: absent, not GOOD, or at or below the limit it was judged against less 5.0 °C. -/
def Compressor.cool (c : Compressor) : Bool :=
  match c.condenser with
  | some (.good v) => v ≤ c.judgedLimit - 50
  | _ => true

/-- R147: a rest begins: the target is fixed and the timer started. -/
def Compressor.rest (now : Nat) (c : Compressor) : Compressor :=
  { c with restTarget := c.set.minRest, restElapsed := false, restTimer := some (now + 1000 * c.set.minRest) }

/-- R150, R151, R152: the relay opens: start and run timers discarded, a rest and the fan's run-on begun. -/
def Compressor.open (now : Nat) (c : Compressor) : Compressor :=
  Compressor.rest now { c with startTimer := none, runTimer := none, fanTimer := some (now + Config.fanRunOnMs) }

/-- R172: the compressor's claim. -/
def compressorClaim : Claim := { who := .compressor, units := 3, job := none }

/-- R148: an IDLE compressor with demand and a cool enough condenser goes to WAITING and claims 3 units. -/
def Device.tryStart (d : Device) : Device :=
  if d.compressor.state = .idle && d.compressor.demand && d.compressor.cool then
    (d.updateCompressor fun c => { c with state := .waiting }).claim compressorClaim
  else d

/-- R147: a RESTING compressor whose rest has elapsed goes to IDLE. -/
def Device.leaveRest (d : Device) : Device :=
  if d.compressor.state = .resting && d.compressor.restElapsed then
    (d.updateCompressor fun c => { c with state := .idle }).tryStart
  else d

/-- R148: WAITING ends without a start: the claim is withdrawn. -/
def Device.leaveWaiting (d : Device) : Device :=
  (d.updateCompressor fun c => { c with state := .idle }).withdraw .compressor

/-- R150, R151: the compressor stops with a cause, to RESTING; a grant still held is released. -/
def Device.stopCompressor (why : LastStop) (d : Device) : Device :=
  (d.updateCompressor fun c => { c.open d.now with state := .resting, lastStop := some why }).giveBack .compressor

/-- R144: an alarm of the compressor. -/
def Device.compressorAlarm (a : CompressorAlarm) (d : Device) : Device :=
  Device.raise .compressorAlarm (d.updateCompressor fun c => { c with lastAlarm := some a })

/-- R150, R151: a counted failure: LOCKED_OUT with the alarm at the third. -/
def Device.failCompressor (why : LastStop) (d : Device) : Device :=
  let d := (d.stopCompressor why).updateCompressor fun c => { c with failures := c.failures + 1 }
  if Config.lockoutCount ≤ d.compressor.failures then
    (d.updateCompressor fun c => { c with state := .lockedOut }).compressorAlarm .lockout
  else d

/-- R150, R151: a hot condenser stops a closed relay. -/
def Device.hotStop (d : Device) : Device := (d.stopCompressor .hot).compressorAlarm .hot

/-- R151: a RUNNING compressor past its minimum run with no demand stops. -/
def Device.stopIfMet (d : Device) : Device :=
  if d.compressor.state = .running && d.compressor.runTimer.isNone && !d.compressor.demand then
    d.stopCompressor .demandMet
  else d

/-- R145: demand is recomputed at a zone's report, and a change of it acted on. -/
def Device.reportValves (d : Device) : Device :=
  let now := d.zones.toList.any Zone.valve
  if now = d.compressor.demand then d
  else
    let d := d.updateCompressor fun c => { c with demand := now }
    if now then d.tryStart
    else if d.compressor.state = .waiting then d.leaveWaiting
    else d.stopIfMet

/-- R146: a reading that is not GOOD. -/
def Sample.bad : Sample → Bool
  | .good _ => false
  | .opened | .short | .overRange => true

/-- R146, R153: a condenser sample, judged against the hot limit in force; a limit amended later waits for the next. -/
def Device.condenserSample (sample : Sample) (d : Device) : Device :=
  let before := d.compressor.condenser
  let d := d.updateCompressor fun c => { c with condenser := some sample, judgedLimit := c.set.hotLimit }
  let d := if sample.bad && !before.any Sample.bad then d.compressorAlarm .condenserProbe else d
  match d.compressor.state with
  | .starting | .running => if d.compressor.hot then d.hotStop else d
  | .waiting => if d.compressor.hot then d.leaveWaiting else d
  | .idle => d.tryStart
  | .resting | .lockedOut => d

/-- R149: the start is confirmed: RUNNING, the units released. -/
def Device.confirmStart (d : Device) : Device :=
  (d.updateCompressor fun c => { c with state := .running, startTimer := none }).giveBack .compressor

/-- R149: the mode copied at the grant is SENSE. -/
def Compressor.sensing (c : Compressor) : Bool := c.startCopy.any (·.confirmMode = .sense)

/-- R150, R176: the grant of a start is revoked. -/
def Device.compressorRevoked (d : Device) : Device :=
  if d.compressor.state = .starting then d.stopCompressor .supply else d

/-! ### Events -/

/-- R147: the rest timer expires. -/
def Device.restTimer (d : Device) : Device :=
  d.onExpiry d.compressor.restTimer fun _ d =>
    (d.updateCompressor fun c => { c with restTimer := none, restElapsed := true }).leaveRest

/-- R147: REST TIMER. -/
def execRestTimer (s : State) : Result := .next (s.event Device.restTimer)

/-- R149, R150: the start window ends: confirmed in DELAY mode, failed in SENSE mode. -/
def Device.startTimer (d : Device) : Device :=
  d.onExpiry (if d.compressor.state = .starting then d.compressor.startTimer else none) fun _ d =>
    if d.compressor.sensing then d.failCompressor .startFailed else d.confirmStart

/-- R149: START TIMER. -/
def execStartTimer (s : State) : Result := .next (s.event Device.startTimer)

/-- R149: the confirm line takes a level; a new level is timed, a return to the debounced level is none. -/
def Device.confirmLineEdge (level : Level) (d : Device) : Device :=
  if level = d.compressor.confirmLine then d
  else
    d.updateCompressor fun c =>
      { c with confirmLine := level,
               confirmTimer := if c.confirmLevel = some level then none
                               else some (d.now + Config.inputDebounceMs) }

/-- R149: CONFIRM LINE EDGE. -/
def execConfirmLineEdge (level : Level) (s : State) : Result := .next (s.ungatedEvent (Device.confirmLineEdge level))

/-- R149, R151: what a change of the debounced level means. -/
def Device.confirmActs (before : Option Level) (level : Level) (d : Device) : Device :=
  match d.compressor.startCopy with
  | none => d
  | some copy =>
    if copy.confirmMode = .sense then
      match d.compressor.state with
      | .starting => if level = copy.confirmPolarity then d.confirmStart else d
      | .running => if before = some copy.confirmPolarity then d.failCompressor .confirmLost else d
      | _ => d
    else d

/-- R149: the confirm level held for 50 ms. -/
def Device.confirmChange (d : Device) : Device :=
  d.onExpiry d.compressor.confirmTimer fun _ d =>
    let before := d.compressor.confirmLevel
    let level := d.compressor.confirmLine
    (d.updateCompressor fun c => { c with confirmLevel := some level, confirmTimer := none }).confirmActs before level

/-- R149: CONFIRM CHANGE. -/
def execConfirmChange (s : State) : Result := .next (s.event Device.confirmChange)

/-- R151: the run timer expires: in RUNNING the failures return to 0, and without demand the compressor stops. -/
def Device.runTimer (d : Device) : Device :=
  d.onExpiry d.compressor.runTimer fun _ d =>
    (d.updateCompressor fun c =>
      { c with runTimer := none, failures := if c.state = .running then 0 else c.failures }).stopIfMet

/-- R151: RUN TIMER. -/
def execRunTimer (s : State) : Result := .next (s.event Device.runTimer)

/-- R152: the fan's run-on ends. -/
def Device.fanRunon (d : Device) : Device :=
  d.onExpiry d.compressor.fanTimer fun _ d => d.updateCompressor fun c => { c with fanTimer := none }

/-- R152, R155: FAN RUNON TIMER; the fan stops at the expiry while the RESET pin is low too. -/
def execFanRunonTimer (s : State) : Result := .next (s.ungatedEvent Device.fanRunon)

/-! ### Requests -/

/-- R153: the six settings. -/
def compressorSettingBytes (c : CompressorSettings) : List Byte :=
  u16 c.minRest ++ u16 c.minRun ++ u16 c.startWindow ++ u8 (confirmModeCode c.confirmMode) ++
    u8 (levelCode c.confirmPolarity) ++ i16 c.hotLimit

/-- R144: the start copy. -/
def copyBytes (c : StartCopy) : List Byte :=
  u16 c.startWindow ++ u8 (confirmModeCode c.confirmMode) ++ u8 (levelCode c.confirmPolarity) ++ u16 c.minRun

/-- R153: the fields that stand in some states alone. -/
def compressorTimes (now : Nat) (c : Compressor) : List Byte :=
  match c.state with
  | .resting | .lockedOut => u16 (timeLeft c.restTimer now 1000)
  | .starting => u16 (timeLeft c.startTimer now 1000) ++ presence copyBytes c.startCopy ++
      u16 (timeLeft c.runTimer now 1000)
  | .running => presence copyBytes c.startCopy ++ u16 (timeLeft c.runTimer now 1000)
  | .idle | .waiting => []

/-- R153: READ COMPRESSOR's reply. -/
def compressorReply (d : Device) : Reply :=
  let c := d.compressor
  reply .ok (compressorSettingBytes c.set ++ u8 (compressorStateCode c.state) ++ u8 c.failures ++ yesNo c.demand ++
    d.zones.toList.flatMap (fun z => onOff z.valve) ++ u16 c.restTarget ++ yesNo c.restElapsed ++
    compressorTimes d.now c ++ onOff c.relay ++ onOff c.fan ++ u16 (timeLeft c.fanTimer d.now 1000) ++
    probeBytes c.condenser ++ optCode levelCode c.confirmLevel ++ optCode lastStopCode c.lastStop ++
    optCode compressorAlarmCode c.lastAlarm)

/-- R153: READ COMPRESSOR. -/
def execReadCompressor (s : State) : Result := .next (s.query compressorReply)

/-- R144, R153: every named setting in its range. -/
def CompressorAmend.inRange (a : CompressorAmend) : Bool :=
  within 60 600 a.minRest && within 30 300 a.minRun && within 2 10 a.startWindow &&
  coded confirmModeOf a.confirmMode && coded levelOf a.confirmPolarity && withinT 400 800 a.hotLimit

/-- R153: the settings after a taken request. -/
def CompressorAmend.applied (a : CompressorAmend) (c : CompressorSettings) : CompressorSettings :=
  { minRest := a.minRest.getD c.minRest, minRun := a.minRun.getD c.minRun,
    startWindow := a.startWindow.getD c.startWindow, confirmMode := decoded confirmModeOf a.confirmMode c.confirmMode,
    confirmPolarity := decoded levelOf a.confirmPolarity c.confirmPolarity, hotLimit := a.hotLimit.getD c.hotLimit }

/-- R153: AMEND COMPRESSOR on the device's records. -/
def amendCompressor (a : CompressorAmend) (d : Device) : Device × Reply :=
  if CompressorAmend.inRange a then
    okay (d.updateCompressor fun c => { c with set := CompressorAmend.applied a c.set })
  else refuse .range d

/-- R153: AMEND COMPRESSOR. -/
def execAmendCompressor (a : CompressorAmend) (s : State) : Result := .next (s.request (amendCompressor a))

/-- R154: CLEAR LOCKOUT on the device's records. -/
def clearLockout (d : Device) : Device × Reply :=
  if d.compressor.state = .lockedOut then
    okay (d.updateCompressor fun c => { c with failures := 0, state := .resting }).leaveRest
  else refuse .notAllowed d

/-- R154: CLEAR LOCKOUT. -/
def execClearLockout (s : State) : Result := .next (s.request clearLockout)

end Sys2Proof.Machine
end

