-- ==== Sys2Proof/Machine/Zones.lean ====
section
/-! DEFINITION. The cooling zones (R126 to R141): the air and evaporator samples, defrost, exposure, holds and
spoiling, the zones' timers, and READ ZONE, AMEND ZONE and START DEFROST. -/
namespace Sys2Proof.Machine

/-! ### Holds and spoiling (R3, R137, R138) -/

/-- R137: the hold decision for a class. -/
def Zone.holds (z : Zone) : LaneClass → Bool
  | .ambient => false
  | .chilled => z.state = .off || (z.warm && z.set.holdChilled)
  | .perishable => z.state = .off || z.warm || z.state = .probeFault

/-- R3: a hold decision is written; a change joins the changed-lanes set. -/
def Device.decideHold (n : Fin 64) (v : Bool) (d : Device) : Device :=
  if (d.lane? n).any (·.held ≠ v) then d.changeLane n fun l => { l with held := v } else d

/-- R137: the decision for one lane, when it is enrolled in the zone. -/
def Device.sweepLane (z : Fin 2) (d : Device) (n : Fin 64) : Device :=
  match d.lane? n with
  | none => d
  | some l => if l.zone = z then d.decideHold n (d.zones[z].holds l.laneClass) else d

/-- R137: a hold sweep, in ascending lane order. -/
def Device.holdSweep (z : Fin 2) (d : Device) : Device := allLanes.foldl (Device.sweepLane z) d

/-- R138: the lane has reached its zone's allowance and is not yet spoiled. -/
def Zone.spoils (z : Zone) (l : Lane) : Bool :=
  l.laneClass = .perishable && !l.spoiled && z.set.allowance ≤ z.exposure - l.baseline

/-- R138: the spoil check of one lane. -/
def Device.spoilLane (z : Fin 2) (d : Device) (n : Fin 64) : Device :=
  match d.lane? n with
  | none => d
  | some l =>
    if l.zone = z && d.zones[z].spoils l then d.changeLane n fun l => { l with spoiled := true } else d

/-- R138: the spoil check of a zone, in ascending lane order. -/
def Device.spoilCheck (z : Fin 2) (d : Device) : Device := allLanes.foldl (Device.spoilLane z) d

/-- R139: an alarm of a zone. -/
def Device.zoneAlarm (z : Fin 2) (a : ZoneAlarm) (d : Device) : Device :=
  Device.raise .zoneAlarm (d.updateZone z fun r => { r with lastAlarm := some a })

/-! ### State and outputs (R127, R129) -/

/-- R129: the zone takes a state; an opening or closing of its valve is reported to the compressor. -/
def Device.setZoneState (z : Fin 2) (st : ZoneState) (d : Device) : Device :=
  let before := d.zones[z].valve
  let d := d.updateZone z fun r => { r with state := st }
  if before = d.zones[z].valve then d else d.reportValves

/-- R129: the fan runs. -/
def Device.fanOn (d : Device) (z : Fin 2) : Bool :=
  (d.zones[z].state = .calling || d.zones[z].state = .satisfied || d.zones[z].state = .drip) && d.onRef .door

/-- R129: the heater is on in DEFROST while the zone holds its grant. -/
def Device.heaterOn (d : Device) (z : Fin 2) : Bool :=
  d.zones[z].state = .defrost && d.load.holds (.heater z)

/-! ### Defrost (R130 to R132) -/

/-- R172: a heater's claim. -/
def heaterClaim (z : Fin 2) : Claim := { who := .heater z, units := 1, job := none }

/-- R131: the zone enters DEFROST. -/
def Device.enterDefrost (z : Fin 2) (d : Device) : Device :=
  let d := d.updateZone z fun r =>
    { r with sinceDefrost := 0, sinceTimer := none, defrostDue := false,
             defrost := some { endTemp := r.set.defrostEnd, maxMinutes := r.set.defrostMax, timer := none } }
  (d.setZoneState z .defrost).claim (heaterClaim z)

/-- R130: a due defrost is entered from SATISFIED or CALLING. -/
def Device.checkDue (z : Fin 2) (d : Device) : Device :=
  let r := d.zones[z]
  if r.defrostDue && (r.state = .satisfied || r.state = .calling) then d.enterDefrost z else d

/-- R131: the defrost ends and the zone takes a state; time since defrost counts again from 0. -/
def Device.endDefrost (z : Fin 2) (st : ZoneState) (d : Device) : Device :=
  let d := d.updateZone z fun r =>
    { r with defrost := none, sinceTimer := some (d.now + Config.minuteMs),
             dripTimer := if st = .drip then some (d.now + Config.dripMs) else r.dripTimer }
  (d.setZoneState z st).dropLoad (.heater z)

/-- R130: time since defrost has reached the interval. -/
def Zone.intervalReached (r : Zone) : Bool :=
  r.set.defrostInterval != 0 && r.set.defrostInterval * 60 ≤ r.sinceDefrost

/-- R130: a reached interval makes the defrost due, and a due defrost is entered. -/
def Device.checkInterval (z : Fin 2) (d : Device) : Device :=
  (d.updateZone z fun r => { r with defrostDue := r.defrostDue || r.intervalReached }).checkDue z

/-! ### Air and evaporator samples (R127, R128, R131) -/

/-- R127, R132: the state a temperature gives from SATISFIED, CALLING or PROBE_FAULT. -/
def Zone.called (r : Zone) (a : Int) : ZoneState :=
  if r.set.setPoint + r.set.differential ≤ a then .calling
  else if a ≤ r.set.setPoint then .satisfied
  else if r.state = .calling then .calling
  else .satisfied

/-- R127, R139: the zone enters PROBE_FAULT, a defrost or drip under way ended. -/
def Device.probeFault (z : Fin 2) (d : Device) : Device :=
  let d :=
    if d.zones[z].state = .defrost then d.endDefrost z .probeFault
    else (d.updateZone z fun r => { r with dripTimer := none }).setZoneState z .probeFault
  d.zoneAlarm z .probeFault

/-- R127: the state an air sample gives. -/
def Device.judgeAir (z : Fin 2) (sample : Sample) (d : Device) : Device :=
  match d.zones[z].state, sample with
  | .off, _ | .defrost, .good _ | .drip, .good _ => d
  | .satisfied, .good a | .calling, .good a | .probeFault, .good a => d.setZoneState z (d.zones[z].called a)
  | .probeFault, _ => d
  | _, _ => d.probeFault z

/-- R128: the warm flag after a sample. -/
def Zone.warmAfter (r : Zone) : Sample → Bool
  | .good a => if r.warm then r.set.warmLimit - 10 < a else r.set.warmLimit < a
  | _ => r.warm

/-- R128: the warm flag is judged; becoming warm is an alarm. -/
def Device.judgeWarm (z : Fin 2) (sample : Sample) (d : Device) : Device :=
  let was := d.zones[z].warm
  let d := d.updateZone z fun r => { r with warm := r.warmAfter sample }
  if !was && d.zones[z].warm then d.zoneAlarm z .warm else d

/-- R127, R137: an air sample: copied, judged, swept once when it must be, and a due defrost entered (log 15). -/
def Device.airSample (z : Fin 2) (sample : Sample) (d : Device) : Device :=
  let old := d.zones[z]
  let d := ((d.updateZone z fun r => { r with air := some sample }).judgeAir z sample).judgeWarm z sample
  let new := d.zones[z]
  let fault (r : Zone) : Bool := r.state = .probeFault
  let d := if old.air.isNone || fault old != fault new || old.warm != new.warm then d.holdSweep z else d
  d.checkDue z

/-- R131: a sample ends a defrost. -/
def Defrost.endedBy (f : Defrost) : Sample → Bool
  | .good a => f.endTemp ≤ a
  | _ => false

/-- R127, R131: an evaporator sample. -/
def Device.evaporatorSample (z : Fin 2) (sample : Sample) (d : Device) : Device :=
  let d := d.updateZone z fun r => { r with evaporator := some sample }
  if d.zones[z].state = .defrost && d.zones[z].defrost.any (·.endedBy sample) then d.endDefrost z .drip else d

/-- R131: the heater's grant is revoked and claimed again. -/
def Device.heaterRevoked (z : Fin 2) (d : Device) : Device := d.claim (heaterClaim z)

/-! ### Timers -/

/-- R130: the since-defrost timer expires. -/
def Device.sinceExpiry (z : Fin 2) (d : Device) : Device :=
  d.onExpiry d.zones[z].sinceTimer fun due d =>
    (d.updateZone z fun r => { r with sinceDefrost := satAdd 1440 r.sinceDefrost 1,
                                      sinceTimer := some (due + Config.minuteMs) }).checkInterval z

/-- R130: SINCE DEFROST TIMER. -/
def execSinceDefrostTimer (z : Fin 2) (s : State) : Result := .next (s.event (Device.sinceExpiry z))

/-- A timer of a zone that runs in one state alone (R131, R132). -/
def Zone.timerIn (st : ZoneState) (t : Timer) (r : Zone) : Timer := if r.state = st then t else none

/-- R131: the defrost timer expires. -/
def Device.defrostExpiry (z : Fin 2) (d : Device) : Device :=
  d.onExpiry (d.zones[z].timerIn .defrost (d.zones[z].defrost.bind (·.timer))) fun _ d => d.endDefrost z .drip

/-- R131: DEFROST TIMER. -/
def execDefrostTimer (z : Fin 2) (s : State) : Result := .next (s.event (Device.defrostExpiry z))

/-- R132: the state a zone's air reading gives at the end of DRIP. -/
def Zone.afterDrip (r : Zone) : ZoneState :=
  match r.air with
  | some (.good a) => if r.set.setPoint + r.set.differential ≤ a then .calling else .satisfied
  | _ => .satisfied

/-- R132: the drip ends. -/
def Device.dripExpiry (z : Fin 2) (d : Device) : Device :=
  d.onExpiry (d.zones[z].timerIn .drip d.zones[z].dripTimer) fun _ d =>
    ((d.updateZone z fun r => { r with dripTimer := none }).setZoneState z d.zones[z].afterDrip).checkDue z

/-- R132: DRIP TIMER. -/
def execDripTimer (z : Fin 2) (s : State) : Result := .next (s.event (Device.dripExpiry z))

/-- R136: a zone is exposed. -/
def Zone.exposed (r : Zone) : Bool := r.warm || r.state = .probeFault

/-- R136: a minute of exposure, with its spoil check and the alarm of a saturation. -/
def Device.exposeMinute (z : Fin 2) (d : Device) : Device :=
  let before := d.zones[z].exposure
  let d := (d.updateZone z fun r => { r with exposure := bump r.exposure }).spoilCheck z
  if before != 65535 && d.zones[z].exposure = 65535 then d.zoneAlarm z .saturated else d

/-- R136: the minute timer expires. -/
def Device.minuteExpiry (z : Fin 2) (d : Device) : Device :=
  d.onExpiry d.zones[z].minuteTimer fun due d =>
    let d := d.updateZone z fun r => { r with minuteTimer := some (due + Config.minuteMs) }
    if d.zones[z].exposed then d.exposeMinute z else d

/-- R136: ZONE MINUTE TIMER. -/
def execZoneMinuteTimer (z : Fin 2) (s : State) : Result := .next (s.event (Device.minuteExpiry z))

/-! ### Requests -/

/-- R126: the settings of a zone. -/
def zoneSettingBytes (c : ZoneSettings) : List Byte :=
  onOff c.enabled ++ i16 c.setPoint ++ i16 c.differential ++ i16 c.warmLimit ++ yesNo c.holdChilled ++
    u16 c.allowance ++ u16 c.defrostInterval ++ i16 c.defrostEnd ++ u16 c.defrostMax

/-- R140: the fields that stand in some states alone; the heater wait has no time left (log 11). -/
def zoneTimes (now : Nat) (r : Zone) : List Byte :=
  match r.state with
  | .defrost =>
    let t := r.defrost.bind (·.timer)
    yesNo t.isSome ++ u16 (timeLeft t now Config.minuteMs)
  | .drip => u16 (timeLeft r.dripTimer now 1000)
  | _ => []

/-- R140: the enrolled lanes of a zone with a mark. -/
def Device.laneCount (d : Device) (z : Fin 2) (f : Lane → Bool) : Nat :=
  (d.table.slots.toList.filter fun l => l.any fun l => l.zone = z && f l).length

/-- R140: READ ZONE's reply. -/
def zoneReply (z : Fin 2) (d : Device) : Reply :=
  let r := d.zones[z]
  reply .ok (zoneSettingBytes r.set ++ u16 d.powerLossCharge ++ u8 (zoneStateCode r.state) ++ yesNo r.warm ++
    u16 r.exposure ++ u16 r.sinceDefrost ++ yesNo r.defrostDue ++ probeBytes r.air ++ probeBytes r.evaporator ++
    onOff r.valve ++ onOff (d.fanOn z) ++ onOff (d.heaterOn z) ++ zoneTimes d.now r ++
    optCode zoneAlarmCode r.lastAlarm ++ u8 (d.laneCount z (·.held)) ++ u8 (d.laneCount z (·.spoiled)))

/-- R140: READ ZONE on the device's records. -/
def readZone (zone : Nat) (d : Device) : Reply :=
  match index 2 zone with
  | none => reply .range []
  | some z => zoneReply z d

/-- R140: READ ZONE. -/
def execReadZone (zone : Nat) (s : State) : Result := .next (s.query (readZone zone))

/-- R126, R133 check 1. -/
def ZoneAmend.inRange (a : ZoneAmend) : Bool :=
  coded onOffOf a.enabled && withinT (-50) 150 a.setPoint && withinT 5 50 a.differential &&
  withinT (-20) 250 a.warmLimit && coded yesNoOf a.holdChilled && within 1 240 a.allowance &&
  within 0 24 a.defrostInterval && withinT 10 150 a.defrostEnd && within 10 60 a.defrostMax &&
  within 0 240 a.powerLossCharge

/-- R133: the settings after a taken request. -/
def ZoneAmend.applied (a : ZoneAmend) (c : ZoneSettings) : ZoneSettings :=
  { enabled := decoded onOffOf a.enabled c.enabled, setPoint := a.setPoint.getD c.setPoint,
    differential := a.differential.getD c.differential, warmLimit := a.warmLimit.getD c.warmLimit,
    holdChilled := decoded yesNoOf a.holdChilled c.holdChilled, allowance := a.allowance.getD c.allowance,
    defrostInterval := a.defrostInterval.getD c.defrostInterval, defrostEnd := a.defrostEnd.getD c.defrostEnd,
    defrostMax := a.defrostMax.getD c.defrostMax }

/-- R134: disabling, in its five steps. -/
def Device.disableZone (z : Fin 2) (d : Device) : Device :=
  let d := if d.zones[z].state = .defrost then d.endDefrost z .off else d
  let d := d.updateZone z fun r =>
    { r with dripTimer := none, defrostDue := false, sinceDefrost := 0, sinceTimer := none }
  (d.setZoneState z .off).holdSweep z

/-- R134: enabling. -/
def Device.enableZone (z : Fin 2) (d : Device) : Device :=
  let d := (d.setZoneState z .satisfied).holdSweep z
  d.updateZone z fun r => { r with sinceDefrost := 0, sinceTimer := some (d.now + Config.minuteMs) }

/-- R134: the effects of a change of enabled. -/
def Device.switchZone (z : Fin 2) (before : Bool) (d : Device) : Device :=
  if before = d.zones[z].set.enabled then d
  else if before then d.disableZone z
  else d.enableZone z

/-- R134, R135: the effects of the settings that changed from `old`, in the order of their fields. -/
def Device.zoneEffects (z : Fin 2) (old : ZoneSettings) (d : Device) : Device :=
  let d := d.switchZone z old.enabled
  let d := if old.holdChilled = d.zones[z].set.holdChilled then d else d.holdSweep z
  let d := if old.allowance = d.zones[z].set.allowance then d else d.spoilCheck z
  if old.defrostInterval = d.zones[z].set.defrostInterval then d else d.checkInterval z

/-- R133: AMEND ZONE on the device's records. -/
def amendZone (zone : Nat) (a : ZoneAmend) (d : Device) : Device × Reply :=
  match index 2 zone with
  | none => refuse .range d
  | some z =>
    let old := d.zones[z].set
    let set := ZoneAmend.applied a old
    if !ZoneAmend.inRange a || set.warmLimit ≤ set.setPoint then refuse .range d
    else
      let d := { d with powerLossCharge := a.powerLossCharge.getD d.powerLossCharge }
      okay ((d.updateZone z fun r => { r with set := set }).zoneEffects z old)

/-- R133: AMEND ZONE. -/
def execAmendZone (zone : Nat) (a : ZoneAmend) (s : State) : Result := .next (s.request (amendZone zone a))

/-- R141: START DEFROST on the device's records. -/
def startDefrost (zone : Nat) (d : Device) : Device × Reply :=
  match index 2 zone with
  | none => refuse .range d
  | some z =>
    let r := d.zones[z]
    if !r.set.enabled then refuse .notAllowed d
    else
      match r.state with
      | .defrost | .drip => refuse .busy d
      | .probeFault => refuse .notAllowed d
      | .off | .satisfied | .calling =>
        ((d.updateZone z fun r => { r with defrostDue := true }).checkDue z, reply .accepted [])

/-- R141: START DEFROST. -/
def execStartDefrost (zone : Nat) (s : State) : Result := .next (s.request (startDefrost zone))

end Sys2Proof.Machine
end

