-- ==== Sys2Proof/Machine/Lanes.lean ====
section
/-! DEFINITION. The lane table's seven requests (R8 to R18). -/
namespace Sys2Proof.Machine

/-! ### Motor positions (R8) -/

/-- R8: an enrolled lane other than n holds position p, as its primary or its companion. -/
def Device.positionHeld (d : Device) (n p : Fin 64) : Bool :=
  allLanes.any fun m => m ≠ n && (d.lane? m).any fun l => m = p || l.companion = some p

/-- R8: a companion named for lane n, absent or meeting the geometry. -/
def companionOk (n : Fin 64) (c : Option Nat) : Bool := c.all (companionFits n.val)

/-- The motor position a companion operand names. -/
def position (c : Option Nat) : Option (Fin 64) := c.bind (index 64)

/-! ### ENROL LANE (R9) -/

/-- R9 check 1. -/
def LaneSettings.inRange (g : LaneSettings) (n : Fin 64) : Bool :=
  within 1 65535 (some g.product) && within 0 65535 (some g.price) && within 1 99 (some g.capacity) &&
  g.stock ≤ g.capacity && g.zone ≤ 1 && coded laneClassOf (some g.laneClass) && companionOk n g.companion &&
  within 1 3 (some g.turns) && within 0 2 (some g.extraTurns) && coded dropCheckOf (some g.dropCheck)

/-- R9 check 3: a position of the new lane is held by another. -/
def Device.motorTaken (d : Device) (n : Fin 64) (c : Option (Fin 64)) : Bool :=
  d.positionHeld n n || c.any fun p => d.positionHeld n p

/-- R9: the record a taken request fills, given the stamp, the zone and its hold decision. -/
def LaneSettings.record (g : LaneSettings) (stamp : Word16) (zone : Fin 2) (k : LaneClass) (held : Bool)
    (exposure : Nat) : Lane :=
  { base := .checking, held := held, spoiled := false, product := g.product, price := g.price,
    capacity := g.capacity, stock := g.stock, reserved := 0, zone := zone, laneClass := k,
    companion := position g.companion, turns := g.turns, extraTurns := g.extraTurns,
    dropCheck := (dropCheckOf g.dropCheck).getD .required, stamp := stamp, baseline := exposure, offHome := false,
    jams := 0, sales := 0, lastTurn := none }

/-- R9: a taken ENROL LANE. -/
def enrol (n : Fin 64) (g : LaneSettings) (d : Device) : Device :=
  let d := d.giveStamp
  let zone := Fin.ofNat 2 g.zone
  let k := (laneClassOf g.laneClass).getD .ambient
  let z := d.zones[zone]
  (d.setSlot n (some (LaneSettings.record g d.table.stampCounter zone k (z.holds k) z.exposure))).joinJobs (.fitCheck n)

/-- R9: ENROL LANE on the device's records. -/
def enrolLane (lane : Nat) (g : LaneSettings) (d : Device) : Device × Reply :=
  match index 64 lane with
  | none => refuse .range d
  | some n =>
    if !LaneSettings.inRange g n then refuse .range d
    else if (d.lane? n).isSome then refuse .exists_ d
    else if d.motorTaken n (position g.companion) then refuse .motorTaken d
    else (enrol n g d, reply .ok (u16 d.giveStamp.table.stampCounter.toNat))

/-- R9: ENROL LANE. -/
def execEnrolLane (lane : Nat) (g : LaneSettings) (s : State) : Result := .next (s.request (enrolLane lane g))

/-- R1: a request on an enrolled lane: RANGE outside 0 to 63, NOT_FOUND on a vacant slot. -/
def onLane (lane : Nat) (f : Fin 64 → Lane → Device → Device × Reply) (d : Device) : Device × Reply :=
  match index 64 lane with
  | none => refuse .range d
  | some n =>
    match d.lane? n with
    | none => refuse .notFound d
    | some l => f n l d

/-! ### AMEND LANE (R10, R11) -/

/-- R10 check 3. -/
def LaneAmend.inRange (a : LaneAmend) (n : Fin 64) (l : Lane) : Bool :=
  within 1 65535 a.product && within 0 65535 a.price && within 1 99 a.capacity && a.capacity.all (l.stock ≤ ·) &&
  within 0 1 a.zone && coded laneClassOf a.laneClass && a.companion.all (companionOk n) && within 1 3 a.turns &&
  within 0 2 a.extraTurns && coded dropCheckOf a.dropCheck && a.base.all (· = offlineCode) &&
  within 0 0 a.jams && within 0 0 a.sales

/-- The companion that results. -/
def LaneAmend.companionAfter (a : LaneAmend) (l : Lane) : Option (Fin 64) :=
  match a.companion with
  | none => l.companion
  | some c => position c

/-- The companion is changed. -/
def LaneAmend.moves (a : LaneAmend) (l : Lane) : Bool := LaneAmend.companionAfter a l != l.companion

/-- The zone that results. -/
def LaneAmend.zoneAfter (a : LaneAmend) (l : Lane) : Fin 2 := decoded (index 2) a.zone l.zone

/-- The class that results. -/
def LaneAmend.classAfter (a : LaneAmend) (l : Lane) : LaneClass := decoded laneClassOf a.laneClass l.laneClass

/-- The zone or class is changed. -/
def LaneAmend.rezones (a : LaneAmend) (l : Lane) : Bool :=
  LaneAmend.zoneAfter a l != l.zone || LaneAmend.classAfter a l != l.laneClass

/-- The base state is named OFFLINE and changed by it. -/
def LaneAmend.offlines (a : LaneAmend) (l : Lane) : Bool := a.base.isSome && l.base != .offline

/-- R10 checks 4 to 9: the status of the first that fails. -/
def LaneAmend.refusal (a : LaneAmend) (n : Fin 64) (l : Lane) (d : Device) : Option Status :=
  if LaneAmend.moves a l && LaneAmend.offlines a l then some .notAllowed
  else if LaneAmend.rezones a l && 0 < l.stock then some .laneStocked
  else if LaneAmend.rezones a l && l.spoiled then some .notAllowed
  else if LaneAmend.moves a l && (d.queue.liveOn n || l.base = .checking) then some .laneBusy
  else if LaneAmend.offlines a l && (l.base = .checking || d.queue.currentOn n) then some .laneBusy
  else if LaneAmend.moves a l && (LaneAmend.companionAfter a l).any (fun p => d.positionHeld n p) then some .motorTaken
  else none

/-- R11: the record with every named field written and the effects on it, given the new zone's exposure. -/
def LaneAmend.applied (a : LaneAmend) (exposure : Nat) (l : Lane) : Lane :=
  { l with
    product := a.product.getD l.product, price := a.price.getD l.price, capacity := a.capacity.getD l.capacity,
    zone := LaneAmend.zoneAfter a l, laneClass := LaneAmend.classAfter a l, companion := LaneAmend.companionAfter a l,
    turns := a.turns.getD l.turns, extraTurns := a.extraTurns.getD l.extraTurns,
    dropCheck := decoded dropCheckOf a.dropCheck l.dropCheck, jams := a.jams.getD l.jams, sales := a.sales.getD l.sales,
    base := if LaneAmend.moves a l then .checking else if LaneAmend.offlines a l then .offline else l.base,
    offHome := l.offHome && !LaneAmend.moves a l, lastTurn := if LaneAmend.moves a l then none else l.lastTurn,
    baseline := if LaneAmend.rezones a l then exposure else l.baseline }

/-- R11: a taken AMEND LANE. -/
def amendEnrolled (a : LaneAmend) (n : Fin 64) (l : Lane) (d : Device) : Device :=
  let z := d.zones[LaneAmend.zoneAfter a l]
  let d := d.updateLane n (LaneAmend.applied a z.exposure)
  let d := if LaneAmend.rezones a l then d.decideHold n (z.holds (LaneAmend.classAfter a l)) else d
  if LaneAmend.moves a l then d.joinJobs (.fitCheck n) else d

/-- R10: AMEND LANE on the device's records. -/
def amendLane (lane : Nat) (a : LaneAmend) (d : Device) : Device × Reply :=
  onLane lane (fun n l d =>
    if !LaneAmend.inRange a n l then refuse .range d
    else
      match LaneAmend.refusal a n l d with
      | some st => refuse st d
      | none => okay (amendEnrolled a n l d)) d

/-- R10: AMEND LANE. -/
def execAmendLane (lane : Nat) (a : LaneAmend) (s : State) : Result := .next (s.request (amendLane lane a))

/-! ### RESTOCK LANE, CHECK LANE, RETIRE LANE (R12, R14, R15) -/

/-- R12: the record after a restock. -/
def Lane.restock (stock : Nat) (stamp : Word16) (exposure : Nat) (l : Lane) : Lane :=
  { l with stock := stock, spoiled := false, baseline := exposure, stamp := stamp }

/-- R12: RESTOCK LANE on the device's records. -/
def restockLane (lane stock : Nat) (d : Device) : Device × Reply :=
  if 64 ≤ lane || 99 < stock then refuse .range d
  else
    onLane lane (fun n l d =>
      if l.capacity < stock || stock < l.reserved then refuse .range d
      else
        let d := d.giveStamp
        let stamp := d.table.stampCounter
        (d.updateLane n (Lane.restock stock stamp d.zones[l.zone].exposure), reply .ok (u16 stamp.toNat))) d

/-- R12: RESTOCK LANE. -/
def execRestockLane (lane stock : Nat) (s : State) : Result := .next (s.request (restockLane lane stock))

/-- R14, R15 check 3. -/
def laneBusy (n : Fin 64) (l : Lane) (d : Device) : Bool := l.base = .checking || d.queue.currentOn n

/-- R14: CHECK LANE on the device's records. -/
def checkLane (lane : Nat) (d : Device) : Device × Reply :=
  onLane lane (fun n l d =>
    if laneBusy n l d then refuse .laneBusy d
    else ((d.updateLane n fun l => { l with base := .checking }).joinJobs (.fitCheck n), reply .accepted [])) d

/-- R14: CHECK LANE. -/
def execCheckLane (lane : Nat) (s : State) : Result := .next (s.request (checkLane lane))

/-- R15: the QUEUED orders on a lane. -/
def OrderQueue.queuedOn (q : OrderQueue) (n : Fin 64) : Nat :=
  (q.orders.filter fun o => o.state = .queued && o.lane = n).length

/-- R15: RETIRE LANE on the device's records. -/
def retireLane (lane : Nat) (d : Device) : Device × Reply :=
  onLane lane (fun n l d =>
    if laneBusy n l d then refuse .laneBusy d
    else
      ((((d.cancelQueued n .laneRetired).setSlot n none).leaveChanged n).conclude d.queue,
        reply .ok (u8 (d.queue.queuedOn n)))) d

/-- R15: RETIRE LANE. -/
def execRetireLane (lane : Nat) (s : State) : Result := .next (s.request (retireLane lane))

/-! ### READ LANE (R16) -/

/-- R16: the record, in the order of R1's fields; the jam count in 1 byte (log 9). -/
def laneBytes (n : Fin 64) (l : Lane) : List Byte :=
  num n ++ u8 (baseCode l.base) ++ yesNo l.held ++ yesNo l.spoiled ++ u16 l.product ++ u16 l.price ++ u8 l.capacity ++
    u8 l.stock ++ u8 l.reserved ++ num l.zone ++ u8 (laneClassCode l.laneClass) ++ optNum l.companion ++ u8 l.turns ++
    u8 l.extraTurns ++ u8 (dropCheckCode l.dropCheck) ++ u16 l.stamp.toNat ++ u16 l.baseline ++ yesNo l.offHome ++
    u8 l.jams ++ u16 l.sales ++ u16 (l.lastTurn.getD 0)

/-- R16: the read of an enrolled lane: it leaves the changed-lanes set. -/
def readEnrolled (n : Fin 64) (l : Lane) (d : Device) : Device × Reply :=
  let d := d.leaveChanged n
  (d, reply .ok (laneBytes n l ++ u8 d.table.changedCount))

/-- R16: READ LANE on the device's records; a form above 1 is out of range, and the next-changed form does not look
at the lane byte (log 10). -/
def readLane (form lane : Nat) (d : Device) : Device × Reply :=
  match form with
  | 0 => onLane lane readEnrolled d
  | 1 =>
    match d.table.lowestChanged with
    | none => refuse .notFound d
    | some n => onLane n.val readEnrolled d
  | _ => refuse .range d

/-- R16: READ LANE. -/
def execReadLane (form lane : Nat) (s : State) : Result := .next (s.request (readLane form lane))

/-! ### Product lookup (R17, R18) -/

/-- The enrolled lanes that carry a product code, in ascending order. -/
def Device.carriers (d : Device) (code : Nat) : List (Fin 64 × Lane) :=
  allLanes.filterMap fun n => ((d.lane? n).filter (·.product = code)).map fun l => (n, l)

/-- R17: a candidate comes before another: the larger age, then the lower lane number. -/
def LaneTable.olderThan (t : LaneTable) (x y : Fin 64 × Lane) : Bool :=
  t.age y.2 < t.age x.2 || (t.age x.2 = t.age y.2 && x.1 < y.1)

/-- R17: the vend preference order for a product code. -/
def Device.vendOrder (d : Device) (code : Nat) : List (Fin 64 × Lane) :=
  sortBy d.table.olderThan ((d.carriers code).filter fun x => x.2.sellable 1 0)

/-- R18: a lane's free units. -/
def Lane.freeUnits (l : Lane) : Nat := l.stock - l.reserved

/-- R18: FIND PRODUCT on the device's records. -/
def findProduct (code : Nat) (d : Device) : Reply :=
  let carry := d.carriers code
  let order := d.vendOrder code
  if code = 0 then reply .range []
  else if carry.isEmpty then reply .notFound []
  else
    reply .ok (u8 carry.length ++ u8 order.length ++ u16 (order.map fun x => x.2.freeUnits).sum ++
      counted (fun x => num x.1 ++ u8 x.2.freeUnits) (order.take 16))

/-- R18: FIND PRODUCT. -/
def execFindProduct (code : Nat) (s : State) : Result := .next (s.query (findProduct code))

end Sys2Proof.Machine
end

