-- ==== Sys2Proof/Machine/Queue.lean ====
section
/-! DEFINITION. The order queue's requests (R50 to R53, R64 to R71). -/
namespace Sys2Proof.Machine

/-! ### PLACE ORDER (R50 to R53) -/

/-- R50: the fields in range; the choice mark is 0 for a lane and 1 for a product code (log 10). -/
def Placement.inRange (p : Placement) : Bool :=
  p.tag != 0 && within 1 4 (some p.quantity) && coded paymentOf (some p.payment) &&
  (match p.choice with
   | 0 => p.target < 64
   | 1 => p.target != 0
   | _ => false)

/-- R51 checks 3 and 4: the lane resolved and sellable, or the status. -/
def Placement.resolve (p : Placement) (d : Device) : Except Status (Fin 64 × Lane) :=
  match p.choice with
  | 0 =>
    match (index 64 p.target).bind fun n => (d.lane? n).map fun l => (n, l) with
    | none => .error .notFound
    | some x =>
      match x.2.unsellable p.quantity 0 with
      | none => .ok x
      | some .soldOut => .error .soldOut
      | some _ => .error .notSellable
  | _ =>
    if (d.carriers p.target).isEmpty then .error .notFound
    else
      match (d.vendOrder p.target).find? fun x => x.2.sellable p.quantity 0 with
      | none => .error .soldOut
      | some x => .ok x

/-- R50, R46: the flags INEXACT_OK and FINAL, HOLD_AFTER and the payment. -/
def Placement.isCredit (p : Placement) : Bool := paymentOf p.payment = some .credit

/-- R52 check 5a: money is moving. -/
def Device.moneyMoving (d : Device) : Bool :=
  (!d.payout.idle && d.payout.plan.any (·.kind ≠ .dispense)) || d.credit.pending != .no || d.coins.inFlight.isSome

/-- R52: the three credit checks of a cost. -/
def creditRefusal (inexactOk : Bool) (cost : Nat) (d : Device) : Option Status :=
  let u := d.credit.uncommitted
  let left := u - cost
  if d.moneyMoving then some .busy
  else if u < cost then some .noCredit
  else if 0 < left && d.planTotal false left != left && !inexactOk then some .noChange
  else none

/-- R53: the order a placement fills. -/
def Placement.order (p : Placement) (n : Fin 64) (l : Lane) : Order :=
  { tag := p.tag, lane := n, product := l.product, quantity := p.quantity, price := l.price,
    payment := (paymentOf p.payment).getD .credit, final := flagBit p.flags 0, holdAfter := flagBit p.flags 1,
    inexactOk := flagBit p.flags 2, state := .queued, delivered := 0, residue := 0, charged := 0, cause := none }

/-- R47: the number of live orders. -/
def OrderQueue.liveCount (q : OrderQueue) : Nat := (q.orders.filter (·.state.live)).length

/-- R53: a taken placement. -/
def place (o : Order) (d : Device) : Device :=
  let q0 := d.queue
  let d := ({ d with queue := { q0 with orders := q0.orders ++ [o] } } : Device).reserve o.lane o.quantity
  let d := if o.payment = .credit then d.commit (o.price * o.quantity) else d
  d.startHead.takeFrom q0

/-- R51, R52, R53: PLACE ORDER with its fields in range. -/
def placeChecked (p : Placement) (d : Device) : Device × Reply :=
  if Config.maxOrders ≤ d.queue.orders.length then refuse .queueFull d
  else if (d.queue.find? p.tag).isSome then refuse .tagInUse d
  else
    match Placement.resolve p d with
    | .error st => refuse st d
    | .ok (n, l) =>
      let cost := l.price * p.quantity
      match if Placement.isCredit p then creditRefusal (flagBit p.flags 2) cost d else none with
      | some st => refuse st d
      | none =>
        (place (Placement.order p n l) d,
          reply .ok (num n ++ u16 l.price ++ u32 cost ++ u8 d.queue.liveCount))

/-- R50: PLACE ORDER on the device's records. -/
def placeOrder (p : Placement) (d : Device) : Device × Reply :=
  if Placement.inRange p then placeChecked p d else refuse .range d

/-- R50: PLACE ORDER. -/
def execPlaceOrder (p : Placement) (s : State) : Result := .next (s.request (placeOrder p))

/-! ### Queue controls (R64 to R68) -/

/-- R54: the queue state. -/
def Device.setQueueState (q : QueueState) (d : Device) : Device := { d with queue := { d.queue with state := q } }

/-- R64: HOLD QUEUE on the device's records. -/
def holdQueue (d : Device) : Device × Reply := okay (d.setQueueState .held)

/-- R64: HOLD QUEUE. -/
def execHoldQueue (s : State) : Result := .next (s.request holdQueue)

/-- R64: RESUME QUEUE on the device's records. -/
def resumeQueue (d : Device) : Device × Reply := okay ((d.setQueueState .running).startHead.takeFrom d.queue)

/-- R64: RESUME QUEUE. -/
def execResumeQueue (s : State) : Result := .next (s.request resumeQueue)

/-- R65: HALT DRIVE on the device's records. -/
def haltDrive (d : Device) : Device × Reply :=
  if d.queue.current?.isNone then refuse .notFound d else okay ((d.haltOrder false).conclude d.queue)

/-- R65: HALT DRIVE. -/
def execHaltDrive (s : State) : Result := .next (s.request haltDrive)

/-- R66: what follows the order's return to DRIVING, by the unit position. -/
def resumeAt (p : UnitPosition) (d : Device) : Device :=
  match p with
  | .halted => (d.setUnitPos .posted).resumeUnit
  | .none => d.startUnit.takeFrom d.queue
  | .posted => d

/-- R66: RESUME DRIVE on the device's records. -/
def resumeDrive (d : Device) : Device × Reply :=
  match d.queue.current? with
  | none => refuse .notFound d
  | some o =>
    if o.state ≠ .halted then refuse .notFound d
    else if !d.gatesOpen then refuse .notAllowed d
    else okay (resumeAt d.queue.unitPos (d.updateOrder o.tag fun o => { o with state := .driving }))

/-- R66: RESUME DRIVE. -/
def execResumeDrive (s : State) : Result := .next (s.request resumeDrive)

/-- R67, R68: a live order is ended by request: its unit drive abandoned when it is the current order. -/
def Device.giveUp (o : Order) (cause : EndCause) (d : Device) : Device :=
  (if o.state.current && d.queue.unitPos ≠ .none then d.abandon o.tag else d).endOrder o.tag cause

/-- R67: SKIP ORDER on the device's records. -/
def skipOrder (tag : Nat) (d : Device) : Device × Reply :=
  if tag = 0 then refuse .range d
  else
    match d.queue.find? tag with
    | none => refuse .notFound d
    | some o =>
      if !o.state.live then refuse .notAllowed d
      else okay ((d.giveUp o .skipped).conclude d.queue)

/-- R67: SKIP ORDER. -/
def execSkipOrder (tag : Nat) (s : State) : Result := .next (s.request (skipOrder tag))

/-- R68: the current order, if any, is given up with cause CLEARED. -/
def Device.clearCurrent (d : Device) : Device :=
  match d.queue.current? with
  | none => d
  | some o => d.giveUp o .cleared

/-- R68: CLEAR QUEUE on the device's records. -/
def clearQueue (d : Device) : Device × Reply :=
  (((d.clearCurrent.cancelAllQueued .cleared).setQueueState .held).conclude d.queue,
    reply .ok (u8 d.queue.liveCount))

/-- R68: CLEAR QUEUE. -/
def execClearQueue (s : State) : Result := .next (s.request clearQueue)

/-! ### Reading and retiring (R69 to R71) -/

/-- R69: an order record. -/
def orderBytes (o : Order) : List Byte :=
  u8 o.tag ++ num o.lane ++ u16 o.product ++ u8 o.quantity ++ u16 o.price ++ u8 (paymentCode o.payment) ++
    yesNo o.final ++ yesNo o.holdAfter ++ yesNo o.inexactOk ++ u8 (orderStateCode o.state) ++ u8 o.delivered ++
    u8 o.residue ++ u32 o.charged ++ optCode endCauseCode o.cause

/-- R69: READ ORDER on the device's records. -/
def readOrder (tag : Nat) (d : Device) : Reply :=
  if tag = 0 then reply .range []
  else
    match d.queue.find? tag with
    | none => reply .notFound []
    | some o => reply .ok (orderBytes o ++ if o.state.current then u8 (unitPosCode d.queue.unitPos) else [])

/-- R69: READ ORDER. -/
def execReadOrder (tag : Nat) (s : State) : Result := .next (s.query (readOrder tag))

/-- R70: an order in READ QUEUE's list. -/
def queuedBytes (o : Order) : List Byte :=
  u8 o.tag ++ num o.lane ++ u8 (orderStateCode o.state) ++ u8 o.quantity ++ u8 o.delivered ++ u8 (paymentCode o.payment)

/-- R70: READ QUEUE's reply. -/
def queueReply (d : Device) : Reply :=
  let q := d.queue
  reply .ok (u8 (queueStateCode q.state) ++ onOff (d.onRef .door) ++ onOff (d.onRef .flap) ++
    optU8 (q.current?.map (·.tag)) ++ optCode unitPosCode (q.current?.map fun _ => q.unitPos) ++
    u8 q.orders.length ++ u8 q.liveCount ++ q.orders.flatMap queuedBytes)

/-- R70: READ QUEUE. -/
def execReadQueue (s : State) : Result := .next (s.query queueReply)

/-- R71: the orders that f keeps. -/
def Device.keepOrders (f : Order → Bool) (d : Device) : Device :=
  { d with queue := { d.queue with orders := d.queue.orders.filter f } }

/-- R71: RETIRE ORDER on the device's records. -/
def retireOrder (tag : Nat) (d : Device) : Device × Reply :=
  if tag = 0 then
    (d.keepOrders (·.state.live), reply .ok (u8 (d.queue.orders.length - d.queue.liveCount)))
  else
    match d.queue.find? tag with
    | none => refuse .notFound d
    | some o => if o.state.live then refuse .notAllowed d else okay (d.keepOrders (·.tag ≠ tag))

/-- R71: RETIRE ORDER. -/
def execRetireOrder (tag : Nat) (s : State) : Result := .next (s.request (retireOrder tag))

end Sys2Proof.Machine
end

