-- ==== Sys2Proof/Machine/Inputs.lean ====
section
/-! DEFINITION. The supervised inputs (R167 to R169): debouncing, the handing of a new state to its blocks, and
READ INPUTS and AMEND INPUT. -/
namespace Sys2Proof.Machine

/-- Changes an input record. -/
def Device.updateInput (i : InputName) (f : Input → Input) (d : Device) : Device :=
  { d with inputs := put d.inputs (inputIndex i) (f d.inputs[inputIndex i]) }

/-- The record of an input. -/
def Device.input (d : Device) (i : InputName) : Input := d.inputs[inputIndex i]

/-- R167: the state the debounced level gives. -/
def Input.judged (r : Input) : InputState := if r.debounced = some r.reference then .onRef else .offRef

/-- R167: the new state is handed to the blocks that act on the input. -/
def Device.handInput (i : InputName) (st : InputState) (d : Device) : Device :=
  match i, st with
  | .door, .offRef => (d.haltOrder false).conclude d.queue
  | .door, .onRef => d.startHead.takeFrom d.queue
  | .flap, .onRef => (d.startUnit.startHead).takeFrom d.queue
  | .cashbox, _ => d.recomputeMask
  | .flap, .offRef | .aux, _ => d

/-- R167, R169: the state is judged; a change is handed on, and raises INPUT_CHANGED unless `quiet`. -/
def Device.judgeInput (i : InputName) (quiet : Bool) (d : Device) : Device :=
  let st := (d.input i).judged
  if st = (d.input i).state then d
  else
    let d := d.updateInput i fun r => { r with state := st }
    (if quiet then d else d.raise .inputChanged).handInput i st

/-- R167: the line takes a level; a new level is timed, a return to the debounced level is none. -/
def Device.inputLineEdge (i : InputName) (level : Level) (d : Device) : Device :=
  if level = (d.input i).line then d
  else
    d.updateInput i fun r =>
      { r with line := level,
               timer := if r.debounced = some level then none else some (d.now + Config.inputDebounceMs) }

/-- R167: INPUT LINE EDGE. -/
def execInputLineEdge (i : InputName) (level : Level) (s : State) : Result :=
  .next (s.ungatedEvent (Device.inputLineEdge i level))

/-- R167, R169: the level held for 50 ms; the first debounced level raises nothing. -/
def Device.inputChange (i : InputName) (d : Device) : Device :=
  d.onExpiry (d.input i).timer fun _ d =>
    let first := (d.input i).debounced.isNone
    (d.updateInput i fun r => { r with debounced := some r.line, timer := none }).judgeInput i first

/-- R167: INPUT CHANGE. -/
def execInputChange (i : InputName) (s : State) : Result := .next (s.event (Device.inputChange i))

/-- R168: AMEND INPUT on the device's records. -/
def amendInput (input level : Nat) (d : Device) : Device × Reply :=
  match inputOf input, levelOf level with
  | some i, some l => okay ((d.updateInput i fun r => { r with reference := l }).judgeInput i false)
  | _, _ => refuse .range d

/-- R168: AMEND INPUT. -/
def execAmendInput (input level : Nat) (s : State) : Result := .next (s.request (amendInput input level))

/-- R168: an input record. -/
def inputBytes (r : Input) : List Byte :=
  u8 (levelCode r.reference) ++ optCode levelCode r.debounced ++ u8 (inputStateCode r.state) ++ u8 (levelCode r.line) ++
    yesNo r.timer.isSome

/-- R168: READ INPUTS's reply. -/
def inputsReply (d : Device) : Reply := reply .ok (d.inputs.toList.flatMap inputBytes)

/-- R168: READ INPUTS. -/
def execReadInputs (s : State) : Result := .next (s.query inputsReply)

end Sys2Proof.Machine
end

