-- ==== Sys2Proof/Machine/Scanner.lean ====
section
/-! DEFINITION. The sense scanner (R156 to R165): the converter, passes and priority sampling, the judging and
storing of a sample, the supply band with its revocations (R170, R171, R176), and the scanner's requests. -/
namespace Sys2Proof.Machine

/-- Changes the scanner. -/
def Device.updateScanner (f : Scanner → Scanner) (d : Device) : Device := { d with scanner := f d.scanner }

/-! ### The supply band (R170, R171, R176) -/

/-- R170: the band a voltage gives, in tenths of a volt. -/
def LoadBudget.bandAt (b : LoadBudget) (v : Int) : Band :=
  let low : Int := b.set.lowThreshold
  let crit : Int := b.set.criticalThreshold
  match b.band with
  | .normal => if v < crit then .critical else if v < low then .low else .normal
  | .low => if v < crit then .critical else if v < low + 5 then .low else .normal
  | .critical => if low + 5 ≤ v then .normal else if v < low && v < crit + 5 then .critical else .low

/-- R170: the band a supply sample gives; OVER_RANGE stands above every threshold. -/
def LoadBudget.bandAfter (b : LoadBudget) : Sample → Band
  | .good v => b.bandAt v
  | .overRange => .normal
  | .opened | .short => b.band

/-- R176: a holder is told of its revocation. -/
def Device.revoked (who : Claimant) (d : Device) : Device :=
  match who with
  | .drive => d.driveRevoked
  | .payout => d.payoutRevoked
  | .compressor => d.compressorRevoked
  | .heater z => d.heaterRevoked z

/-- R176: every grant is taken back, then each holder told, in grant order. -/
def Device.revokeAll (d : Device) : Device :=
  d.load.grants.foldl (fun d c => d.revoked c.who) { d with load := { d.load with grants := [] } }

/-- R171: a change of band acts. -/
def Device.enterBand (b : Band) (d : Device) : Device :=
  let d := Device.raise .supplyChanged { d with load := { d.load with band := b } }
  match b with
  | .critical => d.revokeAll
  | .low => d
  | .normal => d.grantTest

/-- R170, R171: a supply sample. -/
def Device.supplySample (sample : Sample) (d : Device) : Device :=
  let b := d.load.bandAfter sample
  let d := { d with load := { d.load with supply := some sample } }
  if b = d.load.band then d else d.enterBand b

/-! ### Judging (R160, R161) -/

/-- R160: the points of a curve: reading in per mille, temperature in tenths. -/
def Curve.points : Curve → List (Nat × Int)
  | .a => [(960, -400), (900, -220), (800, -60), (700, 50), (600, 140), (500, 230), (400, 330), (300, 450),
           (200, 600), (100, 850), (50, 1100), (40, 1250)]
  | .b => [(970, -400), (900, -150), (800, 10), (700, 110), (600, 200), (500, 280), (400, 370), (300, 480),
           (200, 630), (100, 880), (50, 1250)]

/-- R160 step 2: the straight line between two points, rounded to the nearest tenth, a half upward. -/
def onLine (r1 : Nat) (t1 : Int) (r2 : Nat) (t2 : Int) (r : Nat) : Int :=
  let den : Int := r1 - r2
  t1 + (2 * ((r1 : Int) - r) * (t2 - t1) + den) / (2 * den)

/-- R160 step 2: the temperature of a reading between neighbouring points of the list. -/
def between (r : Nat) : List (Nat × Int) → Option Int
  | (r1, t1) :: (r2, t2) :: rest =>
    if r ≤ r1 && r2 ≤ r then some (onLine r1 t1 r2 t2 r) else between r ((r2, t2) :: rest)
  | _ => none

/-- R160: a probe reading judged. -/
def judgeProbe (setup : ChannelSetup) (r : Nat) : Sample :=
  if 980 ≤ r then .opened
  else if r ≤ 20 then .short
  else
    match between r setup.curve.points with
    | none => .overRange
    | some t =>
      let v := t + setup.offset
      if -400 ≤ v && v ≤ 1250 then .good v else .overRange

/-- R161: a voltage or current reading judged. -/
def judgeUpTo (top r : Nat) : Sample := if r ≤ top then .good r else .overRange

/-- R156, R160, R161: a channel's reading judged. -/
def judgeReading (c : Fin 8) (setup : ChannelSetup) (r : Nat) : Sample :=
  if c = 5 then judgeUpTo 400 r else if c = 6 then judgeUpTo 3000 r else judgeProbe setup r

/-! ### The mailbox (R162) -/

/-- R162 steps 1 to 3. -/
def Mailbox.store (sample : Sample) (m : Mailbox) : Mailbox :=
  { sample := some sample, fresh := true, overwritten := m.overwritten || m.fresh }

/-- Both flags no. -/
def Mailbox.seen (m : Mailbox) : Mailbox := { m with fresh := false, overwritten := false }

/-- R162 step 4, R156: the sample, stored at time `at_`, goes to the channel's block. -/
def Device.handSample (c : Fin 8) (at_ : Nat) (sample : Sample) (d : Device) : Device :=
  match c with
  | 0 => d.airSample 0 sample
  | 1 => d.evaporatorSample 0 sample
  | 2 => d.airSample 1 sample
  | 3 => d.evaporatorSample 1 sample
  | 4 => d.condenserSample sample
  | 5 => d.supplySample sample
  | 6 => d.motorSample at_ sample
  | 7 => d

/-- R162: a judged sample is stored. -/
def Device.storeSample (c : Fin 8) (at_ : Nat) (sample : Sample) (d : Device) : Device :=
  (d.updateScanner fun s => { s with boxes := put s.boxes c (s.boxes[c].store sample) }).handSample c at_ sample

/-! ### Conversions and passes (R157, R158) -/

/-- R157: a conversion starts. -/
def Scanner.convert (now : Nat) (c : Fin 8) (source : ConversionSource) (s : Scanner) : Scanner :=
  { s with converting := some { channel := c, source := source, ends := now + Config.conversionMs } }

/-- R157, R158: the free converter starts a waiting conversion: the priority one first, then the running pass's
next channel, then the first channel of a pass asked for, which then runs. -/
def Scanner.startNext (now : Nat) (s : Scanner) : Scanner :=
  if s.converting.isSome then s
  else if 0 < s.priorityWaiting then
    Scanner.convert now 6 .priority { s with priorityWaiting := s.priorityWaiting - 1 }
  else
    match s.pass with
    | some c => s.convert now c .pass
    | none =>
      if s.passPending then Scanner.convert now 0 .pass { s with pass := some 0, passPending := false } else s

/-- R158: the pass ends; a pending one is next. -/
def Scanner.endPass (s : Scanner) : Scanner := { s with pass := none }

/-- R158: the pass goes on after channel c. -/
def Scanner.advance (c : Fin 8) (s : Scanner) : Scanner :=
  if c = 7 || (c = 6 && !s.setups[(7 : Fin 8)].enabled) then s.endPass else { s with pass := some (c + 1) }

/-- R158: a pass is asked for: it starts at once when none runs and the converter is free of priority conversions,
and otherwise waits. -/
def Scanner.askPass (now : Nat) (s : Scanner) : Scanner := Scanner.startNext now { s with passPending := true }

/-- R157: what follows a conversion's store. -/
def Scanner.next (now : Nat) (k : Conversion) (s : Scanner) : Scanner :=
  (if k.source = .pass then s.advance k.channel else s).startNext now

/-! ### Events -/

/-- R158: the period timer expires and restarts. -/
def Device.periodExpiry (d : Device) : Device :=
  d.onExpiry d.scanner.periodTimer fun due d =>
    d.updateScanner fun s => Scanner.askPass d.now { s with periodTimer := some (due + s.period) }

/-- R158: PERIOD TIMER. -/
def execPeriodTimer (s : State) : Result := .next (s.event Device.periodExpiry)

/-- R159: the priority timer expires and restarts, and one channel 6 conversion is asked for. -/
def Device.priorityExpiry (d : Device) : Device :=
  d.onExpiry d.scanner.priorityTimer fun due d =>
    d.updateScanner fun s =>
      Scanner.startNext d.now
        { s with priorityTimer := some (due + Config.priorityMs), priorityWaiting := s.priorityWaiting + 1 }

/-- R159: PRIORITY TIMER. -/
def execPriorityTimer (s : State) : Result := .next (s.event Device.priorityExpiry)

/-- R157: the conversion under way ends with a reading. -/
def Device.conversionEnd (reading : Nat) (d : Device) : Device :=
  match d.scanner.converting with
  | none => d
  | some k =>
    let d := (d.reach k.ends).updateScanner fun s => { s with converting := none }
    let d := d.storeSample k.channel k.ends (judgeReading k.channel d.scanner.setups[k.channel] reading)
    d.updateScanner fun s => s.next d.now k

/-- R157: CONVERSION END. -/
def execConversionEnd (reading : Nat) (s : State) : Result := .next (s.event (Device.conversionEnd reading))

/-! ### Requests (R163 to R165) -/

/-- R156: a channel carries a curve and an offset. -/
def isProbe (c : Fin 8) : Bool := c ≠ 5 && c ≠ 6

/-- R156, R163: the settings the channel carries. -/
def setupBytes (c : Fin 8) (s : ChannelSetup) : List Byte :=
  (if isProbe c then u8 (curveCode s.curve) ++ i16 s.offset else []) ++ (if c = 7 then yesNo s.enabled else [])

/-- R163: a mailbox with its setup. -/
def sampleReply (c : Fin 8) (d : Device) : Reply :=
  let m := d.scanner.boxes[c]
  reply .ok ((if isProbe c then probeBytes m.sample else unsignedBytes m.sample) ++ yesNo m.fresh ++
    yesNo m.overwritten ++ setupBytes c d.scanner.setups[c])

/-- R163: READ SAMPLE on the device's records. -/
def readSample (channel : Nat) (d : Device) : Device × Reply :=
  match index 8 channel with
  | none => refuse .range d
  | some c => (d.updateScanner fun s => { s with boxes := put s.boxes c s.boxes[c].seen }, sampleReply c d)

/-- R163: READ SAMPLE. -/
def execReadSample (channel : Nat) (s : State) : Result := .next (s.request (readSample channel))

/-- R164: SCAN NOW on the device's records. -/
def scanNow (d : Device) : Device × Reply :=
  if d.scanner.pass.isSome then refuse .busy d
  else
    (d.updateScanner fun s => Scanner.askPass d.now { s with boxes := mapAll Mailbox.seen s.boxes }, reply .accepted [])

/-- R164: SCAN NOW. -/
def execScanNow (s : State) : Result := .next (s.request scanNow)

/-- R165: the setup after a taken request. -/
def ChannelAmend.applied (a : ChannelAmend) (s : ChannelSetup) : ChannelSetup :=
  { curve := decoded curveOf a.curve s.curve, offset := a.offset.getD s.offset,
    enabled := decoded yesNoOf a.enabled s.enabled }

/-- R165 check 1. -/
def ChannelAmend.inRange (a : ChannelAmend) : Bool :=
  coded curveOf a.curve && withinT (-50) 50 a.offset && coded yesNoOf a.enabled

/-- R165 check 2: a named setting that the channel does not carry. -/
def ChannelAmend.foreign (a : ChannelAmend) (c : Fin 8) : Bool :=
  ((a.curve.isSome || a.offset.isSome) && !isProbe c) || (a.enabled.isSome && c ≠ 7)

/-- R165: disabling channel 7 empties its mailbox, and a pass that waits for it ends (log 18). -/
def Scanner.dropAmbient (now : Nat) (s : Scanner) : Scanner :=
  let s := { s with boxes := put s.boxes 7 { sample := none, fresh := false, overwritten := false } }
  if s.pass = some 7 && !s.converting.any (fun k => k.channel = 7) then (s.endPass).startNext now else s

/-- R165: AMEND CHANNEL on the device's records; channel 7 disabled again keeps its mailbox (log 18). -/
def amendChannel (channel : Nat) (a : ChannelAmend) (d : Device) : Device × Reply :=
  match index 8 channel with
  | none => refuse .range d
  | some c =>
    let old := d.scanner.setups[c]
    let new := ChannelAmend.applied a old
    if !ChannelAmend.inRange a then refuse .range d
    else if ChannelAmend.foreign a c then refuse .notAllowed d
    else
      let d := d.updateScanner fun s => { s with setups := put s.setups c new }
      okay (if c = 7 && old.enabled && !new.enabled then d.updateScanner (Scanner.dropAmbient d.now) else d)

/-- R165: AMEND CHANNEL. -/
def execAmendChannel (channel : Nat) (a : ChannelAmend) (s : State) : Result := .next (s.request (amendChannel channel a))

/-- R165: AMEND SCAN on the device's records. -/
def amendScan (period : Nat) (d : Device) : Device × Reply :=
  if 100 ≤ period && period ≤ 5000 then okay (d.updateScanner fun s => { s with period := period })
  else refuse .range d

/-- R165: AMEND SCAN. -/
def execAmendScan (period : Nat) (s : State) : Result := .next (s.request (amendScan period))

end Sys2Proof.Machine
end

