-- ==== Sys2Proof/Machine/Reset.lean ====
section
/-! DEFINITION. Resets and start-up: what every block takes at power-on (R20, R45, R89, R107, R124, R142, R155, R166,
R169, R178, R187) and at a warm reset (R21, R45, R72, R89, R108, R125, R143, R155, R166, R169, R178, R190, R191). -/
namespace Sys2Proof.Machine

/-! ### Common to both resets -/

/-- R20, R21: the fit checks of the lanes in CHECKING, in ascending order. -/
def LaneTable.fitChecks (t : LaneTable) : List Job :=
  (allLanes.filter fun n => t.slots[n].any (·.base = .checking)).map Job.fitCheck

/-- R20, R21: the fit checks are listed. -/
def Device.queueFitChecks (d : Device) : Device := { d with drive := { d.drive with jobs := d.table.fitChecks } }

/-- R166: the period timer and a pass start. -/
def Device.startScanning (d : Device) : Device :=
  d.updateScanner fun s => Scanner.askPass d.now { s with periodTimer := some (d.now + s.period) }

/-- A debounce count that is not running, of a level not yet taken, starts (R155, R169). -/
def firstCount (now : Nat) (level : Option Level) (timer : Timer) : Timer :=
  if level.isNone && timer.isNone then some (now + Config.inputDebounceMs) else timer

/-! ### Power-on -/

/-- R187, R190: the supply comes up: every record at its power-on value; the clock and the line levels go on (log 6). -/
def Device.powerOn (d : Device) : Device :=
  { Device.default with
    now := d.now
    drive := { Device.default.drive with camLine := d.drive.camLine }
    compressor := { Device.default.compressor with confirmLine := d.compressor.confirmLine }
    inputs := mapAll (fun r => { Input.default with line := r.line }) d.inputs }

/-- R20: a loaded lane's base state and reserved count. -/
def Lane.atPowerOn (l : Lane) : Lane :=
  { l with reserved := 0,
           base := match l.base with
                   | .inService | .noMotor | .checking => .checking
                   | .jammed => .jammed
                   | .offline => .offline }

/-- R142 step 3: a zone's records at power-on. -/
def Zone.atPowerOn (now : Nat) (z : Zone) : Zone :=
  { z with state := if z.set.enabled then .satisfied else .off, warm := false, sinceDefrost := 0, defrostDue := false,
           air := none, evaporator := none, lastAlarm := none, defrost := none, dripTimer := none,
           sinceTimer := if z.set.enabled then some (now + Config.minuteMs) else none,
           minuteTimer := some (now + Config.minuteMs) }

/-- R142: a zone at power-on: charge and spoil check when the image was loaded, then its records. -/
def Device.zonePowerOn (loaded : Bool) (d : Device) (z : Fin 2) : Device :=
  let d :=
    if loaded then
      (d.updateZone z fun r => { r with exposure := satAdd 65535 r.exposure d.powerLossCharge }).spoilCheck z
    else d
  d.updateZone z (Zone.atPowerOn d.now)

/-- R155: the compressor's rest begins and its confirm input is first taken. -/
def Compressor.atPowerOn (now : Nat) (c : Compressor) : Compressor :=
  Compressor.rest now { c with confirmTimer := firstCount now c.confirmLevel c.confirmTimer }

/-- R169: an input's first count. -/
def Input.atPowerOn (now : Nat) (r : Input) : Input := { r with timer := firstCount now r.debounced r.timer }

/-- The blocks' own power-on rules, once the image has been decided. -/
def Device.powerOnRules (loaded : Bool) (d : Device) : Device :=
  let d := { d with table := { d.table with slots := mapAll (Option.map Lane.atPowerOn) d.table.slots } }
  let d := [(0 : Fin 2), 1].foldl (Device.zonePowerOn loaded) d
  let d := d.updateCompressor (Compressor.atPowerOn d.now)
  let d := { d with inputs := mapAll (Input.atPowerOn d.now) d.inputs }
  ((Device.takeFrom d.queue d.queueFitChecks).startScanning).send .identify

/-- R187: the end of power-on start-up: every block takes its power-on values, then the saved fields, then its own
rule; conditions raised during start-up stay latched (R191). -/
def State.endPowerOn (acknowledges : Bool) (s : State) : State :=
  let st := imageFinding acknowledges s.mem
  let d := { s.dev.powerOn with conditions := s.dev.conditions }
  let d := (d.loadImage st s.mem).powerOnRules (st = .loaded)
  let d := d.raise .poweredOn
  { s with dev := if st = .loaded then d else d.raise .imageFault,
           port := { s.port with phase := .running, imageStatus := st } }

/-- R187: POWER ON: the retained store and every record are cleared; the image memory stands. -/
def State.powerOn (s : State) : State := { s with dev := s.dev.powerOn, port := Port.powerOn s.dev.now }

/-- R181: POWER ON. -/
def execPowerOn (s : State) : Result := .next s.powerOn

/-! ### Warm reset -/

/-- R45: an energized lane whose cam is confirmed open is marked off-home; the matrix goes off and the drive's
records are cleared. -/
def Device.warmDrive (d : Device) : Device :=
  let d :=
    match d.drive.energized with
    | none => d.switchOff
    | some n => d.stopMotors n
  { d with drive := { d.drive with jobs := [], active := none, strayCount := 0 } }

/-- R21: reserved 0 everywhere, the changed-lanes set empty. -/
def LaneTable.warm (t : LaneTable) : LaneTable :=
  { t with slots := mapAll (Option.map fun l => { l with reserved := 0 }) t.slots, changed := Vector.replicate 64 false }

/-- R108: the link records; the marker is read when start-up ends. -/
def CoinAcceptance.warm (c : CoinAcceptance) : CoinAcceptance :=
  { c with link := .absent, missCount := 0, exchange := none, slotTimer := none, identifyTimer := none,
           identity := none, lastFault := none, mask := 0, acknowledged := none, maskDue := false, inFlight := none }

/-- R125. -/
def Payout.warm (p : Payout) : Payout :=
  { p with tubes := mapAll (fun t => { t with planned := 0 }) p.tubes, plan := none, strayCount := 0,
           solenoid := none, onTimer := none, gapTimer := none, coin := none }

/-- R143, R130: a zone at a warm reset; its since-defrost timer starts afresh. -/
def Zone.warmReset (now : Nat) (z : Zone) : Zone :=
  { z with state := if z.set.enabled then .satisfied else .off, defrostDue := z.defrostDue || z.state = .defrost,
           air := none, evaporator := none, defrost := none, dripTimer := none,
           sinceTimer := if z.set.enabled then some (now + Config.minuteMs) else none,
           minuteTimer := some (now + Config.minuteMs) }

/-- R155, R152: the compressor at a warm reset. -/
def Compressor.warm (now : Nat) (c : Compressor) : Compressor :=
  Compressor.rest now
    { c with state := if c.state = .lockedOut then .lockedOut else .resting, startTimer := none, runTimer := none,
             fanTimer := if c.relay then some (now + Config.fanRunOnMs) else c.fanTimer, demand := false,
             condenser := none, confirmLevel := none, confirmTimer := some (now + Config.inputDebounceMs),
             startCopy := none }

/-- R166: the scanner at a reset. -/
def Scanner.warm (s : Scanner) : Scanner :=
  { s with boxes := Vector.replicate 8 { sample := none, fresh := false, overwritten := false }, periodTimer := none,
           converting := none, pass := none, passPending := false, priorityTimer := none, priorityWaiting := 0 }

/-- R169: an input at a warm reset: a count under way is restarted, and so is the first count of an input whose
level has not been taken. -/
def Input.warm (now : Nat) (r : Input) : Input :=
  { r with timer := firstCount now r.debounced (r.timer.map fun _ => now + Config.inputDebounceMs) }

/-- R190, R191: every block takes its warm reset values and RESTARTED is latched; the fit checks of lanes in
CHECKING are listed again (R21). -/
def Device.warmReset (d : Device) : Device :=
  let d := d.warmDrive
  Device.queueFitChecks
    { d with
      conditions := { latched := Condition.only .restarted, mask := 0 }
      table := d.table.warm
      queue := { orders := [], state := .running, unitPos := .none }
      credit := { d.credit with committed := 0, pending := .no }
      coins := d.coins.warm
      payout := d.payout.warm
      zones := mapAll (Zone.warmReset d.now) d.zones
      compressor := d.compressor.warm d.now
      scanner := d.scanner.warm
      inputs := mapAll (Input.warm d.now) d.inputs
      load := { d.load with band := .normal, supply := none, grants := [], waiters := [] } }

/-- R189, R191: the port's records at a warm reset entered with a cause. -/
def Port.warm (now : Nat) (cause : ResetCause) (phase : StartPhase) (p : Port) : Port :=
  { p with phase := phase, restartTimer := none, reply := none, save := none, resetCause := cause, seconds := 0,
           secondTimer := some (now + Config.secondMs) }

/-- R45, R130, R190: warm start-up begins: the drive takes the first listed fit check and a zone whose defrost is
due enters DEFROST (log 12, 14). -/
def Device.beginWarm (d : Device) : Device :=
  [(0 : Fin 2), 1].foldl (fun d z => d.checkDue z) (Device.takeFrom d.queue d)

/-- R190: RESTART enters the warm reset, and its start-up begins in the same event. -/
def State.enterRestart (s : State) : State :=
  { s with dev := s.dev.warmReset.beginWarm, port := s.port.warm s.dev.now .restart .warmStartup }

/-- R190: RESET low for 1 ms: the warm reset is entered and held; a pin already low is no new entry. One that cuts a
power-on start-up short leaves R187's load of the image undone: the defaults and DEFAULTS_ABSENT stand, and neither
POWERED_ON nor IMAGE_FAULT is raised (DESIGN CHOICE, log 13). -/
def State.resetPin (s : State) : State :=
  if s.port.held then s
  else { s with dev := s.dev.warmReset, port := s.port.warm s.dev.now .resetPin .heldInReset }

/-- R190: RESET PIN. -/
def execResetPin (s : State) : Result := .next s.resetPin

/-- R190: the pin goes high and warm start-up begins. The warm values are taken again, which starts their timers
at this moment (log 13). -/
def State.resetRelease (s : State) : State :=
  if s.port.held then
    { s with dev := s.dev.warmReset.beginWarm, port := s.port.warm s.dev.now .resetPin .warmStartup }
  else s

/-- R190: RESET RELEASE. -/
def execResetRelease (s : State) : Result := .next s.resetRelease

/-- R190: 100 ms after a RESTART. -/
def State.restartTimeout (s : State) : State :=
  match s.port.restartTimer with
  | none => s
  | some due => State.enterRestart { s with dev := s.dev.reach due }

/-- R190: RESTART TIMEOUT. -/
def execRestartTimeout (s : State) : Result := .next s.restartTimeout

/-- R103, R108: a coin-in-flight marker found after a warm reset: its handshake ends uncertain with cause RESET, and
the credit block is told (R75, R76). -/
def Device.findCoinMarker (d : Device) : Device :=
  match d.coins.marker with
  | none => d
  | some m =>
    let u : UncertainCoin :=
      { coinClass := m.coinClass, value := m.value, route := m.route, routeState := none, cause := .reset }
    ((d.updateCoins fun c => { c with uncertain := some u }).endHandshake).raise .coinUncertain

/-- R108, R189: the end of a warm start-up. -/
def State.endWarm (s : State) : State :=
  let d := ((s.dev.findCoinMarker).startScanning).send .identify
  let p := { s.port with phase := .running }
  if s.port.saveMarker then
    { s with dev := d.raise .saveEnded, port := { p with saveMarker := false, lastSave := some .abandoned } }
  else { s with dev := d, port := p }

/-- R181: start-up ends. -/
def State.startupEnd (acknowledges : Bool) (s : State) : State :=
  match s.port.phase with
  | .powerOnStartup => s.endPowerOn acknowledges
  | .warmStartup => s.endWarm
  | .heldInReset | .running => s

/-- R181: STARTUP END. -/
def execStartupEnd (acknowledges : Bool) (s : State) : Result := .next (s.startupEnd acknowledges)

end Sys2Proof.Machine
end

