-- ==== Sys2Proof/Machine/Port.lean ====
section
/-! DEFINITION. The record port (R179 to R185, R188, R190): conditions and ATTN, fetching, refused chip-selects,
saving the image, RESTART, identity and the seconds count. -/
namespace Sys2Proof.Machine

/-- Changes the port. -/
def State.updatePort (f : Port → Port) (s : State) : State := { s with port := f s.port }

/-! ### Conditions (R183, R184) -/

/-- 11.6: the level of ATTN: active low, HIGH 0 and LOW 1 (log 9). -/
def attnBytes (c : Conditions) : List Byte := u8 (levelCode (if c.attn then .low else .high))

/-- R184: READ CONDITIONS's reply. -/
def conditionsReply (s : State) : Reply :=
  let c := s.dev.conditions
  reply .ok (u16 c.latched.toNat ++ u16 c.mask.toNat ++ attnBytes c ++ u8 s.port.save.isSome.toNat ++
    optCode saveResultCode s.port.lastSave ++ u8 (imageStatusCode s.port.imageStatus))

/-- R184: READ CONDITIONS. -/
def execReadConditions (s : State) : Result := .next (s.takeRequest fun s => (s, conditionsReply s))

/-- R184: CLEAR CONDITIONS on the device's records. -/
def clearConditions (named : Word16) (d : Device) : Device × Reply :=
  ({ d with conditions := d.conditions.clear named }, reply .ok (u16 d.conditions.latched.toNat))

/-- R184: CLEAR CONDITIONS. -/
def execClearConditions (named : Word16) (s : State) : Result := .next (s.request (clearConditions named))

/-- R183: AMEND MASK on the device's records. -/
def amendMask (mask : Word16) (d : Device) : Device × Reply :=
  okay { d with conditions := { d.conditions with mask := mask } }

/-- R183: AMEND MASK. -/
def execAmendMask (mask : Word16) (s : State) : Result := .next (s.request (amendMask mask))

/-! ### Chip-selects that are no request (R179 to R181) -/

/-- R179: BAD FRAME: nothing is carried out. -/
def execBadFrame (_bytes : List Byte) (s : State) : Result := .next (s.request (refuse .badFrame))

/-- R179: UNKNOWN REQUEST: nothing is carried out. -/
def execUnknownRequest (_bytes : List Byte) (s : State) : Result := .next (s.request (refuse .unknownRequest))

/-- R181: REQUEST DISCARDED: unjudged, the device sends 0xFF. -/
def execRequestDiscarded (_bytes : List Byte) (s : State) : Result :=
  .next (s.updatePort fun p => { p with miso := .allOnes })

/-- R180: the frame that answers a fetch: NOT_READY, or READY, status, length, body and CRC-8. -/
def fetchFrame : Option Reply → List Byte
  | none => [Config.notReadyByte]
  | some r =>
    let bytes := u8 (statusCode r.status) ++ u8 r.body.length ++ r.body
    Config.readyByte :: bytes ++ [crc8 bytes]

/-- R180: the bytes sent for n bytes clocked after 0x00. -/
def fetchBytes (r : Option Reply) (n : Nat) : List Byte :=
  (fetchFrame r ++ List.replicate n Config.fillByte).take n

/-- R180: the whole reply frame has been clocked out. -/
def fetchedWhole (r : Option Reply) (n : Nat) : Bool := r.isSome && (fetchFrame r).length ≤ n

/-- R180, R190: a fetch; a reply read empties the buffer, and the RESTART reply read enters the warm reset. -/
def State.fetch (n : Nat) (s : State) : State :=
  let sent := s.updatePort fun p => { p with miso := .answered (fetchBytes p.reply n) }
  if fetchedWhole s.port.reply n then
    if s.port.restartTimer.isSome then sent.enterRestart
    else sent.updatePort fun p => { p with reply := none }
  else sent

/-- R180: FETCH REPLY. -/
def execFetchReply (n : Nat) (s : State) : Result := .next (s.fetch n)

/-! ### RESTART and identity (R185, R190) -/

/-- R190: RESTART: the reply is placed and the 100 ms run. -/
def takeRestart (s : State) : State × Reply :=
  (s.updatePort fun p => { p with restartTimer := some (s.dev.now + Config.restartMs) }, ⟨.ok, []⟩)

/-- R190: RESTART. -/
def execRestart (s : State) : Result := .next (s.takeRequest takeRestart)

/-- R185: READ IDENTITY's reply. -/
def identityReply (s : State) : Reply :=
  reply .ok (u16 Config.vendorCode ++ u16 Config.partCode ++ u8 Config.siliconRevision ++ u8 Config.imageFormat ++
    u8 (imageStatusCode s.port.imageStatus) ++ u8 (resetCauseCode s.port.resetCause) ++ u32 s.port.seconds)

/-- R185: READ IDENTITY. -/
def execReadIdentity (s : State) : Result := .next (s.takeRequest fun s => (s, identityReply s))

/-- R185: a second has passed; none is counted while the RESET pin holds the device in reset (log 13). -/
def State.secondTick (s : State) : State :=
  match (if s.port.held then none else s.port.secondTimer) with
  | none => s
  | some due =>
    { s with dev := s.dev.reach due,
             port := { s.port with seconds := satAdd 4294967295 s.port.seconds 1,
                                   secondTimer := some (due + Config.secondMs) } }

/-- R185: SECOND TICK. -/
def execSecondTick (s : State) : Result := .next s.secondTick

/-! ### Saving the image (R188) -/

/-- R188: SAVE IMAGE: refused while a save writes, else the snapshot is taken and writing begins. -/
def takeSave (s : State) : State × Reply :=
  if s.port.save.isSome then (s, ⟨.busy, []⟩)
  else
    (s.updatePort fun p =>
      { p with save := some { image := imageOf s.dev, page := 0, attempt := .first, retryTimer := none },
               saveMarker := true }, ⟨.accepted, []⟩)

/-- R188: SAVE IMAGE. -/
def execSaveImage (s : State) : Result := .next (s.takeRequest takeSave)

/-- R188: the save ends with a result. -/
def State.endSave (r : SaveResult) (s : State) : State :=
  { s with dev := s.dev.raise .saveEnded,
           port := { s.port with save := none, saveMarker := false, lastSave := some r } }

/-- R188: a page the memory acknowledged: its bytes are in the memory; the next page, or the end. -/
def State.pageDone (j : SaveJob) (s : State) : State :=
  let s := { s with mem := s.mem.writeAll (j.page * Config.pageBytes) (pageOf j.image j.page) }
  if j.page + 1 < imagePages then
    s.updatePort fun p => { p with save := some { j with page := j.page + 1, attempt := .first } }
  else s.endSave .ok

/-- R188: a page the memory did not acknowledge: once more after 10 ms, then the end. -/
def State.pageFailed (j : SaveJob) (s : State) : State :=
  match j.attempt with
  | .first =>
    s.updatePort fun p =>
      { p with save := some { j with attempt := .retry, retryTimer := some (s.dev.now + Config.saveRetryMs) } }
  | .retry => s.endSave .failed

/-- R188: the completion of a page write; none is under way while the retry timer runs. -/
def State.pageWritten (acknowledged : Bool) (s : State) : State :=
  match s.port.save with
  | none => s
  | some j =>
    if j.retryTimer.isSome then s
    else if acknowledged then s.pageDone j
    else s.pageFailed j

/-- R188: SAVE PAGE WRITTEN. -/
def execSavePageWritten (acknowledged : Bool) (s : State) : Result := .next (s.pageWritten acknowledged)

/-- R188: the 10 ms are over and the page is written again. -/
def State.saveRetry (s : State) : State :=
  match s.port.save with
  | none => s
  | some j =>
    match j.retryTimer with
    | none => s
    | some due =>
      { s with dev := s.dev.reach due, port := { s.port with save := some { j with retryTimer := none } } }

/-- R188: SAVE RETRY TIMER. -/
def execSaveRetryTimer (s : State) : Result := .next s.saveRetry

end Sys2Proof.Machine
end

