-- ==== Sys2Proof/Machine/Dispatch.lean ====
section
/-! DEFINITION. The command's effect: one arm per constructor of Instr, each one direct call of its meaning. -/
namespace Sys2Proof.Machine

/-- The effect of a command on everything but the queue. -/
def exec (i : Instr) (s : State) : Host.Outcome State Fault Refusal :=
  match i with
  | .readLane form lane => Sys2Proof.Machine.execReadLane form lane s
  | .findProduct code => Sys2Proof.Machine.execFindProduct code s
  | .enrolLane lane given => Sys2Proof.Machine.execEnrolLane lane given s
  | .amendLane lane named => Sys2Proof.Machine.execAmendLane lane named s
  | .restockLane lane stock => Sys2Proof.Machine.execRestockLane lane stock s
  | .checkLane lane => Sys2Proof.Machine.execCheckLane lane s
  | .retireLane lane => Sys2Proof.Machine.execRetireLane lane s
  | .readDrive => Sys2Proof.Machine.execReadDrive s
  | .amendDrive named => Sys2Proof.Machine.execAmendDrive named s
  | .placeOrder given => Sys2Proof.Machine.execPlaceOrder given s
  | .readOrder tag => Sys2Proof.Machine.execReadOrder tag s
  | .readQueue => Sys2Proof.Machine.execReadQueue s
  | .retireOrder tag => Sys2Proof.Machine.execRetireOrder tag s
  | .holdQueue => Sys2Proof.Machine.execHoldQueue s
  | .resumeQueue => Sys2Proof.Machine.execResumeQueue s
  | .haltDrive => Sys2Proof.Machine.execHaltDrive s
  | .resumeDrive => Sys2Proof.Machine.execResumeDrive s
  | .skipOrder tag => Sys2Proof.Machine.execSkipOrder tag s
  | .clearQueue => Sys2Proof.Machine.execClearQueue s
  | .readCredit => Sys2Proof.Machine.execReadCredit s
  | .amendCreditLimit maxCredit => Sys2Proof.Machine.execAmendCreditLimit maxCredit s
  | .refund => Sys2Proof.Machine.execRefund s
  | .readClass => Sys2Proof.Machine.execReadClass s
  | .amendClass coinClass named => Sys2Proof.Machine.execAmendClass coinClass named s
  | .readCashbox => Sys2Proof.Machine.execReadCashbox s
  | .clearCashbox => Sys2Proof.Machine.execClearCashbox s
  | .readTube => Sys2Proof.Machine.execReadTube s
  | .amendTube tube named => Sys2Proof.Machine.execAmendTube tube named s
  | .setTubeCount tube count => Sys2Proof.Machine.execSetTubeCount tube count s
  | .dispense tube coins => Sys2Proof.Machine.execDispense tube coins s
  | .readPayout => Sys2Proof.Machine.execReadPayout s
  | .amendPayout named => Sys2Proof.Machine.execAmendPayout named s
  | .readLink => Sys2Proof.Machine.execReadLink s
  | .amendLink named => Sys2Proof.Machine.execAmendLink named s
  | .readZone zone => Sys2Proof.Machine.execReadZone zone s
  | .amendZone zone named => Sys2Proof.Machine.execAmendZone zone named s
  | .startDefrost zone => Sys2Proof.Machine.execStartDefrost zone s
  | .readCompressor => Sys2Proof.Machine.execReadCompressor s
  | .amendCompressor named => Sys2Proof.Machine.execAmendCompressor named s
  | .clearLockout => Sys2Proof.Machine.execClearLockout s
  | .readSample channel => Sys2Proof.Machine.execReadSample channel s
  | .scanNow => Sys2Proof.Machine.execScanNow s
  | .amendChannel channel named => Sys2Proof.Machine.execAmendChannel channel named s
  | .amendScan period => Sys2Proof.Machine.execAmendScan period s
  | .readInputs => Sys2Proof.Machine.execReadInputs s
  | .amendInput input level => Sys2Proof.Machine.execAmendInput input level s
  | .readLoad => Sys2Proof.Machine.execReadLoad s
  | .amendLoad named => Sys2Proof.Machine.execAmendLoad named s
  | .readConditions => Sys2Proof.Machine.execReadConditions s
  | .clearConditions named => Sys2Proof.Machine.execClearConditions named s
  | .amendMask mask => Sys2Proof.Machine.execAmendMask mask s
  | .saveImage => Sys2Proof.Machine.execSaveImage s
  | .restart => Sys2Proof.Machine.execRestart s
  | .readIdentity => Sys2Proof.Machine.execReadIdentity s
  | .badFrame bytes => Sys2Proof.Machine.execBadFrame bytes s
  | .unknownRequest bytes => Sys2Proof.Machine.execUnknownRequest bytes s
  | .fetchReply clocked => Sys2Proof.Machine.execFetchReply clocked s
  | .requestDiscarded bytes => Sys2Proof.Machine.execRequestDiscarded bytes s
  | .powerOn => Sys2Proof.Machine.execPowerOn s
  | .resetPin => Sys2Proof.Machine.execResetPin s
  | .resetRelease => Sys2Proof.Machine.execResetRelease s
  | .restartTimeout => Sys2Proof.Machine.execRestartTimeout s
  | .startupEnd memoryAnswers => Sys2Proof.Machine.execStartupEnd memoryAnswers s
  | .secondTick => Sys2Proof.Machine.execSecondTick s
  | .savePageWritten acknowledged => Sys2Proof.Machine.execSavePageWritten acknowledged s
  | .saveRetryTimer => Sys2Proof.Machine.execSaveRetryTimer s
  | .camLineEdge level => Sys2Proof.Machine.execCamLineEdge level s
  | .camConfirm => Sys2Proof.Machine.execCamConfirm s
  | .departureTimeout => Sys2Proof.Machine.execDepartureTimeout s
  | .turnTimerExpiry => Sys2Proof.Machine.execTurnTimerExpiry s
  | .beamBreak => Sys2Proof.Machine.execBeamBreak s
  | .dropWindowExpiry => Sys2Proof.Machine.execDropWindowExpiry s
  | .fitPulseEnd => Sys2Proof.Machine.execFitPulseEnd s
  | .linkSlot => Sys2Proof.Machine.execLinkSlot s
  | .identifyTimer => Sys2Proof.Machine.execIdentifyTimer s
  | .linkFrame bytes framingError => Sys2Proof.Machine.execLinkFrame bytes framingError s
  | .linkReplyTimeout => Sys2Proof.Machine.execLinkReplyTimeout s
  | .coinTimeout => Sys2Proof.Machine.execCoinTimeout s
  | .pulseOnEnd => Sys2Proof.Machine.execPulseOnEnd s
  | .pulseGapEnd => Sys2Proof.Machine.execPulseGapEnd s
  | .chuteWindowClose => Sys2Proof.Machine.execChuteWindowClose s
  | .chuteCount => Sys2Proof.Machine.execChuteCount s
  | .sinceDefrostTimer zone => Sys2Proof.Machine.execSinceDefrostTimer zone s
  | .defrostTimer zone => Sys2Proof.Machine.execDefrostTimer zone s
  | .dripTimer zone => Sys2Proof.Machine.execDripTimer zone s
  | .zoneMinuteTimer zone => Sys2Proof.Machine.execZoneMinuteTimer zone s
  | .restTimer => Sys2Proof.Machine.execRestTimer s
  | .startTimer => Sys2Proof.Machine.execStartTimer s
  | .confirmLineEdge level => Sys2Proof.Machine.execConfirmLineEdge level s
  | .confirmChange => Sys2Proof.Machine.execConfirmChange s
  | .runTimer => Sys2Proof.Machine.execRunTimer s
  | .fanRunonTimer => Sys2Proof.Machine.execFanRunonTimer s
  | .periodTimer => Sys2Proof.Machine.execPeriodTimer s
  | .priorityTimer => Sys2Proof.Machine.execPriorityTimer s
  | .conversionEnd reading => Sys2Proof.Machine.execConversionEnd reading s
  | .inputLineEdge input level => Sys2Proof.Machine.execInputLineEdge input level s
  | .inputChange input => Sys2Proof.Machine.execInputChange input s
  | .linkFirstByte => Sys2Proof.Machine.execLinkFirstByte s

end Sys2Proof.Machine
end

