-- ==== Sys2Proof/Safety.lean ====
section
/-! DEFINITION. What the device keeps: predicates on its records that the manual states of every moment, and the
words the statements are written in: when the port takes requests, a reply, and the frame of a change. -/
namespace Sys2Proof.Machine

/-! ### Words for the statements -/

/-- R181, R190: the port takes requests. -/
def State.taking (s : State) : Prop := s.port.phase = .running ∧ s.port.restartTimer = none

/-- R190: the device is not held in reset by the RESET pin: its blocks act on events. -/
def State.awake (s : State) : Prop := s.port.phase ≠ .heldInReset

/-- R179, R180: the state with a reply placed in the buffer, 0xFF having been sent meanwhile; no other change. -/
def State.replied (st : Status) (body : List Byte) (s : State) : State :=
  { s with port := { s.port with reply := some ⟨st, body⟩, miso := .allOnes } }

/-- The state with the device's records replaced. -/
def State.withDev (s : State) (d : Device) : State := { s with dev := d }

/-- A command that arrives as a request chip-select of R179. -/
def isRequest (i : Instr) : Prop :=
  (requestCode i).isSome = true ∨ (∃ b, i = .badFrame b) ∨ (∃ b, i = .unknownRequest b)

/-- The parts of the device's records, for frames. -/
inductive Part where
  | clock | conditions | table | drive | queue | credit | coins | payout | zones | charge | compressor | scanner
  | inputs | load
  deriving DecidableEq, Repr

/-- Two records of the device agree on a part. -/
def Device.agrees (d e : Device) : Part → Prop
  | .clock => e.now = d.now
  | .conditions => e.conditions = d.conditions
  | .table => e.table = d.table
  | .drive => e.drive = d.drive
  | .queue => e.queue = d.queue
  | .credit => e.credit = d.credit
  | .coins => e.coins = d.coins
  | .payout => e.payout = d.payout
  | .zones => e.zones = d.zones
  | .charge => e.powerLossCharge = d.powerLossCharge
  | .compressor => e.compressor = d.compressor
  | .scanner => e.scanner = d.scanner
  | .inputs => e.inputs = d.inputs
  | .load => e.load = d.load

/-- Nothing changes but the parts named. -/
def Device.changesOnly (ps : List Part) (d e : Device) : Prop := ∀ p, p ∉ ps → d.agrees e p

/-- The parts a grant of load may change (R174: the claimant acts on it in the same event). -/
def grantParts : List Part := [.drive, .payout, .zones, .compressor, .scanner, .load]

/-- The parts the endings of orders and jobs, and what follows them, may change (R49, R55, R61 to R63, R85). -/
def saleParts : List Part := .conditions :: .table :: .queue :: .credit :: .coins :: grantParts

/-- The parts a payback may change (R85, R115). -/
def moneyParts : List Part := .conditions :: .credit :: .coins :: grantParts

/-- Nothing changes but the device's parts named. -/
def State.frame (ps : List Part) (s t : State) : Prop :=
  t.port = s.port ∧ t.mem = s.mem ∧ s.dev.changesOnly ps t.dev

/-- A value named by a request lies within a range; a value not named does. -/
def named (lo hi : Nat) (n : Option Nat) : Prop := ∀ v, n = some v → lo ≤ v ∧ v ≤ hi

/-- As named, for temperatures. -/
def namedT (lo hi : Int) (t : Option Int) : Prop := ∀ v, t = some v → lo ≤ v ∧ v ≤ hi

/-- R9, R14, R23, R24: a fit check of lane n joins: behind an active job at the list's tail, and otherwise it is the
active job at once, with its claim of 1 unit waiting or granted. -/
def Device.fitCheckJoins (d : Device) (n : Fin 64) (e : Device) : Prop :=
  (∀ j, d.drive.active = some j →
    e.drive = { d.drive with jobs := d.drive.jobs ++ [.fitCheck n] } ∧ e.load = d.load) ∧
  (d.drive.active = none →
    e.drive.jobs = [] ∧
    (∃ j, e.drive.active = some j ∧ j.job = .fitCheck n ∧ (j.phase = .waitLoad ∨ j.phase = .pulse)) ∧
    { who := .drive, units := 1, job := some (.fitCheck n) } ∈ e.load.grants ++ e.load.waiters)

/-- R51: the lane a placement names, or the first lane of its product code in the vend preference order that is
sellable for the whole quantity; the lane is sellable for it. -/
def picksLane (p : Placement) (d : Device) (n : Fin 64) (l : Lane) : Prop :=
  (p.choice = 0 ∧ p.target = n.val ∧ d.lane? n = some l ∧ l.base = .inService ∧ l.spoiled = false ∧ l.held = false ∧
    p.quantity + l.reserved ≤ l.stock) ∨
  (p.choice = 1 ∧ p.target ≠ 0 ∧ p.target ≤ 65535 ∧
    (d.vendOrder p.target).find? (fun x => x.2.sellable p.quantity 0) = some (n, l))

/-- R52: a CREDIT placement of a cost passes the three credit checks. -/
def Device.affords (d : Device) (cost : Nat) (inexactOk : Bool) : Prop :=
  d.moneyMoving = false ∧ d.credit.committed + cost ≤ d.credit.balance ∧
    (inexactOk = true ∨
      d.planTotal false (d.credit.balance - d.credit.committed - cost) =
        d.credit.balance - d.credit.committed - cost)

/-- R53: the record a placement fills. -/
def orderOf (p : Placement) (pay : Payment) (n : Fin 64) (l : Lane) : Order :=
  { tag := p.tag, lane := n, product := l.product, quantity := p.quantity, price := l.price, payment := pay,
    final := p.flags.testBit 0, holdAfter := p.flags.testBit 1, inexactOk := p.flags.testBit 2, state := .queued,
    delivered := 0, residue := 0, charged := 0, cause := none }

/-- R50 to R52: every check of a placement passes, on lane n with record l. -/
def passesChecks (p : Placement) (d : Device) (pay : Payment) (n : Fin 64) (l : Lane) : Prop :=
  1 ≤ p.tag ∧ 1 ≤ p.quantity ∧ p.quantity ≤ 4 ∧ paymentOf p.payment = some pay ∧ d.queue.orders.length < 8 ∧
  (∀ o ∈ d.queue.orders, o.tag ≠ p.tag) ∧ picksLane p d n l ∧
  (pay = .credit → d.affords (l.price * p.quantity) (p.flags.testBit 2))

/-- R53: the records with a placed order's reservation and commitment made, and the order at the queue's tail. -/
def Device.placed (o : Order) (l : Lane) (d : Device) : Device :=
  Device.setSlot o.lane (some { l with reserved := l.reserved + o.quantity })
    { d with queue := { d.queue with orders := d.queue.orders ++ [o] }
             credit := { d.credit with committed := d.credit.committed +
                                         if o.payment = .credit then o.price * o.quantity else 0 } }

/-- R53: what the reply to a placement carries. -/
def placedReply (d : Device) (o : Order) : List Byte :=
  num o.lane ++ u16 o.price ++ u32 (o.price * o.quantity) ++ u8 (d.queue.orders.filter (·.state.live)).length

/-- R38, R172: the claim of a unit drive: 2 units, 4 with a companion. -/
def unitClaim (job : Job) (companion : Option (Fin 64)) : Claim :=
  { who := .drive, units := if companion.isSome then 4 else 2, job := some job }

/-! ### What every moment keeps -/

/-- R172: the units granted never exceed the budget, and none is granted while the band is CRITICAL. -/
def LoadBudget.sound (b : LoadBudget) : Prop := b.granted ≤ b.set.budget ∧ (b.band = .critical → b.grants = [])

/-- R47: at most 8 orders, no two with one tag, at most one DRIVING or HALTED. -/
def OrderQueue.sound (q : OrderQueue) : Prop :=
  q.orders.length ≤ 8 ∧ (q.orders.map (·.tag)).Nodup ∧ (q.orders.filter fun o => o.state.current).length ≤ 1

/-- R98: a mask that holds a class stands only with the link PRESENT and the engine idle. -/
def Device.maskSound (d : Device) : Prop :=
  d.coins.mask ≠ 0#8 → d.coins.link = .present ∧ d.payout.idle = true

/-- R74: committed, balance and max credit in order, and room for a coin routed to a tube or the cash box. -/
def Device.creditSound (d : Device) : Prop :=
  d.credit.committed ≤ d.credit.balance ∧ d.credit.balance ≤ d.credit.maxCredit ∧
    ∀ c, d.coins.inFlight = some c → c.route ≠ .reject → d.credit.balance + c.value ≤ d.credit.maxCredit

/-- R126: every exposure accumulator fits its range. -/
def Device.exposureSound (d : Device) : Prop := ∀ z : Fin 2, d.zones[z].exposure ≤ 65535

/-- R162, R163: an empty mailbox has both flags no. -/
def Device.emptyBoxesClear (d : Device) : Prop :=
  ∀ c : Fin 8, d.scanner.boxes[c].sample = none →
    d.scanner.boxes[c].fresh = false ∧ d.scanner.boxes[c].overwritten = false

/-- R22, R26, R40: with no lane energized every driver is off; a lane energized is the active job's, a unit drive
TURNING or a fit check in PULSE, and the drivers on are those of that lane's motor and of the job's companion. -/
def Drive.matrixSound (v : Drive) : Prop :=
  (v.energized = none → v.rows = 0#8 ∧ v.cols = 0#8) ∧
    ∀ n, v.energized = some n → ∃ j, v.active = some j ∧ j.job.lane = n ∧
      ((j.phase = .turning ∧ j.job.tag?.isSome = true) ∨ (j.phase = .pulse ∧ j.job.tag? = none)) ∧
      v.rows = rowsFor n j.companion ∧ v.cols = colsFor n j.companion

/-- R24: while no job is active the drive job list is empty. -/
def Drive.listSound (v : Drive) : Prop := v.active = none → v.jobs = []

/-- R24, R190: the same of the device, but while RESET holds it with the fit checks listed. -/
def State.listSound (s : State) : Prop := s.awake → s.dev.drive.listSound

/-- R8: a companion position is not its lane's own, shares its row or column, and is neither the primary nor the
companion of another enrolled lane. -/
def Device.motorsSound (d : Device) : Prop :=
  ∀ (n : Fin 64) (l : Lane) (c : Fin 64), d.lane? n = some l → l.companion = some c →
    c ≠ n ∧ (c.val / 8 = n.val / 8 ∨ c.val % 8 = n.val % 8) ∧ d.lane? c = none ∧
    ∀ (m : Fin 64) (k : Lane), m ≠ n → d.lane? m = some k → k.companion ≠ some c

/-- R5: the units the live orders on a lane are owed. -/
def OrderQueue.owed (q : OrderQueue) (n : Fin 64) : Nat :=
  ((q.orders.filter fun o => o.state.live && o.lane = n).map fun o => o.quantity - o.delivered).sum

/-- R5: for every enrolled lane, reserved ≤ stock ≤ capacity, and reserved is what the live orders on it are owed; each
of those is owed a unit, and its lane is enrolled. -/
def Device.lanesSound (d : Device) : Prop :=
  (∀ n l, d.lane? n = some l → l.reserved ≤ l.stock ∧ l.stock ≤ l.capacity ∧ l.reserved = d.queue.owed n) ∧
  ∀ o ∈ d.queue.orders, o.state.live = true → o.delivered < o.quantity ∧ (d.lane? o.lane).isSome = true

/-- R31, R56: the unit drives that have not reported: those listed, and the active one but for a unit reported
DELIVERED in its WINDOW. -/
def Drive.units (v : Drive) : List Job :=
  ((v.active.filter fun j => !(j.phase = .window && j.dropCheck = .notRequired)).map (·.job)).toList ++ v.jobs
    |>.filter (·.tag?.isSome)

/-- R56, R65: at most one unit drive is in the drive, of the current order, whose unit position says so and which is
DRIVING but while its unit is HALTED or in WINDOW unreported; R40: a job in PULSE is a fit check. -/
def Device.unitsSound (d : Device) : Prop :=
  d.drive.units.length ≤ 1 ∧ (∀ j, d.drive.active = some j → j.phase = .pulse → j.job.tag? = none) ∧
  ∀ job ∈ d.drive.units, ∃ o, d.queue.current? = some o ∧ job = .unitDrive o.lane o.tag ∧ d.queue.unitPos ≠ .none ∧
    (o.state = .driving ∨ ∃ j, d.drive.active = some j ∧ j.job = job ∧
      (j.phase = .halted ∨ (j.phase = .window ∧ j.dropCheck = .required)))

/-- R109, R114: in every tube planned ≤ count ≤ capacity, no class is bound to two tubes, and while the engine is idle
nothing is planned and no chute window is open. -/
def Payout.tubesSound (p : Payout) : Prop :=
  (∀ t : Fin 6, p.tubes[t].planned ≤ p.tubes[t].count ∧ p.tubes[t].count ≤ p.tubes[t].capacity ∧
    (p.idle = true → p.tubes[t].planned = 0)) ∧
  (∀ (t u : Fin 6) (c : Fin 8), p.tubes[t].boundClass = some c → p.tubes[u].boundClass = some c → t = u) ∧
  (p.idle = true → p.windowOpen = false)

/-- R147: the compressor leaves RESTING and LOCKED_OUT only when its rest has elapsed. -/
def Compressor.restSound (c : Compressor) : Prop :=
  c.state ≠ .resting → c.state ≠ .lockedOut → c.restElapsed = true

/-- R172: the claims of a claimant, waiting or granted. -/
def LoadBudget.claimsOf (who : Claimant) (b : LoadBudget) : Nat :=
  ((b.grants ++ b.waiters).filter (·.who = who)).length

/-- R172: the drive has at most one claim; a waiting one is its active job's in WAIT_LOAD, a granted one that of a
unit drive TURNING or of a fit check in PULSE. -/
def Device.driveClaims (d : Device) : Prop :=
  d.load.claimsOf .drive ≤ 1 ∧
  (∀ c ∈ d.load.waiters, c.who = .drive → ∃ j, d.drive.active = some j ∧ j.phase = .waitLoad) ∧
  (∀ c ∈ d.load.grants, c.who = .drive →
    ∃ j, d.drive.active = some j ∧
      ((j.phase = .turning ∧ j.job.tag?.isSome = true) ∨ (j.phase = .pulse ∧ j.job.tag? = none)))

/-- R172: the payout engine has at most one claim: waiting in WAIT_LOAD, granted in EJECTING. -/
def Device.payoutClaims (d : Device) : Prop :=
  d.load.claimsOf .payout ≤ 1 ∧
  (∀ c ∈ d.load.waiters, c.who = .payout → ∃ p, d.payout.plan = some p ∧ p.state = .waitLoad) ∧
  (∀ c ∈ d.load.grants, c.who = .payout → ∃ p, d.payout.plan = some p ∧ p.state = .ejecting)

/-- R172: the compressor has at most one claim: waiting in WAITING, granted in STARTING. -/
def Device.compressorClaims (d : Device) : Prop :=
  d.load.claimsOf .compressor ≤ 1 ∧
  (∀ c ∈ d.load.waiters, c.who = .compressor → d.compressor.state = .waiting) ∧
  (∀ c ∈ d.load.grants, c.who = .compressor → d.compressor.state = .starting)

/-- R172, R134: each heater has at most one claim, and only in DEFROST; a zone that is not enabled is OFF. -/
def Device.heaterClaims (d : Device) : Prop :=
  ∀ z : Fin 2, d.load.claimsOf (.heater z) ≤ 1 ∧
    (0 < d.load.claimsOf (.heater z) → d.zones[z].state = .defrost) ∧
    (d.zones[z].set.enabled = false → d.zones[z].state = .off)

end Sys2Proof.Machine
end

