-- ==== Sys2Proof/WellFormed.lean ====
section
/-! DEFINITION. Which commands can be sent at all: every operand fits the field of the frame that carries it
(11.6), and the chip-selects that are no request are what their names say (R179).  A well-formed command
may still be refused by its own rule (RANGE and the rest); the meanings do not ask for this predicate. -/
namespace Sys2Proof

/-- Fits a one-byte field. -/
def fitsU8 (n : Nat) : Bool := n < 256
/-- Fits a two-byte field. -/
def fitsU16 (n : Nat) : Bool := n < 65536
/-- Fits a temperature field; 0x8000 is the code of an absent temperature (11.6). -/
def fitsI16 (t : Int) : Bool := -32768 ≤ t && t < 32768
/-- Fits a one-byte field whose 0xFF is absent. -/
def fitsOptU8 (n : Option Nat) : Bool := n.all (· < 255)

/-- Every named field fits. -/
def LaneSettings.fits (g : LaneSettings) : Bool :=
  fitsU16 g.product && fitsU16 g.price && fitsU8 g.capacity && fitsU8 g.stock && fitsU8 g.zone &&
  fitsU8 g.laneClass && fitsOptU8 g.companion && fitsU8 g.turns && fitsU8 g.extraTurns && fitsU8 g.dropCheck

/-- Every named field fits. -/
def LaneAmend.fits (a : LaneAmend) : Bool :=
  a.product.all fitsU16 && a.price.all fitsU16 && a.capacity.all fitsU8 && a.zone.all fitsU8 &&
  a.laneClass.all fitsU8 && a.companion.all fitsOptU8 && a.turns.all fitsU8 && a.extraTurns.all fitsU8 &&
  a.dropCheck.all fitsU8 && a.base.all fitsU8 && a.jams.all fitsU8 && a.sales.all fitsU16

/-- Every named field fits. -/
def DriveAmend.fits (a : DriveAmend) : Bool :=
  a.turnLimit.all fitsU8 && a.dropWindow.all fitsU8 && a.strayCount.all fitsU16

/-- Every field fits. -/
def Placement.fits (p : Placement) : Bool :=
  fitsU8 p.tag && fitsU8 p.choice && fitsU16 p.target && fitsU8 p.quantity && fitsU8 p.payment && fitsU8 p.flags

/-- Every named field fits. -/
def ClassAmend.fits (a : ClassAmend) : Bool := a.value.all fitsU16 && a.enabled.all fitsU8

/-- Every named field fits. -/
def TubeAmend.fits (a : TubeAmend) : Bool :=
  a.boundClass.all fitsOptU8 && a.capacity.all fitsU8 && a.state.all fitsU8

/-- Every named field fits. -/
def PayoutAmend.fits (a : PayoutAmend) : Bool :=
  a.onTime.all fitsU16 && a.gap.all fitsU16 && a.strayCount.all fitsU16

/-- Every named field fits. -/
def LinkAmend.fits (a : LinkAmend) : Bool := a.pollPeriod.all fitsU16 && a.faultCount.all fitsU8

/-- Every named field fits. -/
def ZoneAmend.fits (a : ZoneAmend) : Bool :=
  a.enabled.all fitsU8 && a.setPoint.all fitsI16 && a.differential.all fitsI16 && a.warmLimit.all fitsI16 &&
  a.holdChilled.all fitsU8 && a.allowance.all fitsU16 && a.defrostInterval.all fitsU16 &&
  a.defrostEnd.all fitsI16 && a.defrostMax.all fitsU16 && a.powerLossCharge.all fitsU16

/-- Every named field fits. -/
def CompressorAmend.fits (a : CompressorAmend) : Bool :=
  a.minRest.all fitsU16 && a.minRun.all fitsU16 && a.startWindow.all fitsU16 && a.confirmMode.all fitsU8 &&
  a.confirmPolarity.all fitsU8 && a.hotLimit.all fitsI16

/-- Every named field fits. -/
def ChannelAmend.fits (a : ChannelAmend) : Bool :=
  a.curve.all fitsU8 && a.offset.all fitsI16 && a.enabled.all fitsU8

/-- Every named field fits. -/
def LoadAmend.fits (a : LoadAmend) : Bool :=
  a.budget.all fitsU8 && a.lowThreshold.all fitsU16 && a.criticalThreshold.all fitsU16

/-- The command can be sent: its operands fit their fields, and a chip-select that is no request is one. -/
def Instr.wellFormed : Instr → Bool
  | .readLane form lane => fitsU8 form && fitsU8 lane
  | .findProduct code => fitsU16 code
  | .enrolLane lane g => fitsU8 lane && g.fits
  | .amendLane lane a => fitsU8 lane && a.fits
  | .restockLane lane stock => fitsU8 lane && fitsU8 stock
  | .checkLane lane => fitsU8 lane
  | .retireLane lane => fitsU8 lane
  | .readDrive => true
  | .amendDrive a => a.fits
  | .placeOrder p => p.fits
  | .readOrder tag => fitsU8 tag
  | .readQueue => true
  | .retireOrder tag => fitsU8 tag
  | .holdQueue => true
  | .resumeQueue => true
  | .haltDrive => true
  | .resumeDrive => true
  | .skipOrder tag => fitsU8 tag
  | .clearQueue => true
  | .readCredit => true
  | .amendCreditLimit m => fitsU16 m
  | .refund => true
  | .readClass => true
  | .amendClass c a => fitsU8 c && a.fits
  | .readCashbox => true
  | .clearCashbox => true
  | .readTube => true
  | .amendTube t a => fitsU8 t && a.fits
  | .setTubeCount t n => fitsU8 t && fitsU8 n
  | .dispense t n => fitsU8 t && fitsU8 n
  | .readPayout => true
  | .amendPayout a => a.fits
  | .readLink => true
  | .amendLink a => a.fits
  | .readZone z => fitsU8 z
  | .amendZone z a => fitsU8 z && a.fits
  | .startDefrost z => fitsU8 z
  | .readCompressor => true
  | .amendCompressor a => a.fits
  | .clearLockout => true
  | .readSample c => fitsU8 c
  | .scanNow => true
  | .amendChannel c a => fitsU8 c && a.fits
  | .amendScan p => fitsU16 p
  | .readInputs => true
  | .amendInput i l => fitsU8 i && fitsU8 l
  | .readLoad => true
  | .amendLoad a => a.fits
  | .readConditions => true
  | .clearConditions _ => true
  | .amendMask _ => true
  | .saveImage => true
  | .restart => true
  | .readIdentity => true
  | .badFrame bytes => judgeChipSelect bytes == some (.badFrame bytes)
  | .unknownRequest bytes => judgeChipSelect bytes == some (.unknownRequest bytes)
  | .fetchReply _ => true
  | .requestDiscarded bytes => bytes.head?.any (· ≠ 0#8)
  | .powerOn => true
  | .resetPin => true
  | .resetRelease => true
  | .restartTimeout => true
  | .startupEnd _ => true
  | .secondTick => true
  | .savePageWritten _ => true
  | .saveRetryTimer => true
  | .camLineEdge _ => true
  | .camConfirm => true
  | .departureTimeout => true
  | .turnTimerExpiry => true
  | .beamBreak => true
  | .dropWindowExpiry => true
  | .fitPulseEnd => true
  | .linkSlot => true
  | .identifyTimer => true
  | .linkFrame bytes _ => !bytes.isEmpty
  | .linkReplyTimeout => true
  | .coinTimeout => true
  | .pulseOnEnd => true
  | .pulseGapEnd => true
  | .chuteWindowClose => true
  | .chuteCount => true
  | .sinceDefrostTimer _ => true
  | .defrostTimer _ => true
  | .dripTimer _ => true
  | .zoneMinuteTimer _ => true
  | .restTimer => true
  | .startTimer => true
  | .confirmLineEdge _ => true
  | .confirmChange => true
  | .runTimer => true
  | .fanRunonTimer => true
  | .periodTimer => true
  | .priorityTimer => true
  | .conversionEnd reading => fitsU16 reading
  | .inputLineEdge _ _ => true
  | .inputChange _ => true
  | .linkFirstByte => true

end Sys2Proof
end

