-- ==== Sys2Proof/Certificates/Slice0/Obligations.lean ====
section
/-! DEFINITION. The statements for the provers: steps and requests, what every step keeps, and what each command
does. The reply layouts, and the choices the manual leaves open, are the log's (notes/assumptions). -/

open Sys2Proof
open Sys2Proof.Machine

/-! ### Steps, requests and frames -/

/-- A step carries out the command at the front of the queue on the queue's rest. On an empty queue a millisecond
passes and nothing else happens (the model's choice, log 1). -/
def Obligations.StepRunsFrontCommandOrLetsAMillisecondPass : Prop :=
  (∀ (c : Instr) (rest : List Instr) (s : State), s.pending = c :: rest →
      step s = exec c { s with pending := rest }) ∧
  (∀ s : State, s.pending = [] → step s = .next (s.withDev { s.dev with now := s.dev.now + 1 }))

/-- No command faults or is refused by the model, none touches the queue, and only a page write touches the image
memory (the model's choice of no faults, log 3). -/
def Obligations.EveryCommandCompletes : Prop :=
  ∀ (i : Instr) (s : State), ∃ t, exec i s = .next t ∧ t.pending = s.pending ∧
    ((∀ b, i ≠ .savePageWritten b) → t.mem = s.mem)

/-- R181, R190: while the port takes no request, a request chip-select is discarded unjudged. R179: every request
judged places a reply, and a refused one changes nothing else. -/
def Obligations.RequestsAreDiscardedOrAnswered : Prop :=
  (∀ (i : Instr) (s : State), isRequest i → ¬ s.taking →
      exec i s = .next { s with port := { s.port with miso := .allOnes } }) ∧
  (∀ (i : Instr) (s : State), isRequest i → s.taking →
      ∃ t st body, exec i s = .next t ∧ t.port.reply = some ⟨st, body⟩ ∧
        (st ≠ .ok → st ≠ .accepted → t = s.replied st body))

/-- R179, 11.6: the chip-select of every well-formed request is judged to be that request. -/
def Obligations.RequestFramesAreJudgedBack : Prop :=
  ∀ (i : Instr) (frame : List Byte), i.wellFormed = true → requestFrame i = some frame →
    judgeChipSelect frame = some i

/-- R179: a wrong CRC, a length byte above 60 or a byte count other than 3 plus the length is a BAD FRAME; a sound
frame with a code outside the table is an UNKNOWN REQUEST; both are answered and not carried out, and a discarded
chip-select leaves no reply. -/
def Obligations.BadFramesAreAnsweredAndNotCarriedOut : Prop :=
  (∀ (code : Byte) (tail : List Byte) (c : Byte), code ≠ 0#8 → c ≠ crc8 (code :: tail) →
      judgeChipSelect (code :: tail ++ [c]) = some (.badFrame (code :: tail ++ [c]))) ∧
  (∀ (code len : Byte) (rest : List Byte), code ≠ 0#8 → (60 < len.toNat ∨ rest.length ≠ 1 + len.toNat) →
      judgeChipSelect (code :: len :: rest) = some (.badFrame (code :: len :: rest))) ∧
  (∀ (code : Nat) (body : List Byte), 0 < code → code < 256 → codeKnown code = false → body.length ≤ 60 →
      judgeChipSelect (frameOf code body) = some (.unknownRequest (frameOf code body))) ∧
  (∀ (bytes : List Byte) (s : State), s.taking →
      exec (.badFrame bytes) s = .next (s.replied .badFrame []) ∧
      exec (.unknownRequest bytes) s = .next (s.replied .unknownRequest [])) ∧
  (∀ (bytes : List Byte) (s : State),
      exec (.requestDiscarded bytes) s = .next { s with port := { s.port with miso := .allOnes } })

/-! ### What every step keeps -/

/-- R186, R188: every step keeps the image memory in its canonical form. The form, an unlisted byte that reads 0xFF, is
the model's choice (log 8). -/
def Obligations.MemoryStaysCanonical : Prop :=
  ∀ s t : State, s.mem.wf = true → step s = .next t → t.mem.wf = true

/-- R172: every step keeps the granted units within the budget, and none granted while CRITICAL. -/
def Obligations.GrantsStayWithinTheBudget : Prop :=
  ∀ s t : State, s.dev.load.sound → step s = .next t → t.dev.load.sound

/-- R47: every step keeps at most 8 orders, no two with one tag and at most one DRIVING or HALTED. -/
def Obligations.OrderQueueStaysSound : Prop :=
  ∀ s t : State, s.dev.queue.sound → step s = .next t → t.dev.queue.sound

/-- R98: every step keeps the acceptance mask empty unless the link is PRESENT and the engine idle. R74: every step
keeps committed at most the balance, and the balance, with a coin on its way to a tube or the cash box, at most max
credit. -/
def Obligations.MaskAndCreditStaySound : Prop :=
  (∀ s t : State, s.dev.maskSound → step s = .next t → t.dev.maskSound) ∧
  (∀ s t : State, s.dev.creditSound → step s = .next t → t.dev.creditSound)

/-- R22, R26, R40: every step keeps the matrix off without an energized lane, and otherwise on the drivers of the active
job's lane and companion, a unit drive's TURNING or a fit check's in PULSE; R24: no job is left on the list while none
is active, but while RESET is held (log 12); R147: the compressor's relay stays open until its rest has elapsed. Every
command but a load of the image keeps, R8: each motor position at one lane, R109: planned within count within capacity
in each tube, R5: reserved within stock within capacity, reserved being what the live orders are owed, and R56, R65:
one unit drive at most, of the current order, DRIVING but while its unit is HALTED or in WINDOW. -/
def Obligations.MatrixAndJobListStaySound : Prop :=
  (∀ s t : State, s.dev.driveClaims → s.dev.drive.matrixSound → step s = .next t → t.dev.drive.matrixSound) ∧
  (∀ s t : State, s.listSound → step s = .next t → t.listSound) ∧
  (∀ s t : State, s.dev.compressorClaims → s.dev.compressor.restSound → step s = .next t →
    t.dev.compressor.restSound) ∧
  (∀ (c : Instr) (s t : State), c ≠ .startupEnd true → exec c s = .next t →
    (s.dev.motorsSound → t.dev.motorsSound) ∧ (s.dev.payout.tubesSound → t.dev.payout.tubesSound) ∧
    (s.listSound → s.dev.queue.sound → s.dev.driveClaims → s.dev.unitsSound → s.dev.lanesSound →
      t.dev.unitsSound ∧ t.dev.lanesSound))

/-- R172: every step keeps the drive at one claim at most, waiting or granted as its job's phase says. -/
def Obligations.DriveClaimFollowsItsJob : Prop :=
  ∀ s t : State, s.dev.driveClaims → step s = .next t → t.dev.driveClaims

/-- R172: every step keeps the payout engine, the compressor and the heaters at one claim each at most, waiting or
granted as their states say. -/
def Obligations.OtherClaimsFollowTheirClaimants : Prop :=
  ∀ s t : State, step s = .next t →
    (s.dev.payoutClaims → t.dev.payoutClaims) ∧ (s.dev.compressorClaims → t.dev.compressorClaims) ∧
    (s.dev.heaterClaims → t.dev.heaterClaims)

/-- R136: no step but a power-on or the end of start-up lowers an exposure accumulator. -/
def Obligations.ExposureNeverFalls : Prop :=
  ∀ (c : Instr) (s t : State), c ≠ .powerOn → (∀ b, c ≠ .startupEnd b) → s.dev.exposureSound → exec c s = .next t →
    t.dev.exposureSound ∧ ∀ z : Fin 2, s.dev.zones[z].exposure ≤ t.dev.zones[z].exposure

/-- The machine after reset meets every one of these, and the values of R72, R107, R178 and R191: no order, no claim,
the mask and the condition mask clear, no reply, seconds 0. That start-up is under way, the defaults of R89 stand and
the image memory is blank is the model's (log 4, 5, 8). -/
def Obligations.ResetMeetsEveryInvariant : Prop :=
  State.reset.mem.wf = true ∧ State.reset.dev.load.sound ∧ State.reset.dev.queue.sound ∧ State.reset.dev.maskSound ∧
  State.reset.dev.creditSound ∧ State.reset.dev.drive.matrixSound ∧ State.reset.listSound ∧
  State.reset.dev.driveClaims ∧ State.reset.dev.payoutClaims ∧ State.reset.dev.compressorClaims ∧
  State.reset.dev.heaterClaims ∧ State.reset.dev.exposureSound ∧ State.reset.dev.emptyBoxesClear ∧
  State.reset.dev.compressor.restSound ∧ State.reset.dev.motorsSound ∧ State.reset.dev.payout.tubesSound ∧
  State.reset.dev.unitsSound ∧ State.reset.dev.lanesSound ∧
  State.reset.dev.queue.orders = [] ∧ State.reset.dev.load.grants = [] ∧ State.reset.dev.load.waiters = [] ∧
  State.reset.dev.coins.mask = 0#8 ∧ State.reset.dev.conditions.mask = 0#16 ∧ State.reset.pending = [] ∧
  State.reset.mem = [] ∧ State.reset.port.reply = none ∧ State.reset.port.seconds = 0 ∧
  State.reset.dev.credit.maxCredit = 500

/-! ### Reads -/

/-- R43, R70, R87, R95, R97, R113, R123, R106: the reads of the drive, the queue, the credit, the coins and the payout
are answered OK with their records and change nothing. Layouts: log 9. -/
def Obligations.SalesReadsCarryTheirRecords : Prop :=
  ∀ s : State, s.taking →
    let d := s.dev
    exec .readDrive s = .next (s.replied .ok
      (u8 d.drive.set.turnLimit ++ u8 d.drive.set.dropWindow ++ u16 d.drive.strayCount ++ optNum d.drive.energized ++
        presence activeBytes d.drive.active ++ u8 d.drive.jobs.length ++ counted jobBytes (d.drive.jobs.take 12))) ∧
    exec .readQueue s = .next (s.replied .ok
      (u8 (queueStateCode d.queue.state) ++ onOff (d.onRef .door) ++ onOff (d.onRef .flap) ++
        optU8 (d.queue.current?.map (·.tag)) ++ optCode unitPosCode (d.queue.current?.map fun _ => d.queue.unitPos) ++
        u8 d.queue.orders.length ++ u8 (d.queue.orders.filter (·.state.live)).length ++
        d.queue.orders.flatMap queuedBytes)) ∧
    exec .readCredit s = .next (s.replied .ok
      (u16 d.credit.balance ++ u16 d.credit.committed ++ u16 (d.credit.balance - d.credit.committed) ++
        u16 d.credit.maxCredit ++ u8 (refundCode d.credit.pending) ++ yesNo d.coins.inFlight.isSome ++
        yesNo d.payout.idle ++ u16 (d.planTotal false (d.credit.balance - d.credit.committed)) ++
        counted num d.credit.tendered)) ∧
    exec .readClass s = .next (s.replied .ok (allClasses.flatMap fun c : Fin 8 =>
      u16 d.coins.classes[c].value ++ yesNo d.coins.classes[c].enabled ++ optNum (d.payout.tubeOf c) ++
        u16 d.coins.cashbox[c])) ∧
    exec .readCashbox s = .next (s.replied .ok (d.coins.cashbox.toList.flatMap u16)) ∧
    exec .readTube s = .next (s.replied .ok (d.payout.tubes.toList.flatMap fun r : Tube =>
      optNum r.boundClass ++ u8 r.capacity ++ u8 r.count ++ u8 r.planned ++ u8 (tubeStateCode r.state) ++
        optCode tubeFaultCode r.lastFault ++ presence (fun c => u16 d.coins.classes[c].value) r.boundClass)) ∧
    exec .readPayout s = .next (s.replied .ok
      (yesNo d.payout.idle ++ presence planBytes d.payout.plan ++
        (if d.payout.idle then [] else presence coinBytes d.payout.coin) ++
        u16 d.payout.set.onTime ++ u16 d.payout.set.gap ++ u16 d.payout.strayCount)) ∧
    exec .readLink s = .next (s.replied .ok
      (u8 (linkStateCode d.coins.link) ++ u8 d.coins.missCount ++ u16 d.coins.pollPeriod ++ [d.coins.mask] ++
        presence (fun m => [m]) d.coins.acknowledged ++ yesNo d.coins.maskDue ++
        presence (inFlightBytes d.now) d.coins.inFlight ++ presence uncertainBytes d.coins.uncertain ++
        presence (counted fun b => [b]) d.coins.identity ++ presence u8 d.coins.lastFault ++ u8 d.coins.faultCount))

/-- R140, R153, R168, R177, R184, R185, R69: the reads of a zone, the compressor, the inputs, the load budget, the
conditions, the identity and an order are answered with their records and change nothing. The layouts are log 9, the
times left, rounded up and 0 without a running timer, log 11. -/
def Obligations.MachineReadsCarryTheirRecords : Prop :=
  ∀ s : State, s.taking →
    let d := s.dev
    (∀ z : Fin 2, exec (.readZone z.val) s = .next (s.replied .ok
      (zoneSettingBytes d.zones[z].set ++ u16 d.powerLossCharge ++ u8 (zoneStateCode d.zones[z].state) ++
        yesNo d.zones[z].warm ++ u16 d.zones[z].exposure ++ u16 d.zones[z].sinceDefrost ++
        yesNo d.zones[z].defrostDue ++ probeBytes d.zones[z].air ++ probeBytes d.zones[z].evaporator ++
        onOff d.zones[z].valve ++ onOff (d.fanOn z) ++ onOff (d.heaterOn z) ++ zoneTimes d.now d.zones[z] ++
        optCode zoneAlarmCode d.zones[z].lastAlarm ++ u8 (d.laneCount z (·.held)) ++
        u8 (d.laneCount z (·.spoiled))))) ∧
    (∀ zone, 2 ≤ zone → exec (.readZone zone) s = .next (s.replied .range [])) ∧
    exec .readCompressor s = .next (s.replied .ok
      (compressorSettingBytes d.compressor.set ++ u8 (compressorStateCode d.compressor.state) ++
        u8 d.compressor.failures ++ yesNo d.compressor.demand ++ d.zones.toList.flatMap (fun z => onOff z.valve) ++
        u16 d.compressor.restTarget ++ yesNo d.compressor.restElapsed ++ compressorTimes d.now d.compressor ++
        onOff d.compressor.relay ++ onOff d.compressor.fan ++ u16 (timeLeft d.compressor.fanTimer d.now 1000) ++
        probeBytes d.compressor.condenser ++ optCode levelCode d.compressor.confirmLevel ++
        optCode lastStopCode d.compressor.lastStop ++ optCode compressorAlarmCode d.compressor.lastAlarm)) ∧
    exec .readInputs s = .next (s.replied .ok (d.inputs.toList.flatMap fun r : Input =>
      u8 (levelCode r.reference) ++ optCode levelCode r.debounced ++ u8 (inputStateCode r.state) ++
        u8 (levelCode r.line) ++ yesNo r.timer.isSome)) ∧
    exec .readLoad s = .next (s.replied .ok
      (u8 d.load.set.budget ++ u16 d.load.set.lowThreshold ++ u16 d.load.set.criticalThreshold ++
        u8 (bandCode d.load.band) ++ unsignedBytes d.load.supply ++ u8 d.load.granted ++
        u8 (d.load.set.budget - d.load.granted) ++ counted claimBytes d.load.grants ++
        counted claimBytes d.load.waiters)) ∧
    exec .readConditions s = .next (s.replied .ok
      (u16 d.conditions.latched.toNat ++ u16 d.conditions.mask.toNat ++ attnBytes d.conditions ++
        u8 s.port.save.isSome.toNat ++ optCode saveResultCode s.port.lastSave ++
        u8 (imageStatusCode s.port.imageStatus))) ∧
    exec .readIdentity s = .next (s.replied .ok
      (u16 0x4642 ++ u16 416 ++ u8 Config.siliconRevision ++ u8 3 ++ u8 (imageStatusCode s.port.imageStatus) ++
        u8 (resetCauseCode s.port.resetCause) ++ u32 s.port.seconds)) ∧
    exec (.readOrder 0) s = .next (s.replied .range []) ∧
    (∀ tag, tag ≠ 0 → (∀ o ∈ d.queue.orders, o.tag ≠ tag) → exec (.readOrder tag) s = .next (s.replied .notFound [])) ∧
    (∀ o, o.tag ≠ 0 → d.queue.find? o.tag = some o → exec (.readOrder o.tag) s = .next (s.replied .ok
      (u8 o.tag ++ num o.lane ++ u16 o.product ++ u8 o.quantity ++ u16 o.price ++ u8 (paymentCode o.payment) ++
        yesNo o.final ++ yesNo o.holdAfter ++ yesNo o.inexactOk ++ u8 (orderStateCode o.state) ++ u8 o.delivered ++
        u8 o.residue ++ u32 o.charged ++ optCode endCauseCode o.cause ++
        (if o.state.current then u8 (unitPosCode d.queue.unitPos) else []))))

/-- R16: READ LANE by number, and in the next-changed form the lowest member of the changed-lanes set; the lane
leaves the set, the reply carries the record and the members left, and nothing else changes. Layout: log 9. That the
next-changed form takes every lane byte, unlooked at, is the model's choice (log 10). -/
def Obligations.ReadLaneTakesTheLaneOffTheChangedSet : Prop :=
  ∀ (s : State) (n : Fin 64) (l : Lane), s.taking → s.dev.lane? n = some l →
    let table := { s.dev.table with changed := put s.dev.table.changed n false }
    let t := (s.withDev { s.dev with table := table }).replied .ok (laneBytes n l ++ u8 table.changedCount)
    exec (.readLane 0 n.val) s = .next t ∧
    ((∀ m : Fin 64, m < n → s.dev.table.changed[m] = false) → s.dev.table.changed[n] = true →
      ∀ lane, exec (.readLane 1 lane) s = .next t) ∧
    ((∀ m : Fin 64, s.dev.table.changed[m] = false) →
      ∀ lane, exec (.readLane 1 lane) s = .next (s.replied .notFound []))

/-- R17, R18: FIND PRODUCT ranks the sellable lanes of a product code by restock age and then by number, and answers
with their counts, their free units and the first 16; nothing changes. Layout: log 9. -/
def Obligations.FindProductRanksByRestockAge : Prop :=
  (∀ (d : Device) (code : Nat),
    ((d.vendOrder code).Pairwise fun x y =>
      d.table.age y.2 < d.table.age x.2 ∨ (d.table.age x.2 = d.table.age y.2 ∧ x.1 < y.1)) ∧
    ∀ n l, (n, l) ∈ d.vendOrder code ↔ d.lane? n = some l ∧ l.product = code ∧ l.sellable 1 0 = true) ∧
  (∀ (s : State) (code : Nat), s.taking → code ≠ 0 →
    (∃ n l, s.dev.lane? n = some l ∧ l.product = code) →
    exec (.findProduct code) s = .next (s.replied .ok
      (u8 (s.dev.carriers code).length ++ u8 (s.dev.vendOrder code).length ++
        u16 ((s.dev.vendOrder code).map fun x => x.2.stock - x.2.reserved).sum ++
        counted (fun x => num x.1 ++ u8 (x.2.stock - x.2.reserved)) ((s.dev.vendOrder code).take 16)))) ∧
  (∀ (s : State) (code : Nat), s.taking → code ≠ 0 →
    (∀ n l, s.dev.lane? n = some l → l.product ≠ code) →
    exec (.findProduct code) s = .next (s.replied .notFound []))

/-! ### The lane table's requests -/

/-- R9, R13: ENROL LANE fills a vacant slot with the settings given, CHECKING, with a fresh stamp, its zone's exposure
as baseline and its zone's hold decision; its fit check joins the drive's list; other lanes stand. -/
def Obligations.EnrolLaneFillsTheSlot : Prop :=
  ∀ (s : State) (n : Fin 64) (g : LaneSettings) (zone : Fin 2) (k : LaneClass) (c : DropCheck),
    s.taking → s.dev.drive.listSound → s.dev.lane? n = none →
    1 ≤ g.product → g.product ≤ 65535 → g.price ≤ 65535 → 1 ≤ g.capacity → g.capacity ≤ 99 → g.stock ≤ g.capacity →
    g.zone = zone.val → laneClassOf g.laneClass = some k → dropCheckOf g.dropCheck = some c →
    (∀ p, g.companion = some p → p < 64 ∧ p ≠ n.val ∧ (p / 8 = n.val / 8 ∨ p % 8 = n.val % 8)) →
    1 ≤ g.turns → g.turns ≤ 3 → g.extraTurns ≤ 2 →
    (∀ m l, m ≠ n → s.dev.lane? m = some l →
      l.companion ≠ some n ∧ g.companion ≠ some m.val ∧
        ∀ p : Fin 64, g.companion = some p.val → l.companion ≠ some p) →
    let stamp := s.dev.table.stampCounter + 1
    let z := s.dev.zones[zone]
    ∃ t, exec (.enrolLane n.val g) s = .next t ∧ t.port = (s.replied .ok (u16 stamp.toNat)).port ∧
      t.dev.table.stampCounter = stamp ∧ t.dev.table.changed = s.dev.table.changed ∧
      t.dev.lane? n = some
        { base := .checking, held := z.holds k, spoiled := false, product := g.product, price := g.price,
          capacity := g.capacity, stock := g.stock, reserved := 0, zone := zone, laneClass := k,
          companion := position g.companion, turns := g.turns, extraTurns := g.extraTurns, dropCheck := c,
          stamp := stamp, baseline := z.exposure, offHome := false, jams := 0, sales := 0, lastTurn := none } ∧
      (∀ m, m ≠ n → t.dev.lane? m = s.dev.lane? m) ∧ s.dev.fitCheckJoins n t.dev ∧
      s.dev.changesOnly (.table :: grantParts) t.dev

/-- R10, R11: AMEND LANE writes the named fields with their effects: a new companion sends the lane to CHECKING with a
fit check, a new zone or class takes the new zone's exposure and hold decision; OFFLINE; other lanes stand. -/
def Obligations.AmendLaneWritesTheNamedFields : Prop :=
  ∀ (s : State) (n : Fin 64) (l : Lane) (a : LaneAmend), s.taking → s.dev.drive.listSound → s.dev.lane? n = some l →
    LaneAmend.inRange a n l = true → LaneAmend.refusal a n l s.dev = none →
    let zone := LaneAmend.zoneAfter a l
    let k := LaneAmend.classAfter a l
    let comp := LaneAmend.companionAfter a l
    let rezoned : Prop := zone ≠ l.zone ∨ k ≠ l.laneClass
    let z := s.dev.zones[zone]
    ∃ t l', exec (.amendLane n.val a) s = .next t ∧ t.port = (s.replied .ok []).port ∧ t.dev.lane? n = some l' ∧
      l' = { l with
             product := a.product.getD l.product, price := a.price.getD l.price, capacity := a.capacity.getD l.capacity,
             zone := zone, laneClass := k, companion := comp, turns := a.turns.getD l.turns,
             extraTurns := a.extraTurns.getD l.extraTurns, dropCheck := (a.dropCheck.bind dropCheckOf).getD l.dropCheck,
             jams := a.jams.getD l.jams, sales := a.sales.getD l.sales,
             base := l'.base, held := l'.held, baseline := l'.baseline, offHome := l'.offHome, lastTurn := l'.lastTurn } ∧
      (comp ≠ l.companion → l'.base = .checking ∧ l'.offHome = false ∧ l'.lastTurn = none ∧
        s.dev.fitCheckJoins n t.dev) ∧
      (comp = l.companion → l'.base = (if a.base.isSome then .offline else l.base) ∧ l'.offHome = l.offHome ∧
        l'.lastTurn = l.lastTurn ∧ t.dev.drive = s.dev.drive ∧ t.dev.load = s.dev.load) ∧
      (rezoned → l'.baseline = z.exposure ∧ l'.held = z.holds k) ∧
      (¬ rezoned → l'.baseline = l.baseline ∧ l'.held = l.held) ∧
      (l'.held ≠ l.held → t.dev.table.changed[n] = true) ∧
      (l'.held = l.held → t.dev.table.changed = s.dev.table.changed) ∧
      (∀ m, m ≠ n → t.dev.lane? m = s.dev.lane? m ∧ t.dev.table.changed[m] = s.dev.table.changed[m]) ∧
      t.dev.table.stampCounter = s.dev.table.stampCounter ∧
      s.dev.changesOnly (.table :: .conditions :: grantParts) t.dev

/-- R12, R13: RESTOCK LANE sets the stock, clears spoiled, takes a fresh stamp and its zone's exposure; nothing else
changes. R14: CHECK LANE puts a lane with no current order in CHECKING and its fit check on the list. -/
def Obligations.RestockAndCheckLane : Prop :=
  (∀ (s : State) (n : Fin 64) (l : Lane) (stock : Nat), s.taking → s.dev.lane? n = some l →
      stock ≤ 99 → stock ≤ l.capacity → l.reserved ≤ stock →
      let stamp := s.dev.table.stampCounter + 1
      exec (.restockLane n.val stock) s = .next ((s.withDev (Device.setSlot n
        (some { l with stock := stock, spoiled := false, baseline := s.dev.zones[l.zone].exposure, stamp := stamp })
        { s.dev with table := { s.dev.table with stampCounter := stamp } })).replied .ok (u16 stamp.toNat))) ∧
  (∀ (s : State) (n : Fin 64) (l : Lane), s.taking → s.dev.drive.listSound → s.dev.lane? n = some l →
      l.base ≠ .checking → (∀ o ∈ s.dev.queue.orders, o.lane = n → o.state.current = false) →
      ∃ t, exec (.checkLane n.val) s = .next t ∧ t.port = (s.replied .accepted []).port ∧
        t.dev.table = { s.dev.table with slots := put s.dev.table.slots n (some { l with base := .checking }) } ∧
        s.dev.fitCheckJoins n t.dev ∧ s.dev.changesOnly (.table :: grantParts) t.dev)

/-- R15: RETIRE LANE ends the lane's QUEUED orders CANCELLED with cause LANE_RETIRED, empties the slot, takes the lane
off the changed-lanes set and answers with the number of those orders. -/
def Obligations.RetireLaneEmptiesTheSlot : Prop :=
  ∀ (s : State) (n : Fin 64) (l : Lane), s.taking → s.dev.queue.sound → s.dev.lane? n = some l →
    l.base ≠ .checking → (∀ o ∈ s.dev.queue.orders, o.lane = n → o.state.current = false) →
    ∃ t, exec (.retireLane n.val) s = .next t ∧
      t.port = (s.replied .ok
        (u8 (s.dev.queue.orders.filter fun o => o.state = .queued && o.lane = n).length)).port ∧
      t.dev.lane? n = none ∧ t.dev.table.changed[n] = false ∧
      (∀ o ∈ s.dev.queue.orders, o.state = .queued → o.lane = n →
        { o with state := .cancelled, cause := some .laneRetired, residue := o.quantity - o.delivered }
          ∈ t.dev.queue.orders) ∧
      s.dev.changesOnly [.conditions, .table, .drive, .queue, .credit, .coins, .payout, .zones, .compressor, .scanner,
        .load] t.dev

/-! ### Settings -/

/-- R44, R123, R106, R153, R165: AMEND DRIVE, AMEND PAYOUT, AMEND LINK, AMEND COMPRESSOR and AMEND SCAN write the
named settings and change nothing else: no job, pulse, slot, start copy or timer under way. That AMEND LINK may name no
poll period, as the others may name nothing, is the model's (log 10). -/
def Obligations.SettingsRequestsWriteTheirSettings : Prop :=
  ∀ s : State, s.taking →
    (∀ a : DriveAmend, named 20 100 a.turnLimit → named 2 30 a.dropWindow → named 0 0 a.strayCount →
      exec (.amendDrive a) s = .next ((s.withDev { s.dev with drive := { s.dev.drive with
        set := { turnLimit := a.turnLimit.getD s.dev.drive.set.turnLimit,
                 dropWindow := a.dropWindow.getD s.dev.drive.set.dropWindow },
        strayCount := a.strayCount.getD s.dev.drive.strayCount } }).replied .ok [])) ∧
    (∀ a : PayoutAmend, named 20 200 a.onTime → named 20 500 a.gap → named 0 0 a.strayCount →
      exec (.amendPayout a) s = .next ((s.withDev { s.dev with payout := { s.dev.payout with
        set := { onTime := a.onTime.getD s.dev.payout.set.onTime, gap := a.gap.getD s.dev.payout.set.gap },
        strayCount := a.strayCount.getD s.dev.payout.strayCount } }).replied .ok [])) ∧
    (∀ a : LinkAmend, named 20 200 a.pollPeriod → named 0 0 a.faultCount →
      exec (.amendLink a) s = .next ((s.withDev { s.dev with coins := { s.dev.coins with
        pollPeriod := a.pollPeriod.getD s.dev.coins.pollPeriod,
        faultCount := a.faultCount.getD s.dev.coins.faultCount } }).replied .ok [])) ∧
    (∀ a : CompressorAmend, named 60 600 a.minRest → named 30 300 a.minRun → named 2 10 a.startWindow →
      named 0 1 a.confirmMode → named 0 1 a.confirmPolarity → namedT 400 800 a.hotLimit →
      exec (.amendCompressor a) s = .next ((s.withDev { s.dev with compressor := { s.dev.compressor with
        set := { minRest := a.minRest.getD s.dev.compressor.set.minRest,
                 minRun := a.minRun.getD s.dev.compressor.set.minRun,
                 startWindow := a.startWindow.getD s.dev.compressor.set.startWindow,
                 confirmMode := (a.confirmMode.bind confirmModeOf).getD s.dev.compressor.set.confirmMode,
                 confirmPolarity := (a.confirmPolarity.bind levelOf).getD s.dev.compressor.set.confirmPolarity,
                 hotLimit := a.hotLimit.getD s.dev.compressor.set.hotLimit } } }).replied .ok [])) ∧
    (∀ period, 100 ≤ period → period ≤ 5000 →
      exec (.amendScan period) s = .next ((s.withDev { s.dev with scanner := { s.dev.scanner with
        period := period } }).replied .ok []))

/-! ### Orders -/

/-- R51, R53, R55: a placement that passes its checks joins the queue's tail QUEUED, reserves its units and commits
its cost; it does not start while another order is current, the queue is HELD or a gate is closed. Layout: log 9. That
flag bits above the three named are ignored is the model's choice (log 10). -/
def Obligations.PlaceOrderReservesAndCommits : Prop :=
  ∀ (s : State) (p : Placement) (pay : Payment) (n : Fin 64) (l : Lane), s.taking → s.dev.drive.listSound →
    passesChecks p s.dev pay n l →
    (s.dev.queue.current?.isSome = true ∨ s.dev.queue.state = .held ∨ s.dev.onRef .door = false ∨
      s.dev.onRef .flap = false) →
    exec (.placeOrder p) s = .next ((s.withDev (s.dev.placed (orderOf p pay n l) l)).replied .ok
      (placedReply s.dev (orderOf p pay n l)))

/-- R53, R55, R56, R24 to R26: a placement into a RUNNING queue with open gates, no order waiting and an idle drive
is DRIVING within the event: its unit drive is the active job, with the lane's settings copied and its claim made.
Layout: log 9. That flag bits above the three named are ignored is the model's choice (log 10). -/
def Obligations.PlaceOrderStartsOnAnIdleQueue : Prop :=
  ∀ (s : State) (p : Placement) (pay : Payment) (n : Fin 64) (l : Lane), s.taking → passesChecks p s.dev pay n l →
    (∀ o ∈ s.dev.queue.orders, o.state.live = false) → s.dev.queue.state = .running → s.dev.onRef .door = true →
    s.dev.onRef .flap = true → s.dev.drive.active = none → s.dev.drive.jobs = [] → s.dev.queue.unitPos = .none →
    let o := orderOf p pay n l
    ∃ t j, exec (.placeOrder p) s = .next t ∧ t.port = (s.replied .ok (placedReply s.dev o)).port ∧
      t.dev.queue.orders = s.dev.queue.orders ++ [{ o with state := .driving }] ∧ t.dev.queue.unitPos = .posted ∧
      t.dev.queue.state = .running ∧ t.dev.table = (s.dev.placed o l).table ∧ t.dev.credit = (s.dev.placed o l).credit ∧
      t.dev.drive.active = some j ∧ t.dev.drive.jobs = [] ∧ j.job = .unitDrive n p.tag ∧
      (j.phase = .waitLoad ∨ j.phase = .turning) ∧ j.companion = l.companion ∧ j.turns = l.turns ∧
      j.extraTurns = l.extraTurns ∧ j.dropCheck = l.dropCheck ∧
      unitClaim j.job l.companion ∈ t.dev.load.grants ++ t.dev.load.waiters ∧
      s.dev.changesOnly (.table :: .queue :: .credit :: grantParts) t.dev

/-- R71: RETIRE ORDER frees the slot of an ended order, or with tag 0 those of all ended orders, answering with their
number; it refuses a live order and a tag not held; the other orders keep their order, and nothing else changes. -/
def Obligations.RetireOrderFreesEndedSlots : Prop :=
  ∀ s : State, s.taking →
    (∀ o, o.tag ≠ 0 → s.dev.queue.find? o.tag = some o → o.state.live = false →
      exec (.retireOrder o.tag) s = .next ((s.withDev { s.dev with queue := { s.dev.queue with
        orders := s.dev.queue.orders.filter fun x => x.tag ≠ o.tag } }).replied .ok [])) ∧
    exec (.retireOrder 0) s = .next ((s.withDev { s.dev with queue := { s.dev.queue with
        orders := s.dev.queue.orders.filter fun x => x.state.live } }).replied .ok
          (u8 (s.dev.queue.orders.filter fun x => !x.state.live).length)) ∧
    (∀ o, o.tag ≠ 0 → s.dev.queue.find? o.tag = some o → o.state.live = true →
      exec (.retireOrder o.tag) s = .next (s.replied .notAllowed [])) ∧
    (∀ tag, tag ≠ 0 → (∀ o ∈ s.dev.queue.orders, o.tag ≠ tag) →
      exec (.retireOrder tag) s = .next (s.replied .notFound []))

/-- R64, R55: HOLD QUEUE sets HELD and RESUME QUEUE sets RUNNING; nothing else changes, except that a resumed queue
with open gates and no current order starts its head, whose unit drive joins a busy drive's list. -/
def Obligations.HoldAndResumeQueue : Prop :=
  ∀ s : State, s.taking → s.dev.drive.listSound →
    let held := { s.dev.queue with state := QueueState.held }
    let running := { s.dev.queue with state := QueueState.running }
    exec .holdQueue s = .next ((s.withDev { s.dev with queue := held }).replied .ok []) ∧
    ((s.dev.queue.current?.isSome = true ∨ s.dev.queue.head? = none ∨ s.dev.onRef .door = false ∨
        s.dev.onRef .flap = false) →
      exec .resumeQueue s = .next ((s.withDev { s.dev with queue := running }).replied .ok [])) ∧
    (∀ o j, s.dev.queue.current? = none → s.dev.queue.head? = some o → s.dev.onRef .door = true →
      s.dev.onRef .flap = true → s.dev.drive.active = some j → s.dev.queue.unitPos = .none → o.delivered < o.quantity →
      s.dev.queue.sound →
      exec .resumeQueue s = .next ((s.withDev { s.dev with
        queue := { (running.update o.tag fun x => { x with state := .driving }) with unitPos := .posted }
        drive := { s.dev.drive with jobs := s.dev.drive.jobs ++ [.unitDrive o.lane o.tag] } }).replied .ok []))

/-- R36, R65: HALT DRIVE stops a TURNING unit whose drop is not seen: motors off, partial turn discarded, grant given
back, the unit position and the order HALTED; a listed unit leaves the list; a HALTED order stands. R38, R66: RESUME
DRIVE puts the HALTED current order in DRIVING; its halted unit drive claims its load again and its position is
POSTED; a unit in its drop window is left there; without open gates it is NOT_ALLOWED. -/
def Obligations.HaltAndResumeDrive : Prop :=
  (∀ (s : State) (o : Order), s.taking → s.dev.queue.sound → s.dev.drive.listSound → s.dev.driveClaims →
      s.dev.queue.current? = some o →
      (∀ j n, o.state = .driving → s.dev.drive.active = some j → j.job = .unitDrive n o.tag → j.phase = .turning →
        j.dropSeen = false →
        ∃ t, exec .haltDrive s = .next t ∧ t.port = (s.replied .ok []).port ∧
          t.dev.queue = { (s.dev.queue.update o.tag fun x => { x with state := .halted }) with unitPos := .halted } ∧
          t.dev.drive = { s.dev.drive with
            active := some { j with phase := .halted, departureTimer := none, turnTimer := none, openedAt := none }
            energized := none, rows := 0, cols := 0, camConfirmed := none, camTimer := none } ∧
          (∀ c ∈ t.dev.load.grants ++ t.dev.load.waiters, c.who ≠ .drive) ∧
          (s.dev.drive.camConfirmed = some .opened → ∀ l, t.dev.lane? n = some l → l.offHome = true) ∧
          s.dev.changesOnly (.table :: .queue :: grantParts) t.dev) ∧
      (∀ j, o.state = .driving → s.dev.drive.active = some j → j.job.tag? ≠ some o.tag →
        exec .haltDrive s = .next ((s.withDev { s.dev with
          queue := { (s.dev.queue.update o.tag fun x => { x with state := .halted }) with unitPos := .none }
          drive := { s.dev.drive with jobs := s.dev.drive.jobs.filter fun x => x.tag? ≠ some o.tag } }).replied .ok [])) ∧
      (o.state = .halted → exec .haltDrive s = .next (s.replied .ok []))) ∧
  (∀ (s : State) (o : Order), s.taking → s.dev.queue.current? = some o → o.state = .halted →
      let driving := s.dev.queue.update o.tag fun x => { x with state := .driving }
      ((s.dev.onRef .door && s.dev.onRef .flap) = false → exec .resumeDrive s = .next (s.replied .notAllowed [])) ∧
      (s.dev.onRef .door = true → s.dev.onRef .flap = true → s.dev.queue.unitPos = .posted →
        exec .resumeDrive s = .next ((s.withDev { s.dev with queue := driving }).replied .ok [])) ∧
      (∀ j n, s.dev.onRef .door = true → s.dev.onRef .flap = true → s.dev.queue.unitPos = .halted →
        s.dev.drive.active = some j → j.job = .unitDrive n o.tag → j.phase = .halted →
        ∃ t k, exec .resumeDrive s = .next t ∧ t.port = (s.replied .ok []).port ∧
          t.dev.queue = { driving with unitPos := .posted } ∧ t.dev.drive.active = some k ∧ k.job = j.job ∧
          k.turnCount = j.turnCount ∧ k.turnTarget = j.turnTarget ∧ k.dropSeen = j.dropSeen ∧
          k.supplyMark = j.supplyMark ∧ (k.phase = .waitLoad ∨ k.phase = .turning) ∧
          t.dev.drive.jobs = s.dev.drive.jobs ∧
          unitClaim j.job j.companion ∈ t.dev.load.grants ++ t.dev.load.waiters ∧
          s.dev.changesOnly (.queue :: grantParts) t.dev))

/-- R48, R49, R67: SKIP ORDER ends a QUEUED order CANCELLED with cause SKIPPED, its reservation and commitment
released and ORDER_ENDED raised. R35, R39, R67: a DRIVING or HALTED order's unit drive is abandoned and the order ends
PARTIAL or FAILED with cause SKIPPED, a unit whose drop was seen being delivered first, and DELIVERED if it was the
last. That the drop-seen mark decides in every phase, in WAIT_LOAD, HALTED and WINDOW too, where R39's table reports
ABANDONED, is the model's reading of R35's row (log 16). A skip of an order that has ended is NOT_ALLOWED. R68: CLEAR
QUEUE ends every live order and holds the queue, answering with the number of orders it ends. -/
def Obligations.SkipOrderAndClearQueue : Prop :=
  (∀ (s : State) (o : Order) (l : Lane), s.taking → s.dev.queue.sound → s.dev.drive.listSound → o ∈ s.dev.queue.orders →
      o.tag ≠ 0 → s.dev.lane? o.lane = some l →
      (o.state = .queued → o.delivered = 0 → (s.dev.queue.state = .held ∨ s.dev.queue.current?.isSome = true) →
        ∃ t, exec (.skipOrder o.tag) s = .next t ∧ t.port = (s.replied .ok []).port ∧
          t.dev.queue.find? o.tag = some { o with state := .cancelled, cause := some .skipped, residue := o.quantity } ∧
          (∀ tag, tag ≠ o.tag → t.dev.queue.find? tag = s.dev.queue.find? tag) ∧
          t.dev.lane? o.lane = some { l with reserved := l.reserved - o.quantity } ∧
          t.dev.credit.committed = s.dev.credit.committed - (if o.payment = .credit then o.price * o.quantity else 0) ∧
          t.dev.credit.balance = s.dev.credit.balance ∧ t.dev.conditions.has .orderEnded = true ∧
          t.dev.drive.active.map (·.job) = s.dev.drive.active.map (·.job) ∧ s.dev.changesOnly saleParts t.dev) ∧
      (o.state.current = true → o.delivered < o.quantity → s.dev.queue.state = .held → s.dev.drive.jobs = [] →
        s.dev.drive.matrixSound → s.dev.driveClaims →
        ((s.dev.queue.unitPos = .none ∧ s.dev.drive.active = none) ∨
          (s.dev.queue.unitPos ≠ .none ∧ ∃ j, s.dev.drive.active = some j ∧ j.job = .unitDrive o.lane o.tag ∧
            (j.phase = .window → j.dropCheck = .required) ∧ j.phase ≠ .pulse)) →
        let seen := s.dev.drive.active.any (·.dropSeen)
        let got := o.delivered + seen.toNat
        ∃ t o' l', exec (.skipOrder o.tag) s = .next t ∧ t.port = (s.replied .ok []).port ∧
          t.dev.queue.find? o.tag = some o' ∧ o'.delivered = got ∧ o'.residue = o.quantity - got ∧
          o'.charged = o.charged + (if seen then o.price else 0) ∧
          o'.state = (if got = o.quantity then .delivered else if 0 < got then .partly else .failed) ∧
          o'.cause = some (if got = o.quantity then .completed else .skipped) ∧
          t.dev.lane? o.lane = some l' ∧ l'.stock = l.stock - seen.toNat ∧ l'.base = l.base ∧
          l'.reserved = l.reserved - seen.toNat - (o.quantity - got) ∧
          t.dev.drive.active = none ∧ t.dev.drive.energized = none ∧ t.dev.queue.unitPos = .none ∧
          (∀ c ∈ t.dev.load.grants ++ t.dev.load.waiters, c.who ≠ .drive) ∧
          t.dev.conditions.has .orderEnded = true ∧ s.dev.changesOnly saleParts t.dev) ∧
      (o.state.live = false → exec (.skipOrder o.tag) s = .next (s.replied .notAllowed []))) ∧
  (∀ s : State, s.taking → s.dev.queue.sound →
      ∃ t, exec .clearQueue s = .next t ∧
        t.port = (s.replied .ok (u8 (s.dev.queue.orders.filter fun o => o.state.live).length)).port ∧
        t.dev.queue.state = .held ∧ t.dev.queue.orders.map (·.tag) = s.dev.queue.orders.map (·.tag) ∧
        (∀ o ∈ t.dev.queue.orders, o.state.live = false) ∧
        (∀ o ∈ s.dev.queue.orders, o.state.live = false → o ∈ t.dev.queue.orders) ∧
        (∀ o ∈ s.dev.queue.orders, o.state = .queued →
          { o with state := .cancelled, cause := some .cleared, residue := o.quantity - o.delivered }
            ∈ t.dev.queue.orders) ∧
        (s.dev.queue.orders.any (fun o => o.state.live) = true → t.dev.conditions.has .orderEnded = true) ∧
        s.dev.changesOnly saleParts t.dev)

/-! ### Money, coins and tubes -/

/-- R98: the recomputed mask holds class c exactly when the link is PRESENT, the engine idle, the class enabled, its
coin within max credit and routed; a SET_MASK is due exactly when the mask differs from the one acknowledged. -/
def Obligations.AcceptanceMaskRule : Prop :=
  ∀ (d : Device) (c : Fin 8),
    ((d.recomputeMask.coins.mask.getLsbD c.val = true) ↔
      d.coins.link = .present ∧ d.payout.idle = true ∧ d.coins.classes[c].enabled = true ∧
      d.credit.balance + d.coins.classes[c].value ≤ d.credit.maxCredit ∧
      ((∃ t, d.payout.tubeOf c = some t ∧ d.payout.tubes[t].state = .ready ∧
          d.payout.tubes[t].count ≠ d.payout.tubes[t].capacity) ∨ d.onRef .cashbox = true)) ∧
    (d.recomputeMask.coins.maskDue = true ↔ d.coins.acknowledged ≠ some d.recomputeMask.coins.mask) ∧
    d.changesOnly [.coins] d.recomputeMask

/-- R79 to R81: a change plan gives each tube one line, of coins it has unplanned in a READY bound tube, and the lines
and the remainder make up the amount. R80: the like-coin pass gives one coin for each tendered class, oldest first,
whose tube has one free that fits what remains. R81: the greedy pass then takes the tubes in descending order of
value, the lower number first, and each gives as many coins as it has free and as fit what remains; their lines
follow those of the like-coin pass in that order. So no tube keeps a free coin that would fit the remainder. -/
def Obligations.ChangePlanPaysFromTheTubes : Prop :=
  ∀ (d : Device) (like : Bool) (amount : Nat),
    let lines := (d.changePlan like amount).1
    (lines.map (·.1)).Nodup ∧
    (∀ x ∈ lines, 0 < x.2 ∧ d.payout.tubes[x.1].state = .ready ∧ d.payout.tubes[x.1].boundClass.isSome = true ∧
      x.2 + d.payout.tubes[x.1].planned ≤ d.payout.tubes[x.1].count) ∧
    (lines.map fun x => x.2 * d.tubeValue x.1).sum + (d.changePlan like amount).2 = amount ∧
    let free (u : Fin 6) : Nat := if d.payout.tubes[u].state = .ready ∧ d.payout.tubes[u].boundClass.isSome = true
      then d.payout.tubes[u].count - d.payout.tubes[u].planned else 0
    let before (x u : Fin 6) : Bool :=
      d.tubeValue u < d.tubeValue x || (d.tubeValue u = d.tubeValue x && x < u)
    let like0 := if like then d.likePass ([], amount) else ([], amount)
    let greedy (u : Fin 6) : Nat := givenFrom lines u - givenFrom like0.1 u
    (∀ u : Fin 6, givenFrom lines u = givenFrom like0.1 u + min (free u - givenFrom like0.1 u)
      ((like0.2 - ((allTubes.filter (before · u)).map fun x => greedy x * d.tubeValue x).sum) / d.tubeValue u)) ∧
    (∀ u : Fin 6, givenFrom lines u < free u → 0 < d.tubeValue u → (d.changePlan like amount).2 < d.tubeValue u) ∧
    (lines.map (·.1)).take like0.1.length = like0.1.map (·.1) ∧
    ((lines.map (·.1)).drop like0.1.length).Pairwise (fun x u => before x u = true) ∧
    (∀ acc : List (Fin 6 × Nat) × Nat,
      (d.credit.tendered = [] → d.likePass acc = acc) ∧
      (∀ c, d.credit.tendered.head? = some c →
        d.likePass acc = Device.likePass { d with credit := { d.credit with tendered := d.credit.tendered.tail } }
          (match d.payout.tubeOf c with
           | none => acc
           | some u =>
             if givenFrom acc.1 u < free u ∧ d.coins.classes[c].value ≤ acc.2 then
               (if acc.1.any (·.1 = u) then acc.1.map fun x => if x.1 = u then (u, x.2 + 1) else x
                else acc.1 ++ [(u, 1)], acc.2 - d.coins.classes[c].value)
             else acc)))

/-- R86: AMEND CREDIT LIMIT takes a limit from 1 to 65,535 not below the balance with no coin in flight, and the mask
is recomputed when it changed; otherwise RANGE or BUSY. R113: SET TUBE COUNT with the engine idle writes the count,
answers with the old one, and the mask is recomputed when it changed; RANGE above the capacity, BUSY while the engine
runs. -/
def Obligations.CreditLimitAndTubeCount : Prop :=
  (∀ (s : State) (m : Nat), s.taking →
      (1 ≤ m → m ≤ 65535 → s.dev.credit.balance ≤ m → s.dev.coins.inFlight = none →
        let d := { s.dev with credit := { s.dev.credit with maxCredit := m } }
        exec (.amendCreditLimit m) s = .next ((s.withDev (if m = s.dev.credit.maxCredit then s.dev else
          d.recomputeMask)).replied .ok [])) ∧
      ((m = 0 ∨ 65535 < m ∨ m < s.dev.credit.balance) → exec (.amendCreditLimit m) s = .next (s.replied .range [])) ∧
      (1 ≤ m → m ≤ 65535 → s.dev.credit.balance ≤ m → s.dev.coins.inFlight.isSome = true →
        exec (.amendCreditLimit m) s = .next (s.replied .busy []))) ∧
  (∀ (s : State) (tube : Fin 6) (n : Nat), s.taking →
      let r := s.dev.payout.tubes[tube]
      let d := { s.dev with payout := { s.dev.payout with tubes := put s.dev.payout.tubes tube { r with count := n } } }
      (n ≤ r.capacity → s.dev.payout.idle = true →
        exec (.setTubeCount tube.val n) s = .next ((s.withDev (if n = r.count then s.dev else d.recomputeMask)).replied
          .ok (u8 r.count))) ∧
      (r.capacity < n → exec (.setTubeCount tube.val n) s = .next (s.replied .range [])) ∧
      (n ≤ r.capacity → s.dev.payout.idle = false → exec (.setTubeCount tube.val n) s = .next (s.replied .busy [])))

/-- R88, R115: REFUND with money uncommitted, the engine idle and no coin in flight makes a REFUND plan of that amount
from the change plan with its like-coin pass; R122: DISPENSE makes a plan of one line. No balance changes. -/
def Obligations.RefundAndDispenseMakeAPlan : Prop :=
  ∀ s : State, s.taking → s.dev.payout.idle = true → s.dev.coins.inFlight = none →
    (s.dev.credit.committed < s.dev.credit.balance →
      let u := s.dev.credit.balance - s.dev.credit.committed
      let plan := s.dev.changePlan true u
      ∃ t p, exec .refund s = .next t ∧ t.port = (s.replied .accepted (u16 u ++ u16 (u - plan.2))).port ∧
        t.dev.credit = { s.dev.credit with pending := .no } ∧ t.dev.payout.plan = some p ∧ p.kind = .refund ∧
        p.requested = .amount u ∧ p.lines.map (fun l => (l.tube, l.planned)) = plan.1 ∧
        (∀ l ∈ p.lines, l.paid = 0 ∧ l.state = .opened) ∧ p.paid = 0 ∧ p.overpaid = 0 ∧
        (∀ tube : Fin 6, t.dev.payout.tubes[tube].count = s.dev.payout.tubes[tube].count ∧
          t.dev.payout.tubes[tube].planned = s.dev.payout.tubes[tube].planned +
            ((plan.1.filter (·.1 = tube)).map (·.2)).sum) ∧
        (plan.1 = [] → p.state = .ended ∧ p.result = some .short ∧ t.dev.conditions.has .payoutEnded = true) ∧
        (plan.1 ≠ [] → (p.state = .waitLoad ∨ p.state = .ejecting) ∧ p.result = none ∧ t.dev.coins.mask = 0#8 ∧
          payoutClaim ∈ t.dev.load.grants ++ t.dev.load.waiters) ∧
        s.dev.changesOnly moneyParts t.dev) ∧
    (∀ (tube : Fin 6) (n : Nat), s.dev.credit.pending = .no → 1 ≤ n → n ≤ 250 →
      s.dev.payout.tubes[tube].state = .ready → n + s.dev.payout.tubes[tube].planned ≤ s.dev.payout.tubes[tube].count →
      ∃ t p, exec (.dispense tube.val n) s = .next t ∧ t.port = (s.replied .accepted []).port ∧
        t.dev.credit = s.dev.credit ∧ t.dev.payout.plan = some p ∧ p.kind = .dispense ∧ p.requested = .coins tube n ∧
        p.lines = [{ tube := tube, planned := n, paid := 0, state := .opened }] ∧ p.paid = 0 ∧
        (p.state = .waitLoad ∨ p.state = .ejecting) ∧ t.dev.coins.mask = 0#8 ∧
        payoutClaim ∈ t.dev.load.grants ++ t.dev.load.waiters ∧ s.dev.changesOnly (.coins :: grantParts) t.dev)

/-- R96: AMEND CLASS writes the named value and enabled mark and the mask is recomputed; R97: CLEAR CASHBOX answers
with the eight counts and sets them to 0. Nothing else changes. That AMEND CLASS may name neither field is the model's
(log 10). -/
def Obligations.AmendClassAndClearCashbox : Prop :=
  ∀ s : State, s.taking →
    (∀ (c : Fin 8) (a : ClassAmend), named 1 10000 a.value → named 0 1 a.enabled →
      (∀ v, a.value = some v → v ≠ s.dev.coins.classes[c].value → s.dev.payout.idle = true) →
      exec (.amendClass c.val a) s = .next ((s.withDev (Device.recomputeMask { s.dev with coins := { s.dev.coins with
        classes := put s.dev.coins.classes c
          { value := a.value.getD s.dev.coins.classes[c].value,
            enabled := match a.enabled with
                       | some 0 => false
                       | some _ => true
                       | none => s.dev.coins.classes[c].enabled } } })).replied .ok [])) ∧
    (exec .clearCashbox s = .next ((s.withDev { s.dev with coins := { s.dev.coins with
      cashbox := Vector.replicate 8 0 } }).replied .ok (s.dev.coins.cashbox.toList.flatMap u16)))

/-- R112: AMEND TUBE writes the binding, the capacity and the state that follow, and naming READY clears the last
fault; the mask is recomputed when binding, state or capacity changed. -/
def Obligations.AmendTubeSetsBindingAndState : Prop :=
  ∀ (s : State) (tube : Fin 6) (a : TubeAmend) (b : Option (Fin 8)), s.taking →
    let r := s.dev.payout.tubes[tube]
    (a.boundClass = none ∧ b = r.boundClass ∨ a.boundClass = some (b.map (·.val))) →
    named 1 250 a.capacity → (∀ v, a.capacity = some v → r.count ≤ v) →
    (a.state = none ∨ a.state = some 0 ∨ a.state = some 2) →
    (s.dev.payout.idle = true ∨ (a.boundClass = none ∧ a.state = none ∧ r.boundClass.isSome = true)) →
    (b ≠ r.boundClass → ∀ u c, b = some c → u ≠ tube → s.dev.payout.tubes[u].boundClass ≠ some c) →
    (r.boundClass.isSome = true → b.isSome = true → b ≠ r.boundClass → r.count = 0) →
    (a.state = some 0 → b.isSome = true) →
    let r' : Tube :=
      { r with boundClass := b, capacity := a.capacity.getD r.capacity,
               state := if b = none then .disabled
                        else if a.state = some 0 then .ready
                        else if a.state = some 2 then .disabled
                        else if r.boundClass = none then .ready
                        else r.state,
               lastFault := if a.state = some 0 then none else r.lastFault }
    let d := { s.dev with payout := { s.dev.payout with tubes := put s.dev.payout.tubes tube r' } }
    exec (.amendTube tube.val a) s = .next ((s.withDev (if r'.boundClass = r.boundClass ∧ r'.state = r.state ∧
      r'.capacity = r.capacity then d else d.recomputeMask)).replied .ok [])

/-! ### Zones, compressor, scanner, inputs, load -/

/-- R133, R135: AMEND ZONE with enabled, hold chilled, allowance and interval unchanged writes its settings and the
charge and does nothing else; R135: a new hold chilled makes a hold sweep, a new allowance a spoil check, a new
interval already reached makes a defrost due, which R130 enters from SATISFIED or CALLING; R134: enabling makes the zone SATISFIED with time since defrost counting from 0,
disabling makes it OFF with no defrost, drip or due mark; each sweeps the zone's lanes as R137 decides. The clock is
the model's (log 1, 2). -/
def Obligations.AmendZoneWritesAndSwitches : Prop :=
  ∀ (s : State) (z : Fin 2), s.taking →
    let r := s.dev.zones[z]
    (∀ a : ZoneAmend,
      (a.enabled = none ∨ a.enabled = some (if r.set.enabled then 0 else 1)) → namedT (-50) 150 a.setPoint →
      namedT 5 50 a.differential → namedT (-20) 250 a.warmLimit →
      (a.holdChilled = none ∨ a.holdChilled = some r.set.holdChilled.toNat) →
      (a.allowance = none ∨ (a.allowance = some r.set.allowance ∧ 1 ≤ r.set.allowance ∧ r.set.allowance ≤ 240)) →
      (a.defrostInterval = none ∨ (a.defrostInterval = some r.set.defrostInterval ∧ r.set.defrostInterval ≤ 24)) →
      namedT 10 150 a.defrostEnd → named 10 60 a.defrostMax → named 0 240 a.powerLossCharge →
      a.setPoint.getD r.set.setPoint < a.warmLimit.getD r.set.warmLimit →
      exec (.amendZone z.val a) s = .next ((s.withDev { s.dev with
        powerLossCharge := a.powerLossCharge.getD s.dev.powerLossCharge
        zones := put s.dev.zones z { r with set := { r.set with
          setPoint := a.setPoint.getD r.set.setPoint, differential := a.differential.getD r.set.differential,
          warmLimit := a.warmLimit.getD r.set.warmLimit, defrostEnd := a.defrostEnd.getD r.set.defrostEnd,
          defrostMax := a.defrostMax.getD r.set.defrostMax } } }).replied .ok [])) ∧
    (r.set.setPoint < r.set.warmLimit →
      (∀ v : Bool, v ≠ r.set.holdChilled →
        ∃ t, exec (.amendZone z.val ⟨none, none, none, none, some v.toNat, none, none, none, none, none⟩) s = .next t ∧
          t.port = (s.replied .ok []).port ∧
          t.dev.zones = put s.dev.zones z { r with set := { r.set with holdChilled := v } } ∧
          (∀ n l, s.dev.lane? n = some l →
            let held := match l.laneClass with
                        | .ambient => false
                        | .chilled => r.state = .off || (r.warm && v)
                        | .perishable => r.state = .off || r.warm || r.state = .probeFault
            t.dev.lane? n = some (if l.zone = z then { l with held := held } else l) ∧
              (l.zone = z → held ≠ l.held → t.dev.table.changed[n] = true)) ∧
          s.dev.changesOnly [.table, .conditions, .zones] t.dev) ∧
      (∀ v, 1 ≤ v → v ≤ 240 → v ≠ r.set.allowance →
        ∃ t, exec (.amendZone z.val ⟨none, none, none, none, none, some v, none, none, none, none⟩) s = .next t ∧
          t.port = (s.replied .ok []).port ∧
          t.dev.zones = put s.dev.zones z { r with set := { r.set with allowance := v } } ∧
          (∀ n l, s.dev.lane? n = some l →
            let spoils := l.zone = z ∧ l.laneClass = .perishable ∧ v ≤ r.exposure - l.baseline
            t.dev.lane? n = some (if spoils then { l with spoiled := true } else l) ∧
              (spoils → l.spoiled = false → t.dev.table.changed[n] = true)) ∧
          s.dev.changesOnly [.table, .conditions, .zones] t.dev) ∧
      (∀ v, v ≤ 24 → v ≠ r.set.defrostInterval →
        let set := { r.set with defrostInterval := v }
        let a : ZoneAmend := ⟨none, none, none, none, none, none, some v, none, none, none⟩
        let reached : Prop := v ≠ 0 ∧ v * 60 ≤ r.sinceDefrost
        (¬ reached → r.defrostDue = false → exec (.amendZone z.val a) s = .next ((s.withDev { s.dev with
          zones := put s.dev.zones z { r with set := set } }).replied .ok [])) ∧
        (reached → r.state ≠ .satisfied → r.state ≠ .calling →
          exec (.amendZone z.val a) s = .next ((s.withDev { s.dev with
            zones := put s.dev.zones z { r with set := set, defrostDue := true } }).replied .ok [])) ∧
        (reached → (r.state = .satisfied ∨ r.state = .calling) →
          ∃ t, exec (.amendZone z.val a) s = .next t ∧ t.port = (s.replied .ok []).port ∧
            t.dev.zones[z].set = set ∧ t.dev.zones[z].state = .defrost ∧ t.dev.zones[z].defrostDue = false ∧
            { who := .heater z, units := 1, job := none } ∈ t.dev.load.grants ++ t.dev.load.waiters ∧
            s.dev.changesOnly grantParts t.dev))) ∧
    (∀ on : Bool, r.set.enabled = !on → r.set.setPoint < r.set.warmLimit → (on = true → r.state = .off) →
      ∃ t, exec (.amendZone z.val ⟨some (if on then 0 else 1), none, none, none, none, none, none, none, none, none⟩) s =
          .next t ∧
        t.port = (s.replied .ok []).port ∧ t.dev.zones[z].set = { r.set with enabled := on } ∧
        t.dev.zones[z].state = (if on then .satisfied else .off) ∧ t.dev.zones[z].exposure = r.exposure ∧
        t.dev.zones[z].warm = r.warm ∧ t.dev.zones[z].sinceDefrost = 0 ∧
        t.dev.zones[z].sinceTimer = (if on then some (s.dev.now + 60000) else none) ∧
        (on = false → (r.state = .defrost → t.dev.zones[z].defrost = none) ∧ t.dev.zones[z].dripTimer = none ∧
          t.dev.zones[z].defrostDue = false) ∧
        (∀ n l, s.dev.lane? n = some l → t.dev.lane? n = some (if l.zone = z then
          { l with held := match l.laneClass with
                           | .ambient => false
                           | .chilled => !on || (r.warm && r.set.holdChilled)
                           | .perishable => !on || r.warm } else l)) ∧
        s.dev.changesOnly (.table :: .conditions :: grantParts) t.dev)

/-- R141, R130, R131: START DEFROST's checks in order, and the entry of DEFROST within the event: due cleared, time
since defrost 0, the end temperature and maximum fixed, the heater's unit claimed. -/
def Obligations.StartDefrostChecksAndEnters : Prop :=
  ∀ (s : State), s.taking →
    (∀ zone, 2 ≤ zone → exec (.startDefrost zone) s = .next (s.replied .range [])) ∧
    (∀ z : Fin 2,
      let r := s.dev.zones[z]
      (r.set.enabled = false → exec (.startDefrost z.val) s = .next (s.replied .notAllowed [])) ∧
      (r.set.enabled = true → (r.state = .defrost ∨ r.state = .drip) →
        exec (.startDefrost z.val) s = .next (s.replied .busy [])) ∧
      (r.set.enabled = true → r.state = .probeFault → exec (.startDefrost z.val) s = .next (s.replied .notAllowed [])) ∧
      (r.set.enabled = true → (r.state = .satisfied ∨ r.state = .calling) →
        ∃ t f, exec (.startDefrost z.val) s = .next t ∧ t.port = (s.replied .accepted []).port ∧
          t.dev.zones[z].state = .defrost ∧ t.dev.zones[z].sinceDefrost = 0 ∧ t.dev.zones[z].defrostDue = false ∧
          t.dev.zones[z].sinceTimer = none ∧ t.dev.zones[z].defrost = some f ∧ f.endTemp = r.set.defrostEnd ∧
          f.maxMinutes = r.set.defrostMax ∧
          { who := .heater z, units := 1, job := none } ∈ t.dev.load.grants ++ t.dev.load.waiters ∧
          s.dev.changesOnly grantParts t.dev))

/-- R154: CLEAR LOCKOUT is NOT_ALLOWED except in LOCKED_OUT; it sets the failures to 0 and RESTING without restarting
the rest, and goes on to IDLE, and to a start when demanded and cool, if the rest has elapsed; the alarm is kept, and
CLEAR CONDITIONS does not touch the compressor. -/
def Obligations.ClearLockoutLeavesTheRest : Prop :=
  ∀ s : State, s.taking →
    let c := s.dev.compressor
    (c.state ≠ .lockedOut → exec .clearLockout s = .next (s.replied .notAllowed [])) ∧
    (c.state = .lockedOut → c.restElapsed = false →
      exec .clearLockout s = .next ((s.withDev { s.dev with
        compressor := { c with failures := 0, state := .resting } }).replied .ok [])) ∧
    (c.state = .lockedOut → c.restElapsed = true → (c.demand && c.cool) = false →
      exec .clearLockout s = .next ((s.withDev { s.dev with
        compressor := { c with failures := 0, state := .idle } }).replied .ok [])) ∧
    (c.state = .lockedOut → c.restElapsed = true → c.demand = true → c.cool = true →
      ∃ t, exec .clearLockout s = .next t ∧ t.port = (s.replied .ok []).port ∧ t.dev.compressor.failures = 0 ∧
        (t.dev.compressor.state = .waiting ∨ t.dev.compressor.state = .starting) ∧
        t.dev.compressor.lastAlarm = c.lastAlarm ∧ compressorClaim ∈ t.dev.load.grants ++ t.dev.load.waiters ∧
        s.dev.changesOnly grantParts t.dev) ∧
    (∀ named : Word16, ∃ t, exec (.clearConditions named) s = .next t ∧ t.dev.compressor = c)

/-- R163: READ SAMPLE's check, its reply (its layout is log 9), and its flags: the sample is kept and both flags become no; a store after
the read finds fresh no, a store before it sets overwritten when the sample before was fresh; and every step keeps an
empty mailbox with both flags no. -/
def Obligations.ReadSampleClearsTheFlags : Prop :=
  (∀ (s : State) (channel : Nat), s.taking → 8 ≤ channel →
    exec (.readSample channel) s = .next (s.replied .range [])) ∧
  (∀ (s : State) (c : Fin 8), s.taking →
    let m := s.dev.scanner.boxes[c]
    exec (.readSample c.val) s = .next ((s.withDev { s.dev with scanner := { s.dev.scanner with
        boxes := put s.dev.scanner.boxes c { sample := m.sample, fresh := false, overwritten := false } } }).replied .ok
      ((if c = 5 ∨ c = 6 then unsignedBytes m.sample else probeBytes m.sample) ++ yesNo m.fresh ++ yesNo m.overwritten ++
        (if c = 5 ∨ c = 6 then [] else
          u8 (curveCode s.dev.scanner.setups[c].curve) ++ i16 s.dev.scanner.setups[c].offset) ++
        (if c = 7 then yesNo s.dev.scanner.setups[c].enabled else [])))) ∧
  (∀ (m : Mailbox) (x : Sample), m.store x = { sample := some x, fresh := true, overwritten := m.overwritten || m.fresh } ∧
    (m.seen.store x).overwritten = false) ∧
  (∀ s t : State, s.dev.emptyBoxesClear → step s = .next t → t.dev.emptyBoxesClear)

/-- R164: SCAN NOW is BUSY while a pass runs, and otherwise clears every mailbox's flags, keeps their samples, and
starts a pass: with channel 0's conversion when the converter is free and no priority conversion waits, and otherwise
when the converter comes to it. R157 to R159: the period timer starts a pass in the same way, or leaves one pending
while a pass runs; the priority timer asks for a channel 6 conversion, at once when the converter is free. That a
pass waiting for the converter stands as the pending one, and that waiting priority conversions are counted, is log
18. The clock is the model's (log 1, 2). -/
def Obligations.ScansStartAndGoOn : Prop :=
  (∀ s : State, s.taking →
      let c := s.dev.scanner
      let seen := mapAll (fun m : Mailbox => { m with fresh := false, overwritten := false }) c.boxes
      (c.pass.isSome = true → exec .scanNow s = .next (s.replied .busy [])) ∧
      (c.pass = none → c.converting = none → c.priorityWaiting = 0 →
        exec .scanNow s = .next ((s.withDev { s.dev with scanner := { c with
          boxes := seen, pass := some 0, passPending := false
          converting := some { channel := 0, source := .pass, ends := s.dev.now + 2 } } }).replied .accepted [])) ∧
      (c.pass = none → c.converting.isSome = true →
        exec .scanNow s = .next ((s.withDev { s.dev with scanner := { c with
          boxes := seen, passPending := true } }).replied .accepted [])) ∧
      (c.pass = none → c.converting = none → 0 < c.priorityWaiting →
        exec .scanNow s = .next ((s.withDev { s.dev with scanner := { c with
          boxes := seen, passPending := true, priorityWaiting := c.priorityWaiting - 1
          converting := some { channel := 6, source := .priority, ends := s.dev.now + 2 } } }).replied .accepted []))) ∧
  (∀ (s : State) (due : Nat), s.awake →
      let c := s.dev.scanner
      let now := max s.dev.now due
      (c.periodTimer = some due →
        (c.converting.isSome = true → exec .periodTimer s = .next (s.withDev { s.dev with
          now := now, scanner := { c with periodTimer := some (due + c.period), passPending := true } })) ∧
        (c.pass = none → c.converting = none → c.priorityWaiting = 0 →
          exec .periodTimer s = .next (s.withDev { s.dev with now := now, scanner := { c with
            periodTimer := some (due + c.period), pass := some 0, passPending := false
            converting := some { channel := 0, source := .pass, ends := now + 2 } } }))) ∧
      (c.priorityTimer = some due →
        (c.converting.isSome = true → exec .priorityTimer s = .next (s.withDev { s.dev with
          now := now, scanner := { c with priorityTimer := some (due + 10), priorityWaiting := c.priorityWaiting + 1 } })) ∧
        (c.converting = none → c.priorityWaiting = 0 →
          exec .priorityTimer s = .next (s.withDev { s.dev with now := now, scanner := { c with
            priorityTimer := some (due + 10)
            converting := some { channel := 6, source := .priority, ends := now + 2 } } }))))

/-- R165: AMEND CHANNEL writes the settings a channel carries; disabling channel 7 empties its mailbox; a setting it
does not carry is NOT_ALLOWED. That disabling it again keeps the mailbox is the model's choice (log 18). -/
def Obligations.AmendChannelWritesItsSettings : Prop :=
  ∀ (s : State) (c : Fin 8) (a : ChannelAmend), s.taking →
    named 0 1 a.curve → namedT (-50) 50 a.offset → named 0 1 a.enabled →
    let old := s.dev.scanner.setups[c]
    let new : ChannelSetup :=
      { curve := (a.curve.bind curveOf).getD old.curve, offset := a.offset.getD old.offset,
        enabled := (a.enabled.bind yesNoOf).getD old.enabled }
    let setups := put s.dev.scanner.setups c new
    (((a.curve.isSome = true ∨ a.offset.isSome = true) ∧ (c = 5 ∨ c = 6)) ∨ (a.enabled.isSome = true ∧ c ≠ 7) →
      exec (.amendChannel c.val a) s = .next (s.replied .notAllowed [])) ∧
    (¬ ((a.curve.isSome = true ∨ a.offset.isSome = true) ∧ (c = 5 ∨ c = 6)) → (a.enabled.isSome = true → c = 7) →
      (¬ (c = 7 ∧ old.enabled = true ∧ new.enabled = false) →
        exec (.amendChannel c.val a) s = .next ((s.withDev { s.dev with scanner := { s.dev.scanner with
          setups := setups } }).replied .ok [])) ∧
      (c = 7 ∧ old.enabled = true ∧ new.enabled = false → s.dev.scanner.pass ≠ some 7 →
        exec (.amendChannel c.val a) s = .next ((s.withDev { s.dev with scanner := { s.dev.scanner with
          setups := setups
          boxes := put s.dev.scanner.boxes 7 { sample := none, fresh := false, overwritten := false } } }).replied
            .ok [])))

/-- R168, R167: AMEND INPUT writes the reference and judges the state at once against the debounced level; a change of
state raises INPUT_CHANGED; the line, the debounce count and the other inputs stand. -/
def Obligations.AmendInputJudgesTheState : Prop :=
  ∀ (s : State) (i : InputName) (l : Level), s.taking →
    let r := s.dev.inputs[inputIndex i]
    let st : InputState := if r.debounced = some l then .onRef else .offRef
    ∃ t, exec (.amendInput (inputIndex i).val (levelCode l)) s = .next t ∧ t.port = (s.replied .ok []).port ∧
      t.dev.inputs = put s.dev.inputs (inputIndex i) { r with reference := l, state := st } ∧
      (st ≠ r.state → t.dev.conditions.has .inputChanged = true ∧ s.dev.changesOnly (.inputs :: saleParts) t.dev) ∧
      (st = r.state → s.dev.changesOnly [.inputs] t.dev)

/-- R177, R174: AMEND LOAD writes settings within their ranges with the resulting critical threshold at least 1.0 V
below the low one and the granted units within the budget; without a raised budget nothing else changes; a raised one
makes the grant test, after which a waiting head does not fit or the band is not NORMAL. -/
def Obligations.AmendLoadWritesAndTests : Prop :=
  ∀ (s : State) (a : LoadAmend), s.taking → named 4 8 a.budget → named 180 240 a.lowThreshold →
    (∀ v, a.criticalThreshold = some v → 150 ≤ v) →
    let set : LoadSettings :=
      { budget := a.budget.getD s.dev.load.set.budget, lowThreshold := a.lowThreshold.getD s.dev.load.set.lowThreshold,
        criticalThreshold := a.criticalThreshold.getD s.dev.load.set.criticalThreshold }
    (set.lowThreshold < set.criticalThreshold + 10 → exec (.amendLoad a) s = .next (s.replied .range [])) ∧
    (set.criticalThreshold + 10 ≤ set.lowThreshold → set.budget < s.dev.load.granted →
      exec (.amendLoad a) s = .next (s.replied .busy [])) ∧
    (set.criticalThreshold + 10 ≤ set.lowThreshold → s.dev.load.granted ≤ set.budget →
      (set.budget ≤ s.dev.load.set.budget →
        exec (.amendLoad a) s = .next ((s.withDev { s.dev with load := { s.dev.load with set := set } }).replied .ok [])) ∧
      (s.dev.load.set.budget < set.budget →
        ∃ t, exec (.amendLoad a) s = .next t ∧ t.port = (s.replied .ok []).port ∧ t.dev.load.set = set ∧
          t.dev.load.band = s.dev.load.band ∧
          t.dev.load.grants ++ t.dev.load.waiters = s.dev.load.grants ++ s.dev.load.waiters ∧
          t.dev.load.granted ≤ set.budget ∧
          (s.dev.load.band = .normal → ∀ c, t.dev.load.waiters.head? = some c →
            set.budget < t.dev.load.granted + c.units) ∧
          s.dev.changesOnly grantParts t.dev))

/-! ### The record port -/

/-- R183, R184: ATTN is asserted while a latched condition is not masked; AMEND MASK takes the mask named; CLEAR
CONDITIONS clears the conditions named and answers with the set before; a raise after it latches again. Nothing else
changes. -/
def Obligations.ConditionsClearMaskAndAttn : Prop :=
  (∀ c : Conditions, c.attn = true ↔ ∃ k : Condition, c.latched.getLsbD k.bit = true ∧ c.mask.getLsbD k.bit = false) ∧
  (∀ (c : Conditions) (k m : Condition), ((c.raise k).latched.getLsbD m.bit = true ↔ m = k ∨ c.latched.getLsbD m.bit = true) ∧
    (c.raise k).mask = c.mask) ∧
  (∀ (s : State) (mask : Word16), s.taking →
    exec (.amendMask mask) s = .next ((s.withDev { s.dev with conditions := { s.dev.conditions with
      mask := mask } }).replied .ok [])) ∧
  (∀ (s : State) (w : Word16), s.taking →
    exec (.clearConditions w) s = .next ((s.withDev { s.dev with conditions := { s.dev.conditions with
      latched := s.dev.conditions.latched &&& ~~~w } }).replied .ok (u16 s.dev.conditions.latched.toNat)))

/-- R186, R188: SAVE IMAGE is BUSY while a save writes, and otherwise takes the snapshot; each acknowledged page is
stored at its place, the last one ends the save OK; an unacknowledged page is retried once after 10 ms, and then ends
the save FAILED. Outside the page every byte of the memory reads as before. The image's 60
pages and their bytes are log 7, what a page left unwritten holds log 8, the clock log 2. -/
def Obligations.SaveImageWritesPageByPage : Prop :=
  (∀ s : State, s.taking → s.port.save.isSome = true → exec .saveImage s = .next (s.replied .busy [])) ∧
  (∀ s : State, s.taking → s.port.save = none →
    exec .saveImage s = .next (({ s with port := { s.port with
      save := some { image := imageOf s.dev, page := 0, attempt := .first, retryTimer := none }
      saveMarker := true } }).replied .accepted [])) ∧
  (∀ (s : State) (j : SaveJob), s.port.save = some j → j.retryTimer = none → s.mem.wf = true →
    ∃ t, exec (.savePageWritten true) s = .next t ∧
      (∀ a, t.mem.read a =
        if j.page * 32 ≤ a ∧ a < j.page * 32 + 32 ∧ a < j.image.length then j.image.getD a 0#8 else s.mem.read a) ∧
      (j.page + 1 < 60 → t.dev = s.dev ∧
        t.port = { s.port with save := some { j with page := j.page + 1, attempt := .first } }) ∧
      (60 ≤ j.page + 1 → t.dev = s.dev.raise .saveEnded ∧
        t.port = { s.port with save := none, saveMarker := false, lastSave := some .ok })) ∧
  (∀ (s : State) (j : SaveJob), s.port.save = some j → j.retryTimer = none →
    (j.attempt = .first → exec (.savePageWritten false) s = .next { s with port := { s.port with
      save := some { j with attempt := .retry, retryTimer := some (s.dev.now + 10) } } }) ∧
    (j.attempt = .retry → exec (.savePageWritten false) s = .next { s with
      dev := s.dev.raise .saveEnded
      port := { s.port with save := none, saveMarker := false, lastSave := some .failed } })) ∧
  (∀ (s : State) (j : SaveJob) (due : Nat), s.port.save = some j → j.retryTimer = some due →
    exec .saveRetryTimer s = .next { s with
      dev := { s.dev with now := max s.dev.now due }
      port := { s.port with save := some { j with retryTimer := none } } })

/-- R186: a saved lane, tube, zone, class, channel and compressor record read back is the record, but for what is not
saved: reserved units, planned coins, a tube's last fault, a zone's state. The byte layout is log 7. -/
def Obligations.SavedRecordsReadBack : Prop :=
  (∀ (d : Device) (n : Fin 64) (l : Lane) (rest : List Byte), d.lane? n = some l →
    l.product < 65536 → l.price < 65536 → l.capacity < 256 → l.stock < 256 → l.turns < 256 → l.extraTurns < 256 →
    l.baseline < 65536 → l.jams < 256 → l.sales < 65536 → (∀ v, l.lastTurn = some v → 0 < v ∧ v < 65536) →
    getSlot (slotImage d n ++ rest) = (some { l with reserved := 0 }, rest)) ∧
  (∀ (d : Device) (n : Fin 64) (rest : List Byte), d.lane? n = none → getSlot (slotImage d n ++ rest) = (none, rest)) ∧
  (∀ (r : Tube) (rest : List Byte), r.capacity < 256 → r.count < 256 →
    getTube (tubeImage r ++ rest) = ({ r with planned := 0, lastFault := none }, rest)) ∧
  (∀ (r : Zone) (rest : List Byte), -32768 ≤ r.set.setPoint → r.set.setPoint < 32768 → -32768 ≤ r.set.differential →
    r.set.differential < 32768 → -32768 ≤ r.set.warmLimit → r.set.warmLimit < 32768 → r.set.allowance < 65536 →
    r.set.defrostInterval < 65536 → -32768 ≤ r.set.defrostEnd → r.set.defrostEnd < 32768 → r.set.defrostMax < 65536 →
    r.exposure < 65536 →
    getZone (zoneImage r ++ rest) = ({ Zone.default with set := r.set, exposure := r.exposure }, rest)) ∧
  (∀ (d : Device) (c : Fin 8) (rest : List Byte), d.coins.classes[c].value < 65536 →
    getClass (classImage d c ++ rest) = (d.coins.classes[c], rest)) ∧
  (∀ (c : ChannelSetup) (rest : List Byte), -32768 ≤ c.offset → c.offset < 32768 →
    getChannel (channelImage c ++ rest) = (c, rest)) ∧
  (∀ (c : CompressorSettings) (rest : List Byte), c.minRest < 65536 → c.minRun < 65536 → c.startWindow < 65536 →
    -32768 ≤ c.hotLimit → c.hotLimit < 32768 → getCompressor (compressorImage c ++ rest) = (c, rest))

/-- R180, R190: a fetch is answered NOT_READY without a reply, and from READY with one; a reply clocked whole is read
and the buffer EMPTY, one cut short stays; RESTART is answered OK and runs 100 ms, and its reply read enters the
reset. The clock is log 1. -/
def Obligations.FetchReplyAndRestart : Prop :=
  (∀ (s : State) (n : Nat), s.port.reply = none →
    exec (.fetchReply n) s = .next { s with port := { s.port with
      miso := .answered ((0x5A#8 :: List.replicate n 0xFF#8).take n) } }) ∧
  (∀ (s : State) (n : Nat) (st : Status) (body : List Byte), s.port.reply = some ⟨st, body⟩ →
    let bytes := u8 (statusCode st) ++ u8 body.length ++ body
    let frame := 0xA5#8 :: bytes ++ [crc8 bytes]
    let sent := { s.port with miso := .answered ((frame ++ List.replicate n 0xFF#8).take n) }
    (n < body.length + 4 → exec (.fetchReply n) s = .next { s with port := sent }) ∧
    (body.length + 4 ≤ n → s.port.restartTimer = none →
      exec (.fetchReply n) s = .next { s with port := { sent with reply := none } }) ∧
    (body.length + 4 ≤ n → s.port.restartTimer.isSome = true →
      ∃ t, exec (.fetchReply n) s = .next t ∧ t.port.phase = .warmStartup ∧ t.port.reply = none ∧
        t.port.resetCause = .restart ∧ t.port.restartTimer = none ∧ t.port.miso = sent.miso)) ∧
  (∀ s : State, s.taking →
    exec .restart s = .next (({ s with port := { s.port with
      restartTimer := some (s.dev.now + 100) } }).replied .ok []))

/-- R190, R191, R21, R45, R72, R89, R108, R125, R143, R155, R178: the entry of a warm reset, by the RESET pin or 100
ms after RESTART: what it empties, what it keeps, RESTARTED alone latched, and R169's first counts; R130: a due
defrost, one cut short among them, is entered when warm start-up begins. R190: while the pin is low no event acts but
the lines' levels and, R152, the end of the fan's run-on; its release begins warm start-up. R181, R187, R191: a power-on starts every record at its power-on
value with the image memory standing. The end of start-up with the memory not answering leaves defaults with
POWERED_ON and IMAGE_FAULT latched; a header or CRC-16 that does not match gives DEFAULTS_FORMAT or DEFAULTS_CHECK; and
otherwise R187, R20, R142: the saved fields are taken, every lane's reserved is 0 and its fit check to be made, and
each zone's exposure takes the charge with its spoil check. R103, R108: the end of a warm start-up makes a marked
coin uncertain, CREDIT_CHANGED with it, and a marked save abandoned (R189); an IDENTIFY is sent. R185: a second is
counted. The model's: the clock (log 1, 2), no effect of a release without a hold (log 3), the power-on state and line levels
(log 4 to 6), the image's length, header, CRC place and field bytes (log 7), the blank memory (log 8), the held reset
and what follows it (log 12 to 14), no SET_MASK due (log 21), timers from STARTUP_END (log 24). -/
def Obligations.ResetsEmptyAndKeep : Prop :=
  ((∀ (s : State) (i : Instr),
      (i = .resetPin ∧ s.awake) ∨ (i = .restartTimeout ∧ s.port.restartTimer.isSome = true) →
      ∃ t, exec i s = .next t ∧
        t.port.phase = (if i = .resetPin then .heldInReset else .warmStartup) ∧
        t.port.resetCause = (if i = .resetPin then .resetPin else .restart) ∧ t.port.reply = none ∧
        t.port.save = none ∧ t.port.lastSave = s.port.lastSave ∧ t.port.saveMarker = s.port.saveMarker ∧
        t.port.imageStatus = s.port.imageStatus ∧ t.port.seconds = 0 ∧ t.port.restartTimer = none ∧ t.mem = s.mem ∧
        t.dev.conditions = { latched := 2#16, mask := 0#16 } ∧
        (∀ n, t.dev.lane? n = (s.dev.lane? n).map fun l =>
          { l with reserved := 0,
                   offHome := l.offHome || (s.dev.drive.energized = some n && s.dev.drive.camConfirmed = some .opened) }) ∧
        t.dev.table.stampCounter = s.dev.table.stampCounter ∧ t.dev.table.changed = Vector.replicate 64 false ∧
        t.dev.queue = { orders := [], state := .running, unitPos := .none } ∧
        t.dev.credit = { s.dev.credit with committed := 0, pending := .no } ∧
        t.dev.coins.link = .absent ∧ t.dev.coins.mask = 0#8 ∧ t.dev.coins.inFlight = none ∧
        t.dev.coins.marker = s.dev.coins.marker ∧ t.dev.coins.cashbox = s.dev.coins.cashbox ∧
        t.dev.coins.classes = s.dev.coins.classes ∧ t.dev.payout.plan = none ∧ t.dev.payout.strayCount = 0 ∧
        (∀ k : Fin 6, t.dev.payout.tubes[k] = { s.dev.payout.tubes[k] with planned := 0 }) ∧
        (∀ z : Fin 2,
          let r := s.dev.zones[z]
          let due := r.defrostDue = true ∨ r.state = .defrost
          let r' := t.dev.zones[z]
          r'.exposure = r.exposure ∧ r'.set = r.set ∧ r'.warm = r.warm ∧ r'.air = none ∧ r'.lastAlarm = r.lastAlarm ∧
          r'.state = (if r.set.enabled = false then .off
                      else if due ∧ i ≠ .resetPin then .defrost else .satisfied) ∧
          (i = .resetPin → r'.defrostDue = decide due ∧ r'.sinceDefrost = r.sinceDefrost) ∧
          (r'.state = .defrost → r'.defrostDue = false ∧ r'.sinceDefrost = 0 ∧
            { who := .heater z, units := 1, job := none } ∈ t.dev.load.grants ++ t.dev.load.waiters)) ∧
        t.dev.compressor.state = (if s.dev.compressor.state = .lockedOut then .lockedOut else .resting) ∧
        t.dev.compressor.failures = s.dev.compressor.failures ∧ t.dev.compressor.restElapsed = false ∧
        t.dev.compressor.fanTimer = (if s.dev.compressor.state = .starting ∨ s.dev.compressor.state = .running
          then some (t.dev.now + 60000) else s.dev.compressor.fanTimer) ∧
        t.dev.load.band = .normal ∧ t.dev.load.set = s.dev.load.set ∧ t.dev.powerLossCharge = s.dev.powerLossCharge ∧
        t.dev.drive.set = s.dev.drive.set ∧ t.dev.payout.set = s.dev.payout.set ∧
        t.dev.coins.pollPeriod = s.dev.coins.pollPeriod ∧ t.dev.compressor.set = s.dev.compressor.set ∧
        t.dev.scanner.setups = s.dev.scanner.setups ∧ t.dev.scanner.period = s.dev.scanner.period ∧
        (∀ i : Fin 4, t.dev.inputs[i] = { s.dev.inputs[i] with
          timer := if s.dev.inputs[i].timer.isSome ∨ s.dev.inputs[i].debounced = none then some (t.dev.now + 50)
                   else none }) ∧
        (∀ c ∈ t.dev.load.grants ++ t.dev.load.waiters, c.who = .drive ∨ ∃ z, c.who = .heater z) ∧
        (i = .resetPin → t.dev.now = s.dev.now ∧ t.dev.drive.active = none ∧ t.dev.drive.energized = none ∧
          t.dev.load.grants = [] ∧ t.dev.load.waiters = [])) ∧
    (∀ s : State, s.awake → exec .resetRelease s = .next s) ∧
    (∀ s : State, ¬ s.awake →
      (∃ t, exec .resetRelease s = .next t ∧ t.port.phase = .warmStartup ∧ t.port.resetCause = .resetPin ∧
        t.mem = s.mem ∧ t.dev.queue.orders = [] ∧
        (∀ n, (∀ m : Fin 64, m < n → ∀ l, s.dev.lane? m = some l → l.base ≠ .checking) →
          (∃ l, s.dev.lane? n = some l ∧ l.base = .checking) → t.dev.drive.active.map (·.job) = some (.fitCheck n)) ∧
        (∀ z : Fin 2, s.dev.zones[z].set.enabled = true → s.dev.zones[z].defrostDue = true →
          t.dev.zones[z].state = .defrost ∧
          { who := .heater z, units := 1, job := none } ∈ t.dev.load.grants ++ t.dev.load.waiters)) ∧
      (∀ i : Instr, s.port.save = none → s.port.restartTimer = none → ¬ isRequest i → i ≠ .powerOn → i ≠ .resetRelease →
        (∀ n, i ≠ .fetchReply n) → (∀ b, i ≠ .requestDiscarded b) → (∀ l, i ≠ .camLineEdge l) →
        (∀ k l, i ≠ .inputLineEdge k l) → (∀ l, i ≠ .confirmLineEdge l) → i ≠ .fanRunonTimer → exec i s = .next s))) ∧
  ((∀ s : State, ∃ t, exec .powerOn s = .next t ∧ t.port = Port.powerOn s.dev.now ∧ t.mem = s.mem ∧
      t.dev = { State.reset.dev with
                now := s.dev.now
                drive := { State.reset.dev.drive with camLine := s.dev.drive.camLine }
                compressor := { State.reset.dev.compressor with confirmLine := s.dev.compressor.confirmLine }
                inputs := t.dev.inputs } ∧
      ∀ i : Fin 4, t.dev.inputs[i] = { State.reset.dev.inputs[i] with line := s.dev.inputs[i].line }) ∧
    (∀ (s : State) (answers : Bool), s.port.phase = .powerOnStartup →
      let format := (s.mem.read 0).toNat ≠ 3 ∨ n16 (s.mem.read 1) (s.mem.read 2) ≠ 1908
      let sound := u16 (crc16 (s.mem.readAll 0 1906)).toNat = s.mem.readAll 1906 2
      ∃ t, exec (.startupEnd answers) s = .next t ∧ t.port.phase = .running ∧ t.mem = s.mem ∧
        t.port.imageStatus = (if answers = false then .defaultsAbsent else if format then .defaultsFormat
                              else if sound then .loaded else .defaultsCheck) ∧
        t.dev.conditions.has .poweredOn = true ∧ t.dev.queue.orders = [] ∧ t.dev.credit.balance = 0 ∧
        t.dev.scanner.pass = some 0 ∧ t.dev.coins.exchange.map (·.message) = some .identify ∧
        t.dev.compressor.restTimer = some (t.dev.now + 1000 * t.dev.compressor.set.minRest) ∧
        (t.port.imageStatus ≠ .loaded → t.dev.conditions.has .imageFault = true ∧ (∀ n, t.dev.lane? n = none) ∧
          t.dev.credit.maxCredit = 500 ∧ t.dev.load.grants = [] ∧
          t.dev.load.set = { budget := 5, lowThreshold := 210, criticalThreshold := 180 } ∧
          t.dev.compressor.set.minRest = 180 ∧ (∀ z : Fin 2, t.dev.zones[z].exposure = 0)) ∧
        (t.port.imageStatus = .loaded →
          let d := s.dev.powerOn.loadFields (s.mem.readAll 3 1903)
          t.dev.conditions.has .imageFault = s.dev.conditions.has .imageFault ∧
          t.dev.table.stampCounter = d.table.stampCounter ∧ t.dev.drive.set = d.drive.set ∧
          t.dev.payout.set = d.payout.set ∧ t.dev.payout.tubes = d.payout.tubes ∧
          t.dev.coins.pollPeriod = d.coins.pollPeriod ∧ t.dev.coins.classes = d.coins.classes ∧
          t.dev.coins.cashbox = d.coins.cashbox ∧ t.dev.credit.maxCredit = d.credit.maxCredit ∧
          t.dev.load.set = d.load.set ∧ t.dev.powerLossCharge = d.powerLossCharge ∧
          t.dev.compressor.set = d.compressor.set ∧ t.dev.scanner.setups = d.scanner.setups ∧
          t.dev.scanner.period = d.scanner.period ∧
          (∀ i : Fin 4, t.dev.inputs[i].reference = d.inputs[i].reference) ∧
          (∀ z : Fin 2, t.dev.zones[z].set = d.zones[z].set ∧
            t.dev.zones[z].state = (if d.zones[z].set.enabled then .satisfied else .off) ∧
            t.dev.zones[z].exposure = min 65535 (d.zones[z].exposure + d.powerLossCharge)) ∧
          (∀ n, t.dev.lane? n = (d.lane? n).map fun l =>
            { l with reserved := 0
                     base := (if l.base = .jammed ∨ l.base = .offline then l.base else .checking)
                     spoiled := l.spoiled || (l.laneClass = .perishable &&
                       t.dev.zones[l.zone].set.allowance ≤ t.dev.zones[l.zone].exposure - l.baseline) }))) ∧
    (∀ s : State, s.port.phase = .warmStartup → s.dev.credit.pending = .no →
      ∃ t, exec (.startupEnd true) s = .next t ∧ t.port.phase = .running ∧ t.port.imageStatus = s.port.imageStatus ∧
        t.mem = s.mem ∧ s.dev.changesOnly [.conditions, .coins, .scanner] t.dev ∧ t.dev.coins.marker = none ∧
        (∀ m, s.dev.coins.marker = some m →
          t.dev.coins.uncertain = some { coinClass := m.coinClass, value := m.value, route := m.route, routeState := none,
                                         cause := .reset } ∧
          t.dev.conditions.has .coinUncertain = true ∧ t.dev.conditions.has .creditChanged = true) ∧
        t.port.lastSave = (if s.port.saveMarker then some .abandoned else s.port.lastSave) ∧ t.port.saveMarker = false ∧
        (s.port.saveMarker = true → t.dev.conditions.has .saveEnded = true) ∧
        t.dev.coins.exchange.map (·.message) = some .identify) ∧
    (∀ (s : State) (due : Nat), s.awake → s.port.secondTimer = some due →
      exec .secondTick s = .next { s with
        dev := { s.dev with now := max s.dev.now due }
        port := { s.port with seconds := min 4294967295 (s.port.seconds + 1), secondTimer := some (due + 1000) } }))

/-! ### The drive's events -/

/-- R27 to R31: the cam line is timed while a lane is energized; a level held for 20 ms is the confirmed level; on a
TURNING unit drive an opening ends the departure check and starts the turn timer, R29: or, on an off-home turn,
counts from the energizing when it is confirmed within 20 ms of it; a closing after an opening counts a turn, records
its open time and goes on while turns are wanted. R31: a unit whose drop was seen is delivered; at the
last turn one without a drop check is delivered and enters WINDOW; R56, R60: with the delivery the next unit is posted,
or waits for closed gates, or the order ends DELIVERED; a REQUIRED one makes an extra turn while it may and then enters
WINDOW. R34: a motor-current sample from 50 ms on below 40 mA lengthens the run of low samples, R40: and one at or
above 40 mA for each motor marks a fit check's pulse. The clock and the cam's level are the model's (log 1, 2, 30), and so is that the cam line
takes its level under a held RESET too (log 13). -/
def Obligations.CamEdgesCountTurns : Prop :=
  (∀ (s : State) (level : CamLevel), level ≠ s.dev.drive.camLine →
    exec (.camLineEdge level) s = .next (s.withDev { s.dev with drive := { s.dev.drive with
      camLine := level
      camTimer := if s.dev.drive.energized.isSome ∧ s.dev.drive.camConfirmed ≠ some level then some (s.dev.now + 20)
                  else none } })) ∧
  (∀ (s : State) (due : Nat), s.awake → s.dev.drive.camTimer = some due →
    let now := max s.dev.now due
    let v := { s.dev.drive with camConfirmed := some s.dev.drive.camLine, camTimer := none }
    let limit := s.dev.drive.set.turnLimit * 100
    let window := s.dev.drive.set.dropWindow * 100
    ((∀ j, s.dev.drive.active = some j → j.phase ≠ .turning) →
      exec .camConfirm s = .next (s.withDev { s.dev with now := now, drive := v })) ∧
    (∀ j n tag, s.dev.drive.active = some j → j.phase = .turning → j.job = .unitDrive n tag →
      (s.dev.drive.camLine = .opened → j.departureTimer.isSome = true →
        exec .camConfirm s = .next (s.withDev { s.dev with now := now, drive := { v with
          active := some { j with departureTimer := none
                                  turnTimer := some (due + limit)
                                  openedAt := some due } } })) ∧
      (s.dev.drive.camLine = .opened → j.departureTimer = none → j.openedAt = none →
        exec .camConfirm s = .next (s.withDev { s.dev with now := now, drive := { v with
          active := some { j with openedAt := some (if j.offHomeTurn = true ∧ due ≤ j.energizedAt + 20
                                                    then j.energizedAt else due) } } })) ∧
      (∀ l opened, s.dev.drive.camLine = .closed → j.openedAt = some opened → s.dev.lane? n = some l →
        let l' := { l with lastTurn := some (max 1 (min 10000 (due - opened))), offHome := false }
        let k := { j with turnCount := j.turnCount + 1, turnTimer := some (due + limit), supplyMark := false
                          offHomeTurn := false, openedAt := none }
        (j.dropSeen = false → j.turnCount + 1 < j.turnTarget →
          exec .camConfirm s = .next (s.withDev (Device.setSlot n (some l')
            { s.dev with now := now, drive := { v with active := some k } }))) ∧
        (j.dropSeen = false → j.turnTarget ≤ j.turnCount + 1 → j.dropCheck = .required → j.extraCount < j.extraTurns →
          exec .camConfirm s = .next (s.withDev (Device.setSlot n (some l')
            { s.dev with now := now, drive := { v with
              active := some { k with extraCount := j.extraCount + 1, turnTarget := j.turnTarget + 1 } } }))) ∧
        (j.dropSeen = false → j.turnTarget ≤ j.turnCount + 1 → j.dropCheck = .required → j.extraTurns ≤ j.extraCount →
          s.dev.driveClaims →
          ∃ t, exec .camConfirm s = .next t ∧ t.dev.lane? n = some l' ∧ t.dev.drive.energized = none ∧
            t.dev.drive.active = some { k with phase := .window, turnTimer := none, closingTimer := some (due + window) } ∧
            t.dev.drive.rows = 0#8 ∧ t.dev.drive.cols = 0#8 ∧
            (∀ c ∈ t.dev.load.grants ++ t.dev.load.waiters, c.who ≠ .drive) ∧
            s.frame (.clock :: .table :: grantParts) t) ∧
        (∀ o, s.dev.queue.sound → s.dev.queue.current? = some o → o.tag = tag → o.lane = n →
          o.delivered + 1 < o.quantity → s.dev.drive.jobs = [] →
          (o.state = .halted ∨ s.dev.onRef .door = false ∨ s.dev.onRef .flap = false) →
          (j.dropSeen = true ∨ (j.turnTarget ≤ j.turnCount + 1 ∧ j.dropCheck = .notRequired)) → s.dev.driveClaims →
          ∃ t, exec .camConfirm s = .next t ∧
            t.dev.queue.find? tag = some { o with delivered := o.delivered + 1, charged := o.charged + o.price } ∧
            t.dev.queue.unitPos = .none ∧
            t.dev.lane? n = some { l' with stock := l.stock - 1, reserved := l.reserved - 1
                                           sales := min 65535 (l.sales + 1) } ∧
            t.dev.drive.energized = none ∧ t.dev.drive.rows = 0#8 ∧ t.dev.drive.cols = 0#8 ∧
            t.dev.drive.active = (if j.dropSeen then none
              else some { k with phase := .window, turnTimer := none, closingTimer := some (due + window) }) ∧
            (∀ c ∈ t.dev.load.grants ++ t.dev.load.waiters, c.who ≠ .drive) ∧
            s.frame (.clock :: saleParts) t) ∧
        (∀ o, s.dev.queue.sound → s.dev.queue.current? = some o → o.tag = tag → o.lane = n →
          o.delivered + 1 = o.quantity → s.dev.drive.jobs = [] →
          (s.dev.queue.state = .held ∨ o.holdAfter = true ∨ s.dev.queue.head? = none ∨ s.dev.onRef .door = false ∨
            s.dev.onRef .flap = false) →
          (j.dropSeen = true ∨ (j.turnTarget ≤ j.turnCount + 1 ∧ j.dropCheck = .notRequired)) → s.dev.driveClaims →
          ∃ t, exec .camConfirm s = .next t ∧
            t.dev.queue.find? tag = some { o with
              state := .delivered, delivered := o.quantity, charged := o.charged + o.price, residue := 0
              cause := some .completed } ∧
            t.dev.conditions.has .orderEnded = true ∧ t.dev.queue.current? = none ∧ t.dev.queue.unitPos = .none ∧
            t.dev.lane? n = some { l' with stock := l.stock - 1, reserved := l.reserved - 1
                                           sales := min 65535 (l.sales + 1) } ∧
            t.dev.drive.energized = none ∧ t.dev.drive.rows = 0#8 ∧ t.dev.drive.cols = 0#8 ∧ t.dev.drive.jobs = [] ∧
            t.dev.drive.active = (if j.dropSeen then none
              else some { k with phase := .window, turnTimer := none, closingTimer := some (due + window) }) ∧
            (∀ c ∈ t.dev.load.grants ++ t.dev.load.waiters, c.who ≠ .drive) ∧
            s.frame (.clock :: saleParts) t) ∧
        (∀ o, s.dev.queue.sound → s.dev.queue.current? = some o → o.tag = tag → o.lane = n → o.state = .driving →
          o.delivered + 1 < o.quantity → s.dev.drive.jobs = [] → s.dev.onRef .door = true → s.dev.onRef .flap = true →
          l.base = .inService → l.spoiled = false → l.held = false → l.reserved ≤ l.stock →
          (j.dropSeen = true ∨ (j.turnTarget ≤ j.turnCount + 1 ∧ j.dropCheck = .notRequired)) → s.dev.driveClaims →
          ∃ t, exec .camConfirm s = .next t ∧
            t.dev.queue.find? tag = some { o with delivered := o.delivered + 1, charged := o.charged + o.price } ∧
            t.dev.queue.unitPos = .posted ∧
            t.dev.lane? n = some { l' with stock := l.stock - 1, reserved := l.reserved - 1
                                           sales := min 65535 (l.sales + 1) } ∧
            (j.dropSeen = true → t.dev.drive.jobs = [] ∧
              ∃ u, t.dev.drive.active = some u ∧ u.job = .unitDrive n tag ∧ u.turnCount = 0 ∧ u.turnTarget = l.turns ∧
                u.dropSeen = false ∧ u.companion = l.companion ∧ (u.phase = .waitLoad ∨ u.phase = .turning) ∧
                unitClaim u.job l.companion ∈ t.dev.load.grants ++ t.dev.load.waiters) ∧
            (j.dropSeen = false → t.dev.drive.jobs = [.unitDrive n tag] ∧ t.dev.drive.energized = none ∧
              t.dev.drive.active =
                some { k with phase := .window, turnTimer := none, closingTimer := some (due + window) } ∧
              (∀ c ∈ t.dev.load.grants ++ t.dev.load.waiters, c.who ≠ .drive)) ∧
            s.frame (.clock :: saleParts) t)))) ∧
  (∀ (s : State) (k : Conversion) (j : ActiveJob) (reading : Nat), s.awake → s.dev.scanner.converting = some k →
    k.channel = 6 → s.dev.drive.active = some j →
    let run := if reading < 40 then j.lowRun + 1 else 0
    let motors := if j.companion.isSome then 2 else 1
    ∃ t, exec (.conversionEnd reading) s = .next t ∧
      (k.ends < j.energizedAt + 50 → t.dev.drive = s.dev.drive ∧ s.frame [.clock, .scanner] t) ∧
      (j.energizedAt + 50 ≤ k.ends → j.phase = .turning → run < 10 →
        t.dev.drive = { s.dev.drive with active := some { j with lowRun := run } } ∧
        s.frame [.clock, .scanner, .drive] t) ∧
      (j.energizedAt + 50 ≤ k.ends → j.phase = .turning → 10 ≤ run → j.dropSeen = false → j.supplyMark = false →
        ∀ o l, s.dev.queue.sound → s.dev.queue.current? = some o → j.job = .unitDrive o.lane o.tag →
        s.dev.lane? o.lane = some l → o.delivered < o.quantity →
        { o with state := if 0 < o.delivered then .partly else .failed
                 cause := some .motorOpen, residue := o.quantity - o.delivered } ∈ t.dev.queue.orders ∧
        (∃ l', t.dev.lane? o.lane = some l' ∧ l'.base = .noMotor ∧ l'.jams = l.jams ∧ l'.stock = l.stock) ∧
        t.dev.table.changed[o.lane] = true ∧ t.dev.conditions.has .orderEnded = true ∧ s.frame (.clock :: saleParts) t) ∧
      (j.energizedAt + 50 ≤ k.ends → j.phase = .pulse →
        t.dev.drive = { s.dev.drive with active := some { j with passSeen := j.passSeen || 40 * motors ≤ reading } } ∧
        s.frame [.clock, .scanner, .drive] t))

/-- R7, R33, R48, R58: the departure check or the turn timer of a TURNING unit with no drop seen expires: a JAM; the
order ends with cause JAM, PARTIAL or FAILED, and its lane is JAMMED with its jam count raised, in the changed-lanes
set. R6, R7, R32, R40, R58, R63: a drop window that closes on a REQUIRED unit is NO_DROP: the order ends, the lane's
stock is 0 and its QUEUED orders end SOLD_OUT; the end of a fit-check pulse puts a CHECKING lane IN_SERVICE or
NO_MOTOR. -/
def Obligations.StallsWindowsAndPulsesReport : Prop :=
  (∀ (s : State) (i : Instr) (j : ActiveJob) (o : Order) (l : Lane), s.awake → s.dev.queue.sound →
      s.dev.drive.active = some j → j.phase = .turning → j.job = .unitDrive o.lane o.tag → j.dropSeen = false →
      j.supplyMark = false → s.dev.queue.current? = some o → s.dev.lane? o.lane = some l →
      o.delivered < o.quantity →
      (i = .departureTimeout ∧ j.departureTimer.isSome = true) ∨ (i = .turnTimerExpiry ∧ j.turnTimer.isSome = true) →
      ∃ t l', exec i s = .next t ∧
        { o with state := if 0 < o.delivered then .partly else .failed
                 cause := some .jam, residue := o.quantity - o.delivered } ∈ t.dev.queue.orders ∧
        t.dev.lane? o.lane = some l' ∧ l'.base = .jammed ∧ l'.jams = min 255 (l.jams + 1) ∧ l'.stock = l.stock ∧
        t.dev.table.changed[o.lane] = true ∧ t.dev.conditions.has .orderEnded = true ∧
        t.dev.credit.balance = s.dev.credit.balance ∧ s.frame (.clock :: saleParts) t) ∧
  ((∀ (s : State) (j : ActiveJob) (o : Order) (l : Lane) (due : Nat), s.awake → s.dev.queue.sound →
      s.dev.drive.active = some j → j.phase = .window → j.closingTimer = some due → j.job = .unitDrive o.lane o.tag →
      j.dropCheck = .required → s.dev.queue.current? = some o → s.dev.lane? o.lane = some l → o.delivered < o.quantity →
      ∃ t l', exec .dropWindowExpiry s = .next t ∧
        { o with state := if 0 < o.delivered then .partly else .failed
                 cause := some .noDrop, residue := o.quantity - o.delivered } ∈ t.dev.queue.orders ∧
        t.dev.lane? o.lane = some l' ∧ l'.stock = 0 ∧ t.dev.table.changed[o.lane] = true ∧
        (∀ q ∈ s.dev.queue.orders, q.state = .queued → q.lane = o.lane →
          { q with state := .cancelled, cause := some .soldOut, residue := q.quantity - q.delivered }
            ∈ t.dev.queue.orders) ∧ s.frame (.clock :: saleParts) t) ∧
    (∀ (s : State) (j : ActiveJob) (n : Fin 64) (l : Lane) (due : Nat), s.awake → s.dev.drive.active = some j →
      j.phase = .pulse → j.pulseTimer = some due → j.job = .fitCheck n → s.dev.lane? n = some l → l.base = .checking →
      ∃ t l', exec .fitPulseEnd s = .next t ∧ t.dev.lane? n = some l' ∧
        l'.base = (if j.passSeen then .inService else .noMotor) ∧ l'.stock = l.stock ∧
        t.dev.table.changed[n] = true ∧ (s.dev.drive.jobs = [] → s.dev.queue.head? = none → t.dev.drive.active = none) ∧
        s.frame (.clock :: saleParts) t))

/-- R30, R37, R42, R57: every beam break is taken. With no open window it is a stray drop; in an open window it marks a
TURNING unit's drop (log 16: one in WAIT_LOAD too), ends the job of a unit already reported, and delivers a HALTED
unit or one in WINDOW: stock and reserved fall by 1, sales rise, the price is charged. R5, R57, R77: reserved and, for
CREDIT, committed fall by exactly that unit when no order ends or starts with it, and by more when another ending of
the event releases units. -/
def Obligations.BeamBreakCreditsTheUnit : Prop :=
  (∀ s : State, s.awake → (∀ j, s.dev.drive.active = some j → j.job.tag? = none ∨ j.windowOpen = false) →
    exec .beamBreak s = .next (s.withDev (Device.raise .strayDrop { s.dev with drive := { s.dev.drive with
      strayCount := min 65535 (s.dev.drive.strayCount + 1) } }))) ∧
  (∀ (s : State) (j : ActiveJob) (n : Fin 64) (tag : Nat), s.awake → s.dev.drive.active = some j →
    j.job = .unitDrive n tag → j.windowOpen = true →
    (j.phase = .turning ∨ j.phase = .waitLoad →
      exec .beamBreak s = .next (s.withDev { s.dev with drive := { s.dev.drive with
        active := some { j with dropSeen := true, windowOpen := false } } })) ∧
    (j.phase = .window → j.dropCheck = .notRequired → s.dev.drive.jobs = [] → s.dev.queue.sound →
      exec .beamBreak s = .next (s.withDev { s.dev with drive := { s.dev.drive with active := none } }))) ∧
  (∀ (s : State) (j : ActiveJob) (o : Order) (l : Lane), s.awake → s.dev.queue.sound → s.dev.drive.active = some j →
    j.job = .unitDrive o.lane o.tag → j.windowOpen = true →
    (j.phase = .halted ∨ (j.phase = .window ∧ j.dropCheck = .required)) → s.dev.queue.current? = some o →
    s.dev.lane? o.lane = some l → o.delivered < o.quantity →
    let price := if o.payment = .credit then o.price else 0
    ∃ t o' l', exec .beamBreak s = .next t ∧ t.dev.queue.find? o.tag = some o' ∧ o'.delivered = o.delivered + 1 ∧
      o'.charged = o.charged + o.price ∧ (o.delivered + 1 = o.quantity → o'.state = .delivered ∧ o'.cause = some .completed) ∧
      t.dev.lane? o.lane = some l' ∧ l'.stock = l.stock - 1 ∧ l'.sales = min 65535 (l.sales + 1) ∧
      l'.base = l.base ∧ l'.reserved ≤ l.reserved - 1 ∧
      t.dev.credit.balance = s.dev.credit.balance - price ∧ t.dev.credit.committed ≤ s.dev.credit.committed - price ∧
      (s.dev.drive.jobs = [] → (o.delivered + 1 < o.quantity → o.state = .halted) →
        (s.dev.queue.state = .held ∨ o.holdAfter = true ∨ s.dev.queue.head? = none ∨ o.delivered + 1 < o.quantity) →
        l'.reserved = l.reserved - 1 ∧ t.dev.credit.committed = s.dev.credit.committed - price) ∧
      s.frame saleParts t)

/-! ### The coin link's events -/

/-- R92, R93, R100: at a slot the first message due is sent, ROUTE, SET_MASK or POLL; while ABSENT an IDENTIFY every
500 ms; the first byte of a reply stops its 15 ms. R92, R93, R98, R103: a missing reply raises the miss count and
times the next slot, a SET_MASK being due again; the third takes the link ABSENT with an empty mask, makes a coin in
flight uncertain and sends an IDENTIFY; a frame with a framing error is a miss; 1000 ms from its offer a coin is
uncertain, and nothing is credited. The clock and the message times are log 1, 2 and 19. -/
def Obligations.LinkSlotsAndMisses : Prop :=
  ((∀ (s : State) (due : Nat), s.awake → s.dev.coins.slotTimer = some due → s.dev.coins.link = .present →
      s.dev.coins.exchange = none →
      let c := s.dev.coins
      let now := max s.dev.now due
      let sent (m : Message) (maskDue : Bool) : State := s.withDev { s.dev with now := now, coins := { c with
        exchange := some { message := m, replyStarted := false, replyTimer := some (now + 15) }
        lastSent := messageFrame m, slotTimer := none, maskDue := maskDue } }
      (∀ coin, c.inFlight = some coin → coin.routeState = .due →
        exec .linkSlot s = .next (sent (.route coin.coinClass coin.route) c.maskDue)) ∧
      ((∀ coin, c.inFlight = some coin → coin.routeState = .sent) →
        (c.maskDue = true → exec .linkSlot s = .next (sent (.setMask c.mask) false)) ∧
        (c.maskDue = false → exec .linkSlot s = .next (sent .poll false)))) ∧
    (∀ (s : State) (due : Nat), s.awake → s.dev.coins.identifyTimer = some due → s.dev.coins.link = .absent →
      s.dev.coins.exchange = none →
      let now := max s.dev.now due
      exec .identifyTimer s = .next (s.withDev { s.dev with now := now, coins := { s.dev.coins with
        exchange := some { message := .identify, replyStarted := false, replyTimer := some (now + 15) }
        lastSent := [0x06#8, 0x04#8, 0x00#8, 0x02#8], slotTimer := none, identifyTimer := some (now + 500) } })) ∧
    (∀ (s : State) (e : Exchange), s.awake → s.dev.coins.exchange = some e → e.replyTimer.isSome = true →
      exec .linkFirstByte s = .next (s.withDev { s.dev with coins := { s.dev.coins with
        exchange := some { e with replyStarted := true, replyTimer := none } } }))) ∧
  ((∀ (s : State) (e : Exchange) (due : Nat), s.awake → s.dev.coins.exchange = some e → e.replyTimer = some due →
      s.dev.coins.link = .present →
      let c := s.dev.coins
      let now := max s.dev.now due
      (c.missCount < 2 → (∀ coin, c.inFlight = some coin → coin.routeState = .sent) →
        exec .linkReplyTimeout s = .next (s.withDev { s.dev with now := now, coins := { c with
          exchange := none, missCount := c.missCount + 1, slotTimer := some (now + c.pollPeriod)
          maskDue := c.maskDue || (match e.message with
                                   | .setMask _ => true
                                   | _ => false) } })) ∧
      (c.missCount = 2 →
        ∃ t, exec .linkReplyTimeout s = .next t ∧ t.dev.coins.link = .absent ∧ t.dev.coins.missCount = 0 ∧
          t.dev.coins.acknowledged = none ∧ t.dev.coins.mask = 0#8 ∧ t.dev.coins.inFlight = none ∧
          t.dev.conditions.has .linkChanged = true ∧ t.dev.coins.exchange.map (·.message) = some .identify ∧
          (∀ coin, c.inFlight = some coin → t.dev.conditions.has .coinUncertain = true ∧
            t.dev.coins.uncertain = some { coinClass := coin.coinClass, value := coin.value, route := coin.route,
                                           routeState := some coin.routeState, cause := .linkLost }) ∧
          t.dev.credit.balance = s.dev.credit.balance ∧ s.frame (.clock :: moneyParts) t)) ∧
    (∀ (s : State) (e : Exchange) (bytes : List Byte), s.awake → s.dev.coins.exchange = some e → e.replyStarted = true →
      s.dev.coins.link = .present → s.dev.coins.missCount < 2 →
      (∀ coin, s.dev.coins.inFlight = some coin → coin.routeState = .sent) →
      exec (.linkFrame bytes true) s = .next (s.withDev { s.dev with coins := { s.dev.coins with
        exchange := none, missCount := s.dev.coins.missCount + 1
        slotTimer := some (s.dev.now + s.dev.coins.pollPeriod)
        maskDue := s.dev.coins.maskDue || (match e.message with
                                           | .setMask _ => true
                                           | _ => false) } })) ∧
    (∀ (s : State) (coin : CoinInFlight), s.awake → s.dev.coins.inFlight = some coin →
      ∃ t, exec .coinTimeout s = .next t ∧ t.dev.coins.inFlight = none ∧ t.dev.coins.marker = none ∧
        t.dev.coins.uncertain = some { coinClass := coin.coinClass, value := coin.value, route := coin.route,
                                       routeState := some coin.routeState, cause := .timeout } ∧
        t.dev.conditions.has .coinUncertain = true ∧ t.dev.credit.balance = s.dev.credit.balance ∧
        t.dev.coins.cashbox = s.dev.coins.cashbox ∧
        (∀ k : Fin 6, t.dev.payout.tubes[k].count = s.dev.payout.tubes[k].count) ∧
        s.frame (.clock :: moneyParts) t))

/-- R92, R94, R98 to R101, R76, R78: a good IDLE reply ends the exchange; a COIN_READY begins a handshake routed by
R99's table and its ROUTE is sent at once; a COIN_DONE of a coin routed to a tube or the cash box credits its value
and counts the coin; a good IDENT while ABSENT makes the link PRESENT with a SET_MASK due. R94: a FAULT stores its code
and raises LINK_CHANGED. R102, R76: a COIN_RETURNED ends the handshake with nothing credited, and without a coin in
flight a COIN_RETURNED or COIN_DONE is ignored; a COIN_READY of the class in flight sends the route again. R103: one of
another class, or a COIN_DONE against a REJECT or of another class, ends the handshake uncertain with cause PROTOCOL,
and the former begins a new one. R85, R105: a RETURN_LEVER makes refund pending REFUND, served at once when money
stands still. The frames taken as
replies are log 19 and 20; the clock is log 1. -/
def Obligations.LinkFramesRouteAndCreditCoins : Prop :=
  (∀ (s : State) (e : Exchange), s.awake → s.dev.coins.exchange = some e → e.replyStarted = true → e.message = .poll →
    s.dev.coins.link = .present →
    let c := s.dev.coins
    let frame (kind k : Byte) : List Byte := [0x01#8, kind, 0x01#8, k, kind ^^^ k]
    let code8 (k : Fin 8) : Byte := BitVec.ofNat 8 k.val
    let uncertain (coin : CoinInFlight) : UncertainCoin :=
      { coinClass := coin.coinClass, value := coin.value, route := coin.route, routeState := some coin.routeState
        cause := .protocol }
    (∀ code : Byte, code ≠ 0#8 → (∀ coin, c.inFlight = some coin → coin.routeState = .sent) →
      exec (.linkFrame (frame 0x15#8 code) false) s = .next (s.withDev (Device.raise .linkChanged { s.dev with
        coins := { c with exchange := none, missCount := 0, slotTimer := some (s.dev.now + c.pollPeriod)
                          lastFault := some code.toNat, faultCount := min 255 (c.faultCount + 1) } }))) ∧
    (∀ (kind : Byte) (k : Fin 8), kind = 0x12#8 ∨ kind = 0x13#8 → c.inFlight = none →
      exec (.linkFrame (frame kind (code8 k)) false) s = .next (s.withDev { s.dev with coins := { c with
        exchange := none, missCount := 0, slotTimer := some (s.dev.now + c.pollPeriod) } })) ∧
    (∀ (coin : CoinInFlight) (k : Fin 8), c.inFlight = some coin →
      (∃ t, exec (.linkFrame (frame 0x13#8 (code8 k)) false) s = .next t ∧ t.dev.coins.inFlight = none ∧
        t.dev.coins.marker = none ∧ t.dev.conditions.has .creditChanged = true ∧ t.dev.coins.uncertain = c.uncertain ∧
        t.dev.coins.cashbox = c.cashbox ∧ t.dev.credit.balance = s.dev.credit.balance ∧
        (∀ u : Fin 6, t.dev.payout.tubes[u].count = s.dev.payout.tubes[u].count) ∧ s.frame moneyParts t) ∧
      (k = coin.coinClass → exec (.linkFrame (frame 0x11#8 (code8 k)) false) s = .next (s.withDev { s.dev with
        coins := { c with
          missCount := 0, inFlight := some { coin with routeState := .due }, slotTimer := none
          exchange := some { message := .route k coin.route, replyStarted := false, replyTimer := some (s.dev.now + 15) }
          lastSent := messageFrame (.route k coin.route) } })) ∧
      (k ≠ coin.coinClass →
        ∃ t coin', exec (.linkFrame (frame 0x11#8 (code8 k)) false) s = .next t ∧
          t.dev.coins.uncertain = some (uncertain coin) ∧ t.dev.coins.inFlight = some coin' ∧ coin'.coinClass = k ∧
          coin'.offeredAt = s.dev.now ∧ coin'.routeState = .due ∧
          t.dev.coins.exchange.map (·.message) = some (.route k coin'.route) ∧
          t.dev.conditions.has .coinUncertain = true ∧ t.dev.credit.balance = s.dev.credit.balance ∧
          s.frame moneyParts t) ∧
      (coin.route = .reject ∨ k ≠ coin.coinClass →
        ∃ t, exec (.linkFrame (frame 0x12#8 (code8 k)) false) s = .next t ∧
          t.dev.coins.uncertain = some (uncertain coin) ∧ t.dev.coins.inFlight = none ∧ t.dev.coins.marker = none ∧
          t.dev.conditions.has .coinUncertain = true ∧ t.dev.conditions.has .creditChanged = true ∧
          t.dev.credit.balance = s.dev.credit.balance ∧ t.dev.coins.cashbox = c.cashbox ∧
          (∀ u : Fin 6, t.dev.payout.tubes[u].count = s.dev.payout.tubes[u].count) ∧ s.frame moneyParts t)) ∧
    (∃ t, exec (.linkFrame [0x01#8, 0x14#8, 0x00#8, 0x15#8] false) s = .next t ∧
      t.dev.coins.inFlight = c.inFlight ∧ t.dev.credit.balance = s.dev.credit.balance ∧
      (s.dev.payout.idle = false ∨ c.inFlight.isSome = true →
        t.dev.credit.pending = .refund ∧ t.dev.payout = s.dev.payout ∧ s.frame [.conditions, .credit, .coins] t) ∧
      (s.dev.payout.idle = true → c.inFlight = none → t.dev.credit.pending = .no ∧
        (s.dev.credit.committed < s.dev.credit.balance → ∃ p, t.dev.payout.plan = some p ∧ p.kind = .refund ∧
          p.requested = .amount (s.dev.credit.balance - s.dev.credit.committed))) ∧
      (s.dev.credit.pending ≠ .refund → t.dev.conditions.has .creditChanged = true) ∧ s.frame moneyParts t) ∧
    ((∀ coin, c.inFlight = some coin → coin.routeState = .sent) →
      exec (.linkFrame [0x01#8, 0x10#8, 0x00#8, 0x11#8] false) s = .next (s.withDev { s.dev with coins := { c with
        exchange := none, missCount := 0, slotTimer := some (s.dev.now + c.pollPeriod) } })) ∧
    (∀ (k : Fin 8) (route : Route) (reason : Option RejectReason), c.inFlight = none →
      (route, reason) =
        (if c.classes[k].enabled = false then (.reject, some .disabled)
         else if s.dev.payout.idle = false then (.reject, some .payout)
         else if s.dev.credit.maxCredit < s.dev.credit.balance + c.classes[k].value then (.reject, some .limit)
         else match s.dev.payout.tubeRoute k with
              | some t => (.tube t, none)
              | none => if s.dev.onRef .cashbox then (.cashbox, none) else (.reject, some .noRoute)) →
      exec (.linkFrame [0x01#8, 0x11#8, 0x01#8, BitVec.ofNat 8 k.val, 0x11#8 ^^^ BitVec.ofNat 8 k.val] false) s =
        .next (s.withDev { s.dev with coins := { c with
          missCount := 0
          inFlight := some { coinClass := k, value := c.classes[k].value, route := route, reason := reason,
                             routeState := .due, offeredAt := s.dev.now }
          marker := some { coinClass := k, value := c.classes[k].value, route := route }
          exchange := some { message := .route k route, replyStarted := false, replyTimer := some (s.dev.now + 15) }
          lastSent := messageFrame (.route k route), slotTimer := none } })) ∧
    (∀ coin, c.inFlight = some coin → coin.route ≠ .reject →
      ∃ t, exec (.linkFrame [0x01#8, 0x12#8, 0x01#8, BitVec.ofNat 8 coin.coinClass.val,
            0x12#8 ^^^ BitVec.ofNat 8 coin.coinClass.val] false) s = .next t ∧
        t.dev.credit.balance = s.dev.credit.balance + coin.value ∧
        t.dev.credit.tendered = (if s.dev.credit.tendered.length < 16 then s.dev.credit.tendered
          else s.dev.credit.tendered.drop 1) ++ [coin.coinClass] ∧
        t.dev.coins.inFlight = none ∧ t.dev.coins.marker = none ∧ t.dev.conditions.has .creditChanged = true ∧
        (∀ k : Fin 6, t.dev.payout.tubes[k].count = if coin.route = .tube k then
            (if s.dev.payout.tubes[k].count = s.dev.payout.tubes[k].capacity then s.dev.payout.tubes[k].count
             else s.dev.payout.tubes[k].count + 1)
          else s.dev.payout.tubes[k].count) ∧
        (∀ k : Fin 8, t.dev.coins.cashbox[k] = if coin.route = .cashbox ∧ k = coin.coinClass then
            min 65535 (s.dev.coins.cashbox[k] + 1) else s.dev.coins.cashbox[k]) ∧
        s.frame moneyParts t)) ∧
  (∀ (s : State) (e : Exchange) (b : Byte), s.awake → s.dev.coins.exchange = some e → e.replyStarted = true →
    e.message = .identify → s.dev.coins.link = .absent →
    (∀ coin, s.dev.coins.inFlight = some coin → coin.routeState = .sent) →
    ∃ t, exec (.linkFrame [0x01#8, 0x16#8, 0x01#8, b, 0x16#8 ^^^ b] false) s = .next t ∧
      t.dev.coins.link = .present ∧ t.dev.coins.identity = some [b] ∧ t.dev.coins.maskDue = true ∧
      t.dev.conditions.has .linkChanged = true ∧
      t.dev.coins.slotTimer = some (s.dev.now + s.dev.coins.pollPeriod) ∧ s.frame [.conditions, .coins] t)

/-! ### The payout engine's events -/

/-- R116, R121: the end of a pulse starts its gap; the end of the gap pulses the current line's next coin when its
window has closed; a count with no window open is stray. R77, R117: a count in the open window takes a coin from its
tube, counts it in the plan and, for CHANGE and REFUND, lowers the balance by its value as far as money is
uncommitted, the rest being overpaid. The clock is the model's (log 1, 2). -/
def Obligations.PulsesAndChuteCounts : Prop :=
  ((∀ (s : State) (due : Nat), s.awake → s.dev.payout.onTimer = some due →
      exec .pulseOnEnd s = .next (s.withDev { s.dev with now := max s.dev.now due, payout := { s.dev.payout with
        solenoid := none, onTimer := none, gapTimer := some (due + s.dev.payout.pulseGap) } })) ∧
    (∀ (s : State) (due : Nat), s.awake → s.dev.payout.gapTimer = some due →
      let now := max s.dev.now due
      (s.dev.payout.windowOpen = true → exec .pulseGapEnd s = .next (s.withDev { s.dev with
          now := now, payout := { s.dev.payout with gapTimer := none } })) ∧
      (∀ p i l, s.dev.payout.plan = some p → p.state = .ejecting → p.currentLine = some (i, l) →
        s.dev.payout.solenoid = none → s.dev.payout.windowOpen = false →
        exec .pulseGapEnd s = .next (s.withDev { s.dev with now := now, payout := { s.dev.payout with
          solenoid := some l.tube, onTimer := some (now + s.dev.payout.set.onTime), pulseGap := s.dev.payout.set.gap
          gapTimer := none
          coin := some { tube := l.tube, line := i, windowOpen := true, windowEnd := now + 300, seen := 0, cut := false,
                         attempt := match s.dev.payout.coin with
                                    | some c => c.attempt
                                    | none => .first } } }))) ∧
    (∀ s : State, s.awake → (∀ c, s.dev.payout.coin = some c → c.windowOpen = false) →
      exec .chuteCount s = .next (s.withDev (Device.raise .tubeFault { s.dev with payout := { s.dev.payout with
        strayCount := min 65535 (s.dev.payout.strayCount + 1) } })))) ∧
  (∀ (s : State) (c : PendingCoin) (p : Plan), s.awake → s.dev.payout.coin = some c → c.windowOpen = true →
      s.dev.payout.plan = some p →
      let r := s.dev.payout.tubes[c.tube]
      let v := s.dev.tubeValue c.tube
      let k := if p.kind = .dispense then 0 else min v (s.dev.credit.balance - s.dev.credit.committed)
      ∃ t p', exec .chuteCount s = .next t ∧
        t.dev.payout.tubes = put s.dev.payout.tubes c.tube
          { r with count := r.count - 1, planned := min (r.planned - 1) (r.count - 1),
                   lastFault := if r.count = 0 then some .underflow else r.lastFault } ∧
        (r.count = 0 → t.dev.conditions.has .tubeFault = true) ∧
        t.dev.payout.coin = some { c with seen := c.seen + 1 } ∧ t.dev.payout.plan = some p' ∧
        p'.paid = min 65535 (p.paid + v) ∧
        p'.overpaid = (if p.kind = .dispense then p.overpaid else min 65535 (p.overpaid + (v - k))) ∧
        (∀ (i : Nat) (l : PlanLine), p.lines[i]? = some l → p'.lines[i]? = some (if i = c.line then
          { l with paid := l.paid + 1, state := if l.state = .opened ∧ l.planned ≤ l.paid + 1 then .done else l.state }
          else l)) ∧
        t.dev.credit.balance = s.dev.credit.balance - k ∧ t.dev.credit.committed = s.dev.credit.committed ∧
        s.frame [.conditions, .payout, .credit, .coins] t)

/-- R116, R118, R119: a window closes: with a count and a line open its coin is settled; a first miss is to be pulsed
again as a RETRY; while the gap still runs the next pulse waits for it, and when the gap has ended, as it has with the
default times, the current line's next coin is pulsed at the close; a second miss jams the tube; with every line paid, nothing left and no payback pending the plan ends.
The clock is the model's (log 1, 2). -/
def Obligations.ChuteWindowCloseSettlesTheCoin : Prop :=
  ∀ (s : State) (c : PendingCoin) (p : Plan), s.awake → s.dev.payout.coin = some c → c.windowOpen = true →
    s.dev.payout.plan = some p →
    let now := max s.dev.now c.windowEnd
    (∀ i l, s.dev.payout.gapTimer = none → s.dev.payout.solenoid = none → p.state = .ejecting →
      p.currentLine = some (i, l) → (0 < c.seen ∨ c.cut = true ∨ c.attempt = .first) →
      exec .chuteWindowClose s = .next (s.withDev { s.dev with now := now, payout := { s.dev.payout with
        solenoid := some l.tube, onTimer := some (now + s.dev.payout.set.onTime), pulseGap := s.dev.payout.set.gap
        coin := some { tube := l.tube, line := i, windowOpen := true, windowEnd := now + 300, seen := 0, cut := false
                       attempt := if 0 < c.seen ∨ c.cut = true then .first else .retry } } })) ∧
    (s.dev.payout.gapTimer.isSome = true → p.currentLine.isSome = true →
      (0 < c.seen → exec .chuteWindowClose s = .next (s.withDev { s.dev with
        now := now, payout := { s.dev.payout with coin := none } })) ∧
      (c.seen = 0 → c.cut = false → c.attempt = .first → exec .chuteWindowClose s = .next (s.withDev { s.dev with
        now := now, payout := { s.dev.payout with coin := some { c with windowOpen := false, attempt := .retry } } })) ∧
      (c.seen = 0 → c.cut = true → exec .chuteWindowClose s = .next (s.withDev { s.dev with
        now := now, payout := { s.dev.payout with
          coin := some { c with windowOpen := false, cut := false, attempt := .first } } }))) ∧
    (c.seen = 0 → c.cut = false → c.attempt = .retry →
      ∃ t, exec .chuteWindowClose s = .next t ∧ t.dev.payout.tubes[c.tube].state = .jammed ∧
        t.dev.payout.tubes[c.tube].lastFault = some .jam ∧ t.dev.payout.tubes[c.tube].planned = 0 ∧
        t.dev.payout.tubes[c.tube].count = s.dev.payout.tubes[c.tube].count ∧
        t.dev.conditions.has .tubeFault = true ∧ s.frame (.clock :: moneyParts) t) ∧
    (∀ a, 0 < c.seen → p.currentLine = none → p.requested = .amount a → a ≤ p.paid → s.dev.credit.pending = .no →
      ∃ t, exec .chuteWindowClose s = .next t ∧
        t.dev.payout.plan = some { p with state := .ended, result := some .complete } ∧
        (∀ k : Fin 6, t.dev.payout.tubes[k].planned = 0) ∧ t.dev.conditions.has .payoutEnded = true ∧
        t.dev.payout.idle = true ∧ s.frame (.clock :: moneyParts) t)

/-! ### Timers of the zones and the compressor -/

/-- R127, R128, R137, R139: an air sample is copied, gives the zone its state by R127's table and its warm flag, with
the alarms of a probe fault and of warming, and sweeps the zone's lanes when it is the first, or the flag or a probe
fault has changed, in the order of log 15; R131: an evaporator sample at the fixed end temperature ends a defrost in DRIP, and any other is
copied alone. R130: a minute since defrost is counted, and an interval reached, with no defrost under way, enters
DEFROST;
R131: the defrost timer ends the defrost in DRIP for 120 s; R132: the drip's end judges the air reading; R136: a
minute is counted as exposure only while the zone is warm or in PROBE_FAULT. The clock is the model's (log 1, 2). -/
def Obligations.ZoneTimersCountAndMove : Prop :=
  ∀ (s : State) (z : Fin 2) (due : Nat), s.awake →
    let r := s.dev.zones[z]
    let now := max s.dev.now due
    (∀ (k : Conversion) (reading : Nat), s.dev.scanner.converting = some k → k.ends = due →
      let v := judgeReading k.channel s.dev.scanner.setups[k.channel] reading
      (k.channel = (if z = 0 then 0 else 2) →
        let state : ZoneState :=
          match r.state, v with
          | .off, _ => .off
          | .defrost, .good _ => .defrost
          | .drip, .good _ => .drip
          | _, .good a => if r.set.setPoint + r.set.differential ≤ a then .calling
                          else if a ≤ r.set.setPoint then .satisfied
                          else if r.state = .calling then .calling else .satisfied
          | _, _ => .probeFault
        let warm : Bool :=
          match v with
          | .good a => if r.warm then r.set.warmLimit - 10 < a else r.set.warmLimit < a
          | _ => r.warm
        let swept : Prop := r.air = none ∨ warm ≠ r.warm ∨ (state = .probeFault ∧ r.state ≠ .probeFault) ∨
          (state ≠ .probeFault ∧ r.state = .probeFault)
        ∃ t, exec (.conversionEnd reading) s = .next t ∧ t.dev.zones[z].air = some v ∧ t.dev.zones[z].warm = warm ∧
          t.dev.zones[z].exposure = r.exposure ∧ t.dev.zones[z].set = r.set ∧
          t.dev.zones[z].state =
            (if r.defrostDue = true ∧ (state = .satisfied ∨ state = .calling) then .defrost else state) ∧
          (state = .probeFault → r.state ≠ .probeFault → t.dev.zones[z].lastAlarm = some .probeFault ∧
            t.dev.conditions.has .zoneAlarm = true ∧
            (r.state = .defrost → t.dev.zones[z].defrost = none)) ∧
          (warm = true → r.warm = false → t.dev.zones[z].lastAlarm = some .warm ∧
            t.dev.conditions.has .zoneAlarm = true) ∧
          (∀ n l, s.dev.lane? n = some l →
            let held := match l.laneClass with
                        | .ambient => false
                        | .chilled => r.state = .off || (warm && r.set.holdChilled)
                        | .perishable => r.state = .off || warm || state = .probeFault
            (swept → l.zone = z → t.dev.lane? n = some { l with held := held } ∧
              (held ≠ l.held → t.dev.table.changed[n] = true)) ∧
            (¬ swept ∨ l.zone ≠ z → t.dev.lane? n = some l)) ∧
          s.frame (.clock :: .conditions :: .table :: grantParts) t) ∧
      (k.channel = (if z = 0 then 1 else 3) →
        ∃ t, exec (.conversionEnd reading) s = .next t ∧ t.dev.zones[z].evaporator = some v ∧
          ((r.state ≠ .defrost ∨ (match r.defrost, v with
                                    | some f, .good a => decide (a < f.endTemp)
                                    | _, _ => true) = true) →
            t.dev.zones = put s.dev.zones z { r with evaporator := some v } ∧ s.frame [.clock, .zones, .scanner] t) ∧
          (∀ f a, s.dev.heaterClaims → r.state = .defrost → r.defrost = some f → v = .good a → f.endTemp ≤ a →
            t.dev.zones[z].state = .drip ∧ t.dev.zones[z].defrost = none ∧
            t.dev.zones[z].dripTimer = some (now + 120000) ∧ t.dev.zones[z].sinceTimer = some (now + 60000) ∧
            (∀ c ∈ t.dev.load.grants ++ t.dev.load.waiters, c.who ≠ .heater z) ∧
            s.frame (.clock :: grantParts) t))) ∧
    (r.sinceTimer = some due →
      let n := min 1440 (r.sinceDefrost + 1)
      (r.defrostDue = false → (r.set.defrostInterval = 0 ∨ n < r.set.defrostInterval * 60) →
        exec (.sinceDefrostTimer z) s = .next (s.withDev { s.dev with
        now := now, zones := put s.dev.zones z { r with sinceDefrost := n, sinceTimer := some (due + 60000) } })) ∧
      (0 < r.set.defrostInterval → r.set.defrostInterval * 60 ≤ n → (r.state = .satisfied ∨ r.state = .calling) →
        ∃ t, exec (.sinceDefrostTimer z) s = .next t ∧ t.dev.zones[z].state = .defrost ∧
          t.dev.zones[z].sinceDefrost = 0 ∧ t.dev.zones[z].defrostDue = false ∧
          { who := .heater z, units := 1, job := none } ∈ t.dev.load.grants ++ t.dev.load.waiters ∧
          s.frame (.clock :: grantParts) t)) ∧
    (∀ f, r.state = .defrost → r.defrost = some f → f.timer = some due → s.dev.heaterClaims →
      ∃ t, exec (.defrostTimer z) s = .next t ∧ t.dev.zones[z].state = .drip ∧ t.dev.zones[z].defrost = none ∧
        t.dev.zones[z].dripTimer = some (now + 120000) ∧ t.dev.zones[z].sinceTimer = some (now + 60000) ∧
        (∀ c ∈ t.dev.load.grants ++ t.dev.load.waiters, c.who ≠ .heater z) ∧ s.frame (.clock :: grantParts) t) ∧
    (r.state = .drip → r.dripTimer = some due → r.defrostDue = false →
      ∃ t, exec (.dripTimer z) s = .next t ∧ t.dev.zones[z].dripTimer = none ∧
        t.dev.zones[z].state = (match r.air with
                                | some (.good a) =>
                                  if r.set.setPoint + r.set.differential ≤ a then .calling else .satisfied
                                | _ => .satisfied) ∧
        s.frame (.clock :: grantParts) t) ∧
    (r.minuteTimer = some due →
      (r.warm = false → r.state ≠ .probeFault →
        exec (.zoneMinuteTimer z) s = .next (s.withDev { s.dev with
        now := now, zones := put s.dev.zones z { r with minuteTimer := some (due + 60000) } })) ∧
      ((r.warm = true ∨ r.state = .probeFault) →
        ∃ t, exec (.zoneMinuteTimer z) s = .next t ∧ t.dev.zones[z].exposure = min 65535 (r.exposure + 1) ∧
          t.dev.zones[z].minuteTimer = some (due + 60000) ∧
          (r.exposure = 65534 → t.dev.conditions.has .zoneAlarm = true) ∧
          (∀ n l, s.dev.lane? n = some l → t.dev.lane? n = some { l with
            spoiled := l.spoiled || (l.zone = z && l.laneClass = .perishable &&
              r.set.allowance ≤ min 65535 (r.exposure + 1) - l.baseline) }) ∧
          s.frame [.clock, .conditions, .table, .zones] t))

/-- R147 to R151: the end of a rest, of a start window and of a minimum run; R152, R155: the end of the fan's run-on,
under a held RESET too. R149, R151: the confirm line is timed and a level held for 50 ms is the confirm level; in
SENSE mode it confirms a start when it reaches the copied polarity, and in RUNNING its loss stops the compressor with
a counted failure; in every other case it is only kept. That the confirm line takes its level under a held RESET too
is the model's (log 13). R146, R150, R151, R153: a condenser sample is judged against the limit then in force: hot,
it stops a closed relay and ends WAITING; cool enough, it starts an IDLE compressor with demand; the first that is not
GOOD is an alarm; a limit amended since is not looked at before. The clock is the model's (log 1, 2), the limit kept
beside the reading log 28. -/
def Obligations.CompressorTimersAndConfirmation : Prop :=
  (∀ (s : State) (due : Nat), s.awake → s.dev.compressorClaims →
      let c := s.dev.compressor
      let now := max s.dev.now due
      (c.restTimer = some due →
        let rested := { c with restTimer := none, restElapsed := true }
        (c.state = .lockedOut →
          exec .restTimer s = .next (s.withDev { s.dev with now := now, compressor := rested })) ∧
        (c.state = .resting → (c.demand && c.cool) = false →
          exec .restTimer s = .next (s.withDev { s.dev with now := now, compressor := { rested with state := .idle } })) ∧
        (c.state = .resting → c.demand = true → c.cool = true →
          ∃ t, exec .restTimer s = .next t ∧
            (t.dev.compressor.state = .waiting ∨ t.dev.compressor.state = .starting) ∧
            compressorClaim ∈ t.dev.load.grants ++ t.dev.load.waiters ∧ s.frame (.clock :: grantParts) t)) ∧
      (c.state = .starting → c.startTimer = some due →
        (c.sensing = false →
          ∃ t, exec .startTimer s = .next t ∧ t.dev.compressor = { c with state := .running, startTimer := none } ∧
            (∀ x ∈ t.dev.load.grants ++ t.dev.load.waiters, x.who ≠ .compressor) ∧ s.frame (.clock :: grantParts) t) ∧
        (c.sensing = true →
          ∃ t, exec .startTimer s = .next t ∧ t.dev.compressor.failures = c.failures + 1 ∧
            t.dev.compressor.lastStop = some .startFailed ∧
            t.dev.compressor.state = (if 3 ≤ c.failures + 1 then .lockedOut else .resting) ∧
            t.dev.compressor.restTimer = some (now + 1000 * c.set.minRest) ∧
            t.dev.compressor.fanTimer = some (now + 60000) ∧
            (3 ≤ c.failures + 1 → t.dev.compressor.lastAlarm = some .lockout ∧
              t.dev.conditions.has .compressorAlarm = true) ∧ s.frame (.clock :: .conditions :: grantParts) t)) ∧
      (c.runTimer = some due → c.state = .running →
        (c.demand = true → exec .runTimer s = .next (s.withDev { s.dev with
          now := now, compressor := { c with runTimer := none, failures := 0 } })) ∧
        (c.demand = false →
          exec .runTimer s = .next (s.withDev { s.dev with now := now, compressor := { c with
            runTimer := none, startTimer := none, failures := 0, state := .resting, lastStop := some .demandMet
            restTarget := c.set.minRest, restElapsed := false, restTimer := some (now + 1000 * c.set.minRest)
            fanTimer := some (now + 60000) } })))) ∧
  (∀ (s : State) (due : Nat), s.dev.compressor.fanTimer = some due →
      exec .fanRunonTimer s = .next (s.withDev { s.dev with
        now := max s.dev.now due, compressor := { s.dev.compressor with fanTimer := none } })) ∧
  ((∀ (s : State) (level : Level), level ≠ s.dev.compressor.confirmLine →
      exec (.confirmLineEdge level) s = .next (s.withDev { s.dev with compressor := { s.dev.compressor with
        confirmLine := level
        confirmTimer := if s.dev.compressor.confirmLevel = some level then none else some (s.dev.now + 50) } })) ∧
    (∀ (s : State) (due : Nat), s.awake → s.dev.compressor.confirmTimer = some due →
      let c := s.dev.compressor
      let now := max s.dev.now due
      let seen := { c with confirmLevel := some c.confirmLine, confirmTimer := none }
      ((c.sensing = false ∨ (c.state ≠ .starting ∧ c.state ≠ .running)) →
        exec .confirmChange s = .next (s.withDev { s.dev with now := now, compressor := seen })) ∧
      (∀ k, c.startCopy = some k → k.confirmMode = .sense → c.state = .starting → s.dev.compressorClaims →
        (c.confirmLine ≠ k.confirmPolarity →
          exec .confirmChange s = .next (s.withDev { s.dev with now := now, compressor := seen })) ∧
        (c.confirmLine = k.confirmPolarity →
          ∃ t, exec .confirmChange s = .next t ∧
            t.dev.compressor = { seen with state := .running, startTimer := none } ∧
            (∀ x ∈ t.dev.load.grants ++ t.dev.load.waiters, x.who ≠ .compressor) ∧ s.frame (.clock :: grantParts) t)) ∧
      (∀ k, c.startCopy = some k → k.confirmMode = .sense → c.state = .running → s.dev.compressorClaims →
        (c.confirmLevel ≠ some k.confirmPolarity →
          exec .confirmChange s = .next (s.withDev { s.dev with now := now, compressor := seen })) ∧
        (c.confirmLevel = some k.confirmPolarity →
          ∃ t, exec .confirmChange s = .next t ∧ t.dev.compressor.failures = c.failures + 1 ∧
            t.dev.compressor.lastStop = some .confirmLost ∧
            t.dev.compressor.state = (if 3 ≤ c.failures + 1 then .lockedOut else .resting) ∧
            t.dev.compressor.restTimer = some (now + 1000 * c.set.minRest) ∧ t.dev.compressor.restElapsed = false ∧
            t.dev.compressor.runTimer = none ∧ t.dev.compressor.fanTimer = some (now + 60000) ∧
            (3 ≤ c.failures + 1 → t.dev.compressor.lastAlarm = some .lockout ∧
              t.dev.conditions.has .compressorAlarm = true) ∧
            s.frame (.clock :: .conditions :: grantParts) t)))) ∧
  ((∀ (s : State) (k : Conversion) (reading : Nat), s.awake → s.dev.scanner.converting = some k → k.channel = 4 →
      s.dev.compressorClaims →
      let c := s.dev.compressor
      let now := max s.dev.now k.ends
      let v := judgeReading 4 s.dev.scanner.setups[(4 : Fin 8)] reading
      let judged := { c with condenser := some v, judgedLimit := c.set.hotLimit }
      let hot := judged.hot
      let faulty := v.bad && !c.condenser.any Sample.bad
      ∃ t, exec (.conversionEnd reading) s = .next t ∧ t.dev.compressor.condenser = some v ∧
        t.dev.compressor.judgedLimit = c.set.hotLimit ∧ t.dev.compressor.set = c.set ∧
        (faulty = true → t.dev.compressor.lastAlarm = some .condenserProbe ∧
          t.dev.conditions.has .compressorAlarm = true) ∧
        (hot = true → (c.state = .starting ∨ c.state = .running) → t.dev.compressor.state = .resting ∧
          t.dev.compressor.lastStop = some .hot ∧ t.dev.compressor.lastAlarm = some .hot ∧
          t.dev.conditions.has .compressorAlarm = true ∧
          t.dev.compressor.restTimer = some (now + 1000 * c.set.minRest) ∧ t.dev.compressor.restElapsed = false ∧
          t.dev.compressor.failures = c.failures ∧
          (∀ x ∈ t.dev.load.grants ++ t.dev.load.waiters, x.who ≠ .compressor)) ∧
        (hot = true → c.state = .waiting → t.dev.compressor.state = .idle ∧
          (∀ x ∈ t.dev.load.grants ++ t.dev.load.waiters, x.who ≠ .compressor)) ∧
        (c.state = .idle → c.demand = true → judged.cool = true →
          (t.dev.compressor.state = .waiting ∨ t.dev.compressor.state = .starting) ∧
          compressorClaim ∈ t.dev.load.grants ++ t.dev.load.waiters) ∧
        ((c.state = .resting ∨ c.state = .lockedOut ∨ (c.state ≠ .idle ∧ hot = false) ∨
            (c.state = .idle ∧ (c.demand && judged.cool) = false)) →
          t.dev.compressor = { judged with lastAlarm := if faulty then some .condenserProbe else c.lastAlarm } ∧
          t.dev.load = s.dev.load) ∧
        s.frame (.clock :: .conditions :: grantParts) t) ∧
    (∀ (c : Compressor) (limit v : Int), c.condenser = some (.good v) →
      (c.hot = true ↔ c.judgedLimit < v) ∧ (c.cool = true ↔ v ≤ c.judgedLimit - 50) ∧
      ({ c with set := { c.set with hotLimit := limit } } : Compressor).hot = c.hot ∧
      ({ c with set := { c.set with hotLimit := limit } } : Compressor).cool = c.cool) ∧
    (∀ c : Compressor, (match c.condenser with
                         | some (.good _) => false
                         | _ => true) = true → c.hot = false ∧ c.cool = true))

/-! ### The scanner's and the inputs' events -/

/-- R157, R158, R162: the conversion under way stores its judged reading in its channel's mailbox alone, fresh, and
overwritten when the sample before was fresh; a pass goes on with its next channel. R160: a probe reading is OPEN
from 980 up, SHORT to 20, and at a point of its curve that point's temperature with the offset added, in range; R170:
the band a voltage gives. R171, R176: a supply sample that leaves the band as it is is copied alone; a change raises
SUPPLY_CHANGED; CRITICAL takes every grant back, motors, solenoids, a starting relay and the heaters with it, and the
claims made again wait; NORMAL makes the grant test. The clock is the model's (log 1, 2). -/
def Obligations.SamplesAreJudgedAndStored : Prop :=
  (∀ (s : State) (k : Conversion) (reading : Nat), s.awake → s.dev.scanner.converting = some k →
      ∃ t, exec (.conversionEnd reading) s = .next t ∧
        t.dev.scanner.boxes = put s.dev.scanner.boxes k.channel
          { sample := some (judgeReading k.channel s.dev.scanner.setups[k.channel] reading), fresh := true,
            overwritten := s.dev.scanner.boxes[k.channel].overwritten || s.dev.scanner.boxes[k.channel].fresh } ∧
        t.dev.now = max s.dev.now k.ends ∧ t.dev.scanner.setups = s.dev.scanner.setups ∧
        (k.source = .pass → k.channel.val < 6 → s.dev.scanner.priorityWaiting = 0 →
          t.dev.scanner.converting = some { channel := k.channel + 1, source := .pass, ends := t.dev.now + 2 }) ∧
        (k.source = .pass → k.channel = 7 → s.dev.scanner.passPending = false → t.dev.scanner.pass = none) ∧
        (k.source = .pass → k.channel = 7 → s.dev.scanner.passPending = true → s.dev.scanner.priorityWaiting = 0 →
          t.dev.scanner.pass = some 0 ∧ t.dev.scanner.passPending = false ∧
          t.dev.scanner.converting = some { channel := 0, source := .pass, ends := t.dev.now + 2 }) ∧
        s.frame (.clock :: saleParts) t) ∧
  (∀ (s : State) (k : Conversion) (reading : Nat), s.awake → s.dev.scanner.converting = some k → k.channel = 5 →
      let v := judgeReading 5 s.dev.scanner.setups[(5 : Fin 8)] reading
      let band := s.dev.load.bandAfter v
      ∃ t, exec (.conversionEnd reading) s = .next t ∧ t.dev.load.supply = some v ∧ t.dev.load.band = band ∧
        t.dev.load.set = s.dev.load.set ∧
        (band = s.dev.load.band → t.dev.load = { s.dev.load with supply := some v } ∧
          s.frame [.clock, .scanner, .load] t) ∧
        (band ≠ s.dev.load.band → t.dev.conditions.has .supplyChanged = true) ∧
        (band ≠ s.dev.load.band → band = .low → t.dev.load = { s.dev.load with supply := some v, band := .low } ∧
          s.frame [.clock, .conditions, .scanner, .load] t) ∧
        (band ≠ s.dev.load.band → band = .normal →
          (∀ c, t.dev.load.waiters.head? = some c → t.dev.load.set.budget < t.dev.load.granted + c.units) ∧
          t.dev.load.grants ++ t.dev.load.waiters = s.dev.load.grants ++ s.dev.load.waiters ∧
          s.frame (.clock :: .conditions :: grantParts) t) ∧
        (band ≠ s.dev.load.band → band = .critical → t.dev.load.grants = [] ∧
          (∀ c ∈ s.dev.load.grants,
            (c.who = .drive → s.dev.driveClaims → s.dev.unitsSound → t.dev.drive.energized = none ∧ t.dev.drive.rows = 0#8 ∧ t.dev.drive.cols = 0#8) ∧
            (c.who = .payout → t.dev.payout.solenoid = none ∧ payoutClaim ∈ t.dev.load.waiters) ∧
            (c.who = .compressor → t.dev.compressor.state ≠ .starting) ∧
            (∀ z, c.who = .heater z → { who := .heater z, units := 1, job := none } ∈ t.dev.load.waiters)))) ∧
  ((∀ (c : Fin 8) (setup : ChannelSetup) (r : Nat), c ≠ 5 → c ≠ 6 →
      (980 ≤ r → judgeReading c setup r = .opened) ∧ (r ≤ 20 → judgeReading c setup r = .short) ∧
      (20 < r → r < (if setup.curve = .a then 40 else 50) → judgeReading c setup r = .overRange) ∧
      ((if setup.curve = .a then 960 else 970) < r → r < 980 → judgeReading c setup r = .overRange) ∧
      (∀ x ∈ (if setup.curve = .a
          then [(960, -400), (900, -220), (800, -60), (700, 50), (600, 140), (500, 230), (400, 330), (300, 450),
                (200, 600), (100, 850), (50, 1100), (40, 1250)]
          else [(970, -400), (960, -364), (900, -150), (800, 10), (700, 110), (600, 200), (500, 280), (400, 370),
                (300, 480), (200, 630), (100, 880), (50, 1250)] : List (Nat × Int)),
        r = x.1 → judgeReading c setup r =
          if -400 ≤ x.2 + setup.offset ∧ x.2 + setup.offset ≤ 1250 then .good (x.2 + setup.offset) else .overRange)) ∧
    (∀ (b : LoadBudget) (v : Int),
      let low : Int := b.set.lowThreshold
      let crit : Int := b.set.criticalThreshold
      crit + 10 ≤ low →
      b.bandAfter (.good v) =
        (match b.band with
         | .normal => if v < crit then .critical else if v < low then .low else .normal
         | .low => if v < crit then .critical else if v < low + 5 then .low else .normal
         | .critical => if v < crit + 5 then .critical else if v < low + 5 then .low else .normal)) ∧
    (∀ b : LoadBudget, b.bandAfter .overRange = .normal))

/-- R161: the supply's and the motor current's readings: GOOD with the value to 40.0 V and to 3,000 mA, above that
OVER_RANGE with no value, whatever the setup; neither gives OPEN or SHORT. -/
def Obligations.SupplyAndCurrentReadings : Prop :=
  (∀ (setup : ChannelSetup) (r : Nat),
    judgeReading 5 setup r = (if r ≤ 400 then .good (r : Int) else .overRange) ∧
    judgeReading 6 setup r = (if r ≤ 3000 then .good (r : Int) else .overRange) ∧
    ∀ c : Fin 8, c = 5 ∨ c = 6 → judgeReading c setup r ≠ .opened ∧ judgeReading c setup r ≠ .short) ∧
  (∀ (s : State) (c : Fin 8) (a : ChannelAmend), s.taking → c = 5 ∨ c = 6 → (a.curve.isSome ∨ a.offset.isSome) →
    named 0 1 a.curve → namedT (-50) 50 a.offset → named 0 1 a.enabled →
    exec (.amendChannel c.val a) s = .next (s.replied .notAllowed []))

/-- R167, R169: a line's new level is timed for 50 ms and a return to the debounced level is no change; the level
held is the debounced level and the state is judged from it, a change raising INPUT_CHANGED except at the first
level. The first clause, that an edge to the level the line already has changes nothing, is the model's choice (log 3),
as is the clock (log 1, 2); that a line's level is kept under a held RESET too is log 13. -/
def Obligations.InputsAreDebouncedAndJudged : Prop :=
  (∀ (s : State) (i : InputName) (level : Level),
    let r := s.dev.inputs[inputIndex i]
    (level = r.line → exec (.inputLineEdge i level) s = .next s) ∧
    (level ≠ r.line → exec (.inputLineEdge i level) s = .next (s.withDev { s.dev with
      inputs := put s.dev.inputs (inputIndex i) { r with line := level
                                                         timer := if r.debounced = some level then none
                                                                  else some (s.dev.now + 50) } }))) ∧
  (∀ (s : State) (i : InputName) (due : Nat), s.awake →
    let r := s.dev.inputs[inputIndex i]
    let st : InputState := if r.line = r.reference then .onRef else .offRef
    r.timer = some due →
    ∃ t, exec (.inputChange i) s = .next t ∧
      t.dev.inputs = put s.dev.inputs (inputIndex i) { r with debounced := some r.line, timer := none, state := st } ∧
      (st ≠ r.state → r.debounced.isSome = true → t.dev.conditions.has .inputChanged = true) ∧
      (r.debounced = none → t.dev.conditions.has .inputChanged = s.dev.conditions.has .inputChanged) ∧
      (st ≠ r.state → s.frame (.clock :: .inputs :: saleParts) t) ∧
      (st = r.state → t = s.withDev { s.dev with now := max s.dev.now due, inputs := t.dev.inputs }))
end

