-- ==== Sys2Proof/Laws/State.lean ====
section
/-! SUPPORT. One lemma per field per update of the device's records, true by definition. -/
namespace Sys2Proof.Laws

open Sys2Proof.Machine

@[simp] theorem raise_now (c : Condition) (d : Device) : (Device.raise c d).now = d.now := rfl
@[simp] theorem raise_conditions (c : Condition) (d : Device) : (Device.raise c d).conditions = d.conditions.raise c := rfl
@[simp] theorem raise_table (c : Condition) (d : Device) : (Device.raise c d).table = d.table := rfl
@[simp] theorem raise_drive (c : Condition) (d : Device) : (Device.raise c d).drive = d.drive := rfl
@[simp] theorem raise_queue (c : Condition) (d : Device) : (Device.raise c d).queue = d.queue := rfl
@[simp] theorem raise_credit (c : Condition) (d : Device) : (Device.raise c d).credit = d.credit := rfl
@[simp] theorem raise_coins (c : Condition) (d : Device) : (Device.raise c d).coins = d.coins := rfl
@[simp] theorem raise_payout (c : Condition) (d : Device) : (Device.raise c d).payout = d.payout := rfl
@[simp] theorem raise_zones (c : Condition) (d : Device) : (Device.raise c d).zones = d.zones := rfl
@[simp] theorem raise_powerLossCharge (c : Condition) (d : Device) : (Device.raise c d).powerLossCharge = d.powerLossCharge := rfl
@[simp] theorem raise_compressor (c : Condition) (d : Device) : (Device.raise c d).compressor = d.compressor := rfl
@[simp] theorem raise_scanner (c : Condition) (d : Device) : (Device.raise c d).scanner = d.scanner := rfl
@[simp] theorem raise_inputs (c : Condition) (d : Device) : (Device.raise c d).inputs = d.inputs := rfl
@[simp] theorem raise_load (c : Condition) (d : Device) : (Device.raise c d).load = d.load := rfl

@[simp] theorem reach_now (t : Nat) (d : Device) : (Device.reach t d).now = max d.now t := rfl
@[simp] theorem reach_conditions (t : Nat) (d : Device) : (Device.reach t d).conditions = d.conditions := rfl
@[simp] theorem reach_table (t : Nat) (d : Device) : (Device.reach t d).table = d.table := rfl
@[simp] theorem reach_drive (t : Nat) (d : Device) : (Device.reach t d).drive = d.drive := rfl
@[simp] theorem reach_queue (t : Nat) (d : Device) : (Device.reach t d).queue = d.queue := rfl
@[simp] theorem reach_credit (t : Nat) (d : Device) : (Device.reach t d).credit = d.credit := rfl
@[simp] theorem reach_coins (t : Nat) (d : Device) : (Device.reach t d).coins = d.coins := rfl
@[simp] theorem reach_payout (t : Nat) (d : Device) : (Device.reach t d).payout = d.payout := rfl
@[simp] theorem reach_zones (t : Nat) (d : Device) : (Device.reach t d).zones = d.zones := rfl
@[simp] theorem reach_powerLossCharge (t : Nat) (d : Device) : (Device.reach t d).powerLossCharge = d.powerLossCharge := rfl
@[simp] theorem reach_compressor (t : Nat) (d : Device) : (Device.reach t d).compressor = d.compressor := rfl
@[simp] theorem reach_scanner (t : Nat) (d : Device) : (Device.reach t d).scanner = d.scanner := rfl
@[simp] theorem reach_inputs (t : Nat) (d : Device) : (Device.reach t d).inputs = d.inputs := rfl
@[simp] theorem reach_load (t : Nat) (d : Device) : (Device.reach t d).load = d.load := rfl

@[simp] theorem setSlot_now (n : Fin 64) (l : Option Lane) (d : Device) : (Device.setSlot n l d).now = d.now := rfl
@[simp] theorem setSlot_conditions (n : Fin 64) (l : Option Lane) (d : Device) : (Device.setSlot n l d).conditions = d.conditions := rfl
@[simp] theorem setSlot_table (n : Fin 64) (l : Option Lane) (d : Device) : (Device.setSlot n l d).table = { d.table with slots := put d.table.slots n l } := rfl
@[simp] theorem setSlot_drive (n : Fin 64) (l : Option Lane) (d : Device) : (Device.setSlot n l d).drive = d.drive := rfl
@[simp] theorem setSlot_queue (n : Fin 64) (l : Option Lane) (d : Device) : (Device.setSlot n l d).queue = d.queue := rfl
@[simp] theorem setSlot_credit (n : Fin 64) (l : Option Lane) (d : Device) : (Device.setSlot n l d).credit = d.credit := rfl
@[simp] theorem setSlot_coins (n : Fin 64) (l : Option Lane) (d : Device) : (Device.setSlot n l d).coins = d.coins := rfl
@[simp] theorem setSlot_payout (n : Fin 64) (l : Option Lane) (d : Device) : (Device.setSlot n l d).payout = d.payout := rfl
@[simp] theorem setSlot_zones (n : Fin 64) (l : Option Lane) (d : Device) : (Device.setSlot n l d).zones = d.zones := rfl
@[simp] theorem setSlot_powerLossCharge (n : Fin 64) (l : Option Lane) (d : Device) : (Device.setSlot n l d).powerLossCharge = d.powerLossCharge := rfl
@[simp] theorem setSlot_compressor (n : Fin 64) (l : Option Lane) (d : Device) : (Device.setSlot n l d).compressor = d.compressor := rfl
@[simp] theorem setSlot_scanner (n : Fin 64) (l : Option Lane) (d : Device) : (Device.setSlot n l d).scanner = d.scanner := rfl
@[simp] theorem setSlot_inputs (n : Fin 64) (l : Option Lane) (d : Device) : (Device.setSlot n l d).inputs = d.inputs := rfl
@[simp] theorem setSlot_load (n : Fin 64) (l : Option Lane) (d : Device) : (Device.setSlot n l d).load = d.load := rfl

@[simp] theorem giveStamp_now (d : Device) : (Device.giveStamp d).now = d.now := rfl
@[simp] theorem giveStamp_conditions (d : Device) : (Device.giveStamp d).conditions = d.conditions := rfl
@[simp] theorem giveStamp_table (d : Device) : (Device.giveStamp d).table = { d.table with stampCounter := d.table.stampCounter + 1 } := rfl
@[simp] theorem giveStamp_drive (d : Device) : (Device.giveStamp d).drive = d.drive := rfl
@[simp] theorem giveStamp_queue (d : Device) : (Device.giveStamp d).queue = d.queue := rfl
@[simp] theorem giveStamp_credit (d : Device) : (Device.giveStamp d).credit = d.credit := rfl
@[simp] theorem giveStamp_coins (d : Device) : (Device.giveStamp d).coins = d.coins := rfl
@[simp] theorem giveStamp_payout (d : Device) : (Device.giveStamp d).payout = d.payout := rfl
@[simp] theorem giveStamp_zones (d : Device) : (Device.giveStamp d).zones = d.zones := rfl
@[simp] theorem giveStamp_powerLossCharge (d : Device) : (Device.giveStamp d).powerLossCharge = d.powerLossCharge := rfl
@[simp] theorem giveStamp_compressor (d : Device) : (Device.giveStamp d).compressor = d.compressor := rfl
@[simp] theorem giveStamp_scanner (d : Device) : (Device.giveStamp d).scanner = d.scanner := rfl
@[simp] theorem giveStamp_inputs (d : Device) : (Device.giveStamp d).inputs = d.inputs := rfl
@[simp] theorem giveStamp_load (d : Device) : (Device.giveStamp d).load = d.load := rfl

@[simp] theorem leaveChanged_now (n : Fin 64) (d : Device) : (Device.leaveChanged n d).now = d.now := rfl
@[simp] theorem leaveChanged_conditions (n : Fin 64) (d : Device) : (Device.leaveChanged n d).conditions = d.conditions := rfl
@[simp] theorem leaveChanged_table (n : Fin 64) (d : Device) : (Device.leaveChanged n d).table = { d.table with changed := put d.table.changed n false } := rfl
@[simp] theorem leaveChanged_drive (n : Fin 64) (d : Device) : (Device.leaveChanged n d).drive = d.drive := rfl
@[simp] theorem leaveChanged_queue (n : Fin 64) (d : Device) : (Device.leaveChanged n d).queue = d.queue := rfl
@[simp] theorem leaveChanged_credit (n : Fin 64) (d : Device) : (Device.leaveChanged n d).credit = d.credit := rfl
@[simp] theorem leaveChanged_coins (n : Fin 64) (d : Device) : (Device.leaveChanged n d).coins = d.coins := rfl
@[simp] theorem leaveChanged_payout (n : Fin 64) (d : Device) : (Device.leaveChanged n d).payout = d.payout := rfl
@[simp] theorem leaveChanged_zones (n : Fin 64) (d : Device) : (Device.leaveChanged n d).zones = d.zones := rfl
@[simp] theorem leaveChanged_powerLossCharge (n : Fin 64) (d : Device) : (Device.leaveChanged n d).powerLossCharge = d.powerLossCharge := rfl
@[simp] theorem leaveChanged_compressor (n : Fin 64) (d : Device) : (Device.leaveChanged n d).compressor = d.compressor := rfl
@[simp] theorem leaveChanged_scanner (n : Fin 64) (d : Device) : (Device.leaveChanged n d).scanner = d.scanner := rfl
@[simp] theorem leaveChanged_inputs (n : Fin 64) (d : Device) : (Device.leaveChanged n d).inputs = d.inputs := rfl
@[simp] theorem leaveChanged_load (n : Fin 64) (d : Device) : (Device.leaveChanged n d).load = d.load := rfl

@[simp] theorem updateOrder_now (t : Nat) (f : Order → Order) (d : Device) : (Device.updateOrder t f d).now = d.now := rfl
@[simp] theorem updateOrder_conditions (t : Nat) (f : Order → Order) (d : Device) : (Device.updateOrder t f d).conditions = d.conditions := rfl
@[simp] theorem updateOrder_table (t : Nat) (f : Order → Order) (d : Device) : (Device.updateOrder t f d).table = d.table := rfl
@[simp] theorem updateOrder_drive (t : Nat) (f : Order → Order) (d : Device) : (Device.updateOrder t f d).drive = d.drive := rfl
@[simp] theorem updateOrder_queue (t : Nat) (f : Order → Order) (d : Device) : (Device.updateOrder t f d).queue = d.queue.update t f := rfl
@[simp] theorem updateOrder_credit (t : Nat) (f : Order → Order) (d : Device) : (Device.updateOrder t f d).credit = d.credit := rfl
@[simp] theorem updateOrder_coins (t : Nat) (f : Order → Order) (d : Device) : (Device.updateOrder t f d).coins = d.coins := rfl
@[simp] theorem updateOrder_payout (t : Nat) (f : Order → Order) (d : Device) : (Device.updateOrder t f d).payout = d.payout := rfl
@[simp] theorem updateOrder_zones (t : Nat) (f : Order → Order) (d : Device) : (Device.updateOrder t f d).zones = d.zones := rfl
@[simp] theorem updateOrder_powerLossCharge (t : Nat) (f : Order → Order) (d : Device) : (Device.updateOrder t f d).powerLossCharge = d.powerLossCharge := rfl
@[simp] theorem updateOrder_compressor (t : Nat) (f : Order → Order) (d : Device) : (Device.updateOrder t f d).compressor = d.compressor := rfl
@[simp] theorem updateOrder_scanner (t : Nat) (f : Order → Order) (d : Device) : (Device.updateOrder t f d).scanner = d.scanner := rfl
@[simp] theorem updateOrder_inputs (t : Nat) (f : Order → Order) (d : Device) : (Device.updateOrder t f d).inputs = d.inputs := rfl
@[simp] theorem updateOrder_load (t : Nat) (f : Order → Order) (d : Device) : (Device.updateOrder t f d).load = d.load := rfl

@[simp] theorem setUnitPos_now (p : UnitPosition) (d : Device) : (Device.setUnitPos p d).now = d.now := rfl
@[simp] theorem setUnitPos_conditions (p : UnitPosition) (d : Device) : (Device.setUnitPos p d).conditions = d.conditions := rfl
@[simp] theorem setUnitPos_table (p : UnitPosition) (d : Device) : (Device.setUnitPos p d).table = d.table := rfl
@[simp] theorem setUnitPos_drive (p : UnitPosition) (d : Device) : (Device.setUnitPos p d).drive = d.drive := rfl
@[simp] theorem setUnitPos_queue (p : UnitPosition) (d : Device) : (Device.setUnitPos p d).queue = { d.queue with unitPos := p } := rfl
@[simp] theorem setUnitPos_credit (p : UnitPosition) (d : Device) : (Device.setUnitPos p d).credit = d.credit := rfl
@[simp] theorem setUnitPos_coins (p : UnitPosition) (d : Device) : (Device.setUnitPos p d).coins = d.coins := rfl
@[simp] theorem setUnitPos_payout (p : UnitPosition) (d : Device) : (Device.setUnitPos p d).payout = d.payout := rfl
@[simp] theorem setUnitPos_zones (p : UnitPosition) (d : Device) : (Device.setUnitPos p d).zones = d.zones := rfl
@[simp] theorem setUnitPos_powerLossCharge (p : UnitPosition) (d : Device) : (Device.setUnitPos p d).powerLossCharge = d.powerLossCharge := rfl
@[simp] theorem setUnitPos_compressor (p : UnitPosition) (d : Device) : (Device.setUnitPos p d).compressor = d.compressor := rfl
@[simp] theorem setUnitPos_scanner (p : UnitPosition) (d : Device) : (Device.setUnitPos p d).scanner = d.scanner := rfl
@[simp] theorem setUnitPos_inputs (p : UnitPosition) (d : Device) : (Device.setUnitPos p d).inputs = d.inputs := rfl
@[simp] theorem setUnitPos_load (p : UnitPosition) (d : Device) : (Device.setUnitPos p d).load = d.load := rfl

@[simp] theorem setQueueState_now (q : QueueState) (d : Device) : (Device.setQueueState q d).now = d.now := rfl
@[simp] theorem setQueueState_conditions (q : QueueState) (d : Device) : (Device.setQueueState q d).conditions = d.conditions := rfl
@[simp] theorem setQueueState_table (q : QueueState) (d : Device) : (Device.setQueueState q d).table = d.table := rfl
@[simp] theorem setQueueState_drive (q : QueueState) (d : Device) : (Device.setQueueState q d).drive = d.drive := rfl
@[simp] theorem setQueueState_queue (q : QueueState) (d : Device) : (Device.setQueueState q d).queue = { d.queue with state := q } := rfl
@[simp] theorem setQueueState_credit (q : QueueState) (d : Device) : (Device.setQueueState q d).credit = d.credit := rfl
@[simp] theorem setQueueState_coins (q : QueueState) (d : Device) : (Device.setQueueState q d).coins = d.coins := rfl
@[simp] theorem setQueueState_payout (q : QueueState) (d : Device) : (Device.setQueueState q d).payout = d.payout := rfl
@[simp] theorem setQueueState_zones (q : QueueState) (d : Device) : (Device.setQueueState q d).zones = d.zones := rfl
@[simp] theorem setQueueState_powerLossCharge (q : QueueState) (d : Device) : (Device.setQueueState q d).powerLossCharge = d.powerLossCharge := rfl
@[simp] theorem setQueueState_compressor (q : QueueState) (d : Device) : (Device.setQueueState q d).compressor = d.compressor := rfl
@[simp] theorem setQueueState_scanner (q : QueueState) (d : Device) : (Device.setQueueState q d).scanner = d.scanner := rfl
@[simp] theorem setQueueState_inputs (q : QueueState) (d : Device) : (Device.setQueueState q d).inputs = d.inputs := rfl
@[simp] theorem setQueueState_load (q : QueueState) (d : Device) : (Device.setQueueState q d).load = d.load := rfl

@[simp] theorem setCommitted_now (n : Nat) (d : Device) : (Device.setCommitted n d).now = d.now := rfl
@[simp] theorem setCommitted_conditions (n : Nat) (d : Device) : (Device.setCommitted n d).conditions = d.conditions := rfl
@[simp] theorem setCommitted_table (n : Nat) (d : Device) : (Device.setCommitted n d).table = d.table := rfl
@[simp] theorem setCommitted_drive (n : Nat) (d : Device) : (Device.setCommitted n d).drive = d.drive := rfl
@[simp] theorem setCommitted_queue (n : Nat) (d : Device) : (Device.setCommitted n d).queue = d.queue := rfl
@[simp] theorem setCommitted_credit (n : Nat) (d : Device) : (Device.setCommitted n d).credit = { d.credit with committed := n } := rfl
@[simp] theorem setCommitted_coins (n : Nat) (d : Device) : (Device.setCommitted n d).coins = d.coins := rfl
@[simp] theorem setCommitted_payout (n : Nat) (d : Device) : (Device.setCommitted n d).payout = d.payout := rfl
@[simp] theorem setCommitted_zones (n : Nat) (d : Device) : (Device.setCommitted n d).zones = d.zones := rfl
@[simp] theorem setCommitted_powerLossCharge (n : Nat) (d : Device) : (Device.setCommitted n d).powerLossCharge = d.powerLossCharge := rfl
@[simp] theorem setCommitted_compressor (n : Nat) (d : Device) : (Device.setCommitted n d).compressor = d.compressor := rfl
@[simp] theorem setCommitted_scanner (n : Nat) (d : Device) : (Device.setCommitted n d).scanner = d.scanner := rfl
@[simp] theorem setCommitted_inputs (n : Nat) (d : Device) : (Device.setCommitted n d).inputs = d.inputs := rfl
@[simp] theorem setCommitted_load (n : Nat) (d : Device) : (Device.setCommitted n d).load = d.load := rfl

@[simp] theorem updateTube_now (t : Fin 6) (f : Tube → Tube) (d : Device) : (Device.updateTube t f d).now = d.now := rfl
@[simp] theorem updateTube_conditions (t : Fin 6) (f : Tube → Tube) (d : Device) : (Device.updateTube t f d).conditions = d.conditions := rfl
@[simp] theorem updateTube_table (t : Fin 6) (f : Tube → Tube) (d : Device) : (Device.updateTube t f d).table = d.table := rfl
@[simp] theorem updateTube_drive (t : Fin 6) (f : Tube → Tube) (d : Device) : (Device.updateTube t f d).drive = d.drive := rfl
@[simp] theorem updateTube_queue (t : Fin 6) (f : Tube → Tube) (d : Device) : (Device.updateTube t f d).queue = d.queue := rfl
@[simp] theorem updateTube_credit (t : Fin 6) (f : Tube → Tube) (d : Device) : (Device.updateTube t f d).credit = d.credit := rfl
@[simp] theorem updateTube_coins (t : Fin 6) (f : Tube → Tube) (d : Device) : (Device.updateTube t f d).coins = d.coins := rfl
@[simp] theorem updateTube_payout (t : Fin 6) (f : Tube → Tube) (d : Device) : (Device.updateTube t f d).payout = { d.payout with tubes := put d.payout.tubes t (f d.payout.tubes[t]) } := rfl
@[simp] theorem updateTube_zones (t : Fin 6) (f : Tube → Tube) (d : Device) : (Device.updateTube t f d).zones = d.zones := rfl
@[simp] theorem updateTube_powerLossCharge (t : Fin 6) (f : Tube → Tube) (d : Device) : (Device.updateTube t f d).powerLossCharge = d.powerLossCharge := rfl
@[simp] theorem updateTube_compressor (t : Fin 6) (f : Tube → Tube) (d : Device) : (Device.updateTube t f d).compressor = d.compressor := rfl
@[simp] theorem updateTube_scanner (t : Fin 6) (f : Tube → Tube) (d : Device) : (Device.updateTube t f d).scanner = d.scanner := rfl
@[simp] theorem updateTube_inputs (t : Fin 6) (f : Tube → Tube) (d : Device) : (Device.updateTube t f d).inputs = d.inputs := rfl
@[simp] theorem updateTube_load (t : Fin 6) (f : Tube → Tube) (d : Device) : (Device.updateTube t f d).load = d.load := rfl

@[simp] theorem updatePlan_now (f : Plan → Plan) (d : Device) : (Device.updatePlan f d).now = d.now := rfl
@[simp] theorem updatePlan_conditions (f : Plan → Plan) (d : Device) : (Device.updatePlan f d).conditions = d.conditions := rfl
@[simp] theorem updatePlan_table (f : Plan → Plan) (d : Device) : (Device.updatePlan f d).table = d.table := rfl
@[simp] theorem updatePlan_drive (f : Plan → Plan) (d : Device) : (Device.updatePlan f d).drive = d.drive := rfl
@[simp] theorem updatePlan_queue (f : Plan → Plan) (d : Device) : (Device.updatePlan f d).queue = d.queue := rfl
@[simp] theorem updatePlan_credit (f : Plan → Plan) (d : Device) : (Device.updatePlan f d).credit = d.credit := rfl
@[simp] theorem updatePlan_coins (f : Plan → Plan) (d : Device) : (Device.updatePlan f d).coins = d.coins := rfl
@[simp] theorem updatePlan_payout (f : Plan → Plan) (d : Device) : (Device.updatePlan f d).payout = { d.payout with plan := d.payout.plan.map f } := rfl
@[simp] theorem updatePlan_zones (f : Plan → Plan) (d : Device) : (Device.updatePlan f d).zones = d.zones := rfl
@[simp] theorem updatePlan_powerLossCharge (f : Plan → Plan) (d : Device) : (Device.updatePlan f d).powerLossCharge = d.powerLossCharge := rfl
@[simp] theorem updatePlan_compressor (f : Plan → Plan) (d : Device) : (Device.updatePlan f d).compressor = d.compressor := rfl
@[simp] theorem updatePlan_scanner (f : Plan → Plan) (d : Device) : (Device.updatePlan f d).scanner = d.scanner := rfl
@[simp] theorem updatePlan_inputs (f : Plan → Plan) (d : Device) : (Device.updatePlan f d).inputs = d.inputs := rfl
@[simp] theorem updatePlan_load (f : Plan → Plan) (d : Device) : (Device.updatePlan f d).load = d.load := rfl

@[simp] theorem setCoin_now (c : Option PendingCoin) (d : Device) : (Device.setCoin c d).now = d.now := rfl
@[simp] theorem setCoin_conditions (c : Option PendingCoin) (d : Device) : (Device.setCoin c d).conditions = d.conditions := rfl
@[simp] theorem setCoin_table (c : Option PendingCoin) (d : Device) : (Device.setCoin c d).table = d.table := rfl
@[simp] theorem setCoin_drive (c : Option PendingCoin) (d : Device) : (Device.setCoin c d).drive = d.drive := rfl
@[simp] theorem setCoin_queue (c : Option PendingCoin) (d : Device) : (Device.setCoin c d).queue = d.queue := rfl
@[simp] theorem setCoin_credit (c : Option PendingCoin) (d : Device) : (Device.setCoin c d).credit = d.credit := rfl
@[simp] theorem setCoin_coins (c : Option PendingCoin) (d : Device) : (Device.setCoin c d).coins = d.coins := rfl
@[simp] theorem setCoin_payout (c : Option PendingCoin) (d : Device) : (Device.setCoin c d).payout = { d.payout with coin := c } := rfl
@[simp] theorem setCoin_zones (c : Option PendingCoin) (d : Device) : (Device.setCoin c d).zones = d.zones := rfl
@[simp] theorem setCoin_powerLossCharge (c : Option PendingCoin) (d : Device) : (Device.setCoin c d).powerLossCharge = d.powerLossCharge := rfl
@[simp] theorem setCoin_compressor (c : Option PendingCoin) (d : Device) : (Device.setCoin c d).compressor = d.compressor := rfl
@[simp] theorem setCoin_scanner (c : Option PendingCoin) (d : Device) : (Device.setCoin c d).scanner = d.scanner := rfl
@[simp] theorem setCoin_inputs (c : Option PendingCoin) (d : Device) : (Device.setCoin c d).inputs = d.inputs := rfl
@[simp] theorem setCoin_load (c : Option PendingCoin) (d : Device) : (Device.setCoin c d).load = d.load := rfl

@[simp] theorem updateZone_now (z : Fin 2) (f : Zone → Zone) (d : Device) : (Device.updateZone z f d).now = d.now := rfl
@[simp] theorem updateZone_conditions (z : Fin 2) (f : Zone → Zone) (d : Device) : (Device.updateZone z f d).conditions = d.conditions := rfl
@[simp] theorem updateZone_table (z : Fin 2) (f : Zone → Zone) (d : Device) : (Device.updateZone z f d).table = d.table := rfl
@[simp] theorem updateZone_drive (z : Fin 2) (f : Zone → Zone) (d : Device) : (Device.updateZone z f d).drive = d.drive := rfl
@[simp] theorem updateZone_queue (z : Fin 2) (f : Zone → Zone) (d : Device) : (Device.updateZone z f d).queue = d.queue := rfl
@[simp] theorem updateZone_credit (z : Fin 2) (f : Zone → Zone) (d : Device) : (Device.updateZone z f d).credit = d.credit := rfl
@[simp] theorem updateZone_coins (z : Fin 2) (f : Zone → Zone) (d : Device) : (Device.updateZone z f d).coins = d.coins := rfl
@[simp] theorem updateZone_payout (z : Fin 2) (f : Zone → Zone) (d : Device) : (Device.updateZone z f d).payout = d.payout := rfl
@[simp] theorem updateZone_zones (z : Fin 2) (f : Zone → Zone) (d : Device) : (Device.updateZone z f d).zones = put d.zones z (f d.zones[z]) := rfl
@[simp] theorem updateZone_powerLossCharge (z : Fin 2) (f : Zone → Zone) (d : Device) : (Device.updateZone z f d).powerLossCharge = d.powerLossCharge := rfl
@[simp] theorem updateZone_compressor (z : Fin 2) (f : Zone → Zone) (d : Device) : (Device.updateZone z f d).compressor = d.compressor := rfl
@[simp] theorem updateZone_scanner (z : Fin 2) (f : Zone → Zone) (d : Device) : (Device.updateZone z f d).scanner = d.scanner := rfl
@[simp] theorem updateZone_inputs (z : Fin 2) (f : Zone → Zone) (d : Device) : (Device.updateZone z f d).inputs = d.inputs := rfl
@[simp] theorem updateZone_load (z : Fin 2) (f : Zone → Zone) (d : Device) : (Device.updateZone z f d).load = d.load := rfl

@[simp] theorem updateCompressor_now (f : Compressor → Compressor) (d : Device) : (Device.updateCompressor f d).now = d.now := rfl
@[simp] theorem updateCompressor_conditions (f : Compressor → Compressor) (d : Device) : (Device.updateCompressor f d).conditions = d.conditions := rfl
@[simp] theorem updateCompressor_table (f : Compressor → Compressor) (d : Device) : (Device.updateCompressor f d).table = d.table := rfl
@[simp] theorem updateCompressor_drive (f : Compressor → Compressor) (d : Device) : (Device.updateCompressor f d).drive = d.drive := rfl
@[simp] theorem updateCompressor_queue (f : Compressor → Compressor) (d : Device) : (Device.updateCompressor f d).queue = d.queue := rfl
@[simp] theorem updateCompressor_credit (f : Compressor → Compressor) (d : Device) : (Device.updateCompressor f d).credit = d.credit := rfl
@[simp] theorem updateCompressor_coins (f : Compressor → Compressor) (d : Device) : (Device.updateCompressor f d).coins = d.coins := rfl
@[simp] theorem updateCompressor_payout (f : Compressor → Compressor) (d : Device) : (Device.updateCompressor f d).payout = d.payout := rfl
@[simp] theorem updateCompressor_zones (f : Compressor → Compressor) (d : Device) : (Device.updateCompressor f d).zones = d.zones := rfl
@[simp] theorem updateCompressor_powerLossCharge (f : Compressor → Compressor) (d : Device) : (Device.updateCompressor f d).powerLossCharge = d.powerLossCharge := rfl
@[simp] theorem updateCompressor_compressor (f : Compressor → Compressor) (d : Device) : (Device.updateCompressor f d).compressor = f d.compressor := rfl
@[simp] theorem updateCompressor_scanner (f : Compressor → Compressor) (d : Device) : (Device.updateCompressor f d).scanner = d.scanner := rfl
@[simp] theorem updateCompressor_inputs (f : Compressor → Compressor) (d : Device) : (Device.updateCompressor f d).inputs = d.inputs := rfl
@[simp] theorem updateCompressor_load (f : Compressor → Compressor) (d : Device) : (Device.updateCompressor f d).load = d.load := rfl

@[simp] theorem updateScanner_now (f : Scanner → Scanner) (d : Device) : (Device.updateScanner f d).now = d.now := rfl
@[simp] theorem updateScanner_conditions (f : Scanner → Scanner) (d : Device) : (Device.updateScanner f d).conditions = d.conditions := rfl
@[simp] theorem updateScanner_table (f : Scanner → Scanner) (d : Device) : (Device.updateScanner f d).table = d.table := rfl
@[simp] theorem updateScanner_drive (f : Scanner → Scanner) (d : Device) : (Device.updateScanner f d).drive = d.drive := rfl
@[simp] theorem updateScanner_queue (f : Scanner → Scanner) (d : Device) : (Device.updateScanner f d).queue = d.queue := rfl
@[simp] theorem updateScanner_credit (f : Scanner → Scanner) (d : Device) : (Device.updateScanner f d).credit = d.credit := rfl
@[simp] theorem updateScanner_coins (f : Scanner → Scanner) (d : Device) : (Device.updateScanner f d).coins = d.coins := rfl
@[simp] theorem updateScanner_payout (f : Scanner → Scanner) (d : Device) : (Device.updateScanner f d).payout = d.payout := rfl
@[simp] theorem updateScanner_zones (f : Scanner → Scanner) (d : Device) : (Device.updateScanner f d).zones = d.zones := rfl
@[simp] theorem updateScanner_powerLossCharge (f : Scanner → Scanner) (d : Device) : (Device.updateScanner f d).powerLossCharge = d.powerLossCharge := rfl
@[simp] theorem updateScanner_compressor (f : Scanner → Scanner) (d : Device) : (Device.updateScanner f d).compressor = d.compressor := rfl
@[simp] theorem updateScanner_scanner (f : Scanner → Scanner) (d : Device) : (Device.updateScanner f d).scanner = f d.scanner := rfl
@[simp] theorem updateScanner_inputs (f : Scanner → Scanner) (d : Device) : (Device.updateScanner f d).inputs = d.inputs := rfl
@[simp] theorem updateScanner_load (f : Scanner → Scanner) (d : Device) : (Device.updateScanner f d).load = d.load := rfl

@[simp] theorem updateCoins_now (f : CoinAcceptance → CoinAcceptance) (d : Device) : (Device.updateCoins f d).now = d.now := rfl
@[simp] theorem updateCoins_conditions (f : CoinAcceptance → CoinAcceptance) (d : Device) : (Device.updateCoins f d).conditions = d.conditions := rfl
@[simp] theorem updateCoins_table (f : CoinAcceptance → CoinAcceptance) (d : Device) : (Device.updateCoins f d).table = d.table := rfl
@[simp] theorem updateCoins_drive (f : CoinAcceptance → CoinAcceptance) (d : Device) : (Device.updateCoins f d).drive = d.drive := rfl
@[simp] theorem updateCoins_queue (f : CoinAcceptance → CoinAcceptance) (d : Device) : (Device.updateCoins f d).queue = d.queue := rfl
@[simp] theorem updateCoins_credit (f : CoinAcceptance → CoinAcceptance) (d : Device) : (Device.updateCoins f d).credit = d.credit := rfl
@[simp] theorem updateCoins_coins (f : CoinAcceptance → CoinAcceptance) (d : Device) : (Device.updateCoins f d).coins = f d.coins := rfl
@[simp] theorem updateCoins_payout (f : CoinAcceptance → CoinAcceptance) (d : Device) : (Device.updateCoins f d).payout = d.payout := rfl
@[simp] theorem updateCoins_zones (f : CoinAcceptance → CoinAcceptance) (d : Device) : (Device.updateCoins f d).zones = d.zones := rfl
@[simp] theorem updateCoins_powerLossCharge (f : CoinAcceptance → CoinAcceptance) (d : Device) : (Device.updateCoins f d).powerLossCharge = d.powerLossCharge := rfl
@[simp] theorem updateCoins_compressor (f : CoinAcceptance → CoinAcceptance) (d : Device) : (Device.updateCoins f d).compressor = d.compressor := rfl
@[simp] theorem updateCoins_scanner (f : CoinAcceptance → CoinAcceptance) (d : Device) : (Device.updateCoins f d).scanner = d.scanner := rfl
@[simp] theorem updateCoins_inputs (f : CoinAcceptance → CoinAcceptance) (d : Device) : (Device.updateCoins f d).inputs = d.inputs := rfl
@[simp] theorem updateCoins_load (f : CoinAcceptance → CoinAcceptance) (d : Device) : (Device.updateCoins f d).load = d.load := rfl

@[simp] theorem updateInput_now (i : InputName) (f : Input → Input) (d : Device) : (Device.updateInput i f d).now = d.now := rfl
@[simp] theorem updateInput_conditions (i : InputName) (f : Input → Input) (d : Device) : (Device.updateInput i f d).conditions = d.conditions := rfl
@[simp] theorem updateInput_table (i : InputName) (f : Input → Input) (d : Device) : (Device.updateInput i f d).table = d.table := rfl
@[simp] theorem updateInput_drive (i : InputName) (f : Input → Input) (d : Device) : (Device.updateInput i f d).drive = d.drive := rfl
@[simp] theorem updateInput_queue (i : InputName) (f : Input → Input) (d : Device) : (Device.updateInput i f d).queue = d.queue := rfl
@[simp] theorem updateInput_credit (i : InputName) (f : Input → Input) (d : Device) : (Device.updateInput i f d).credit = d.credit := rfl
@[simp] theorem updateInput_coins (i : InputName) (f : Input → Input) (d : Device) : (Device.updateInput i f d).coins = d.coins := rfl
@[simp] theorem updateInput_payout (i : InputName) (f : Input → Input) (d : Device) : (Device.updateInput i f d).payout = d.payout := rfl
@[simp] theorem updateInput_zones (i : InputName) (f : Input → Input) (d : Device) : (Device.updateInput i f d).zones = d.zones := rfl
@[simp] theorem updateInput_powerLossCharge (i : InputName) (f : Input → Input) (d : Device) : (Device.updateInput i f d).powerLossCharge = d.powerLossCharge := rfl
@[simp] theorem updateInput_compressor (i : InputName) (f : Input → Input) (d : Device) : (Device.updateInput i f d).compressor = d.compressor := rfl
@[simp] theorem updateInput_scanner (i : InputName) (f : Input → Input) (d : Device) : (Device.updateInput i f d).scanner = d.scanner := rfl
@[simp] theorem updateInput_inputs (i : InputName) (f : Input → Input) (d : Device) : (Device.updateInput i f d).inputs = put d.inputs (inputIndex i) (f d.inputs[inputIndex i]) := rfl
@[simp] theorem updateInput_load (i : InputName) (f : Input → Input) (d : Device) : (Device.updateInput i f d).load = d.load := rfl

@[simp] theorem updateJob_now (f : ActiveJob → ActiveJob) (d : Device) : (Device.updateJob f d).now = d.now := rfl
@[simp] theorem updateJob_conditions (f : ActiveJob → ActiveJob) (d : Device) : (Device.updateJob f d).conditions = d.conditions := rfl
@[simp] theorem updateJob_table (f : ActiveJob → ActiveJob) (d : Device) : (Device.updateJob f d).table = d.table := rfl
@[simp] theorem updateJob_drive (f : ActiveJob → ActiveJob) (d : Device) : (Device.updateJob f d).drive = { d.drive with active := d.drive.active.map f } := rfl
@[simp] theorem updateJob_queue (f : ActiveJob → ActiveJob) (d : Device) : (Device.updateJob f d).queue = d.queue := rfl
@[simp] theorem updateJob_credit (f : ActiveJob → ActiveJob) (d : Device) : (Device.updateJob f d).credit = d.credit := rfl
@[simp] theorem updateJob_coins (f : ActiveJob → ActiveJob) (d : Device) : (Device.updateJob f d).coins = d.coins := rfl
@[simp] theorem updateJob_payout (f : ActiveJob → ActiveJob) (d : Device) : (Device.updateJob f d).payout = d.payout := rfl
@[simp] theorem updateJob_zones (f : ActiveJob → ActiveJob) (d : Device) : (Device.updateJob f d).zones = d.zones := rfl
@[simp] theorem updateJob_powerLossCharge (f : ActiveJob → ActiveJob) (d : Device) : (Device.updateJob f d).powerLossCharge = d.powerLossCharge := rfl
@[simp] theorem updateJob_compressor (f : ActiveJob → ActiveJob) (d : Device) : (Device.updateJob f d).compressor = d.compressor := rfl
@[simp] theorem updateJob_scanner (f : ActiveJob → ActiveJob) (d : Device) : (Device.updateJob f d).scanner = d.scanner := rfl
@[simp] theorem updateJob_inputs (f : ActiveJob → ActiveJob) (d : Device) : (Device.updateJob f d).inputs = d.inputs := rfl
@[simp] theorem updateJob_load (f : ActiveJob → ActiveJob) (d : Device) : (Device.updateJob f d).load = d.load := rfl

@[simp] theorem endJob_now (d : Device) : (Device.endJob d).now = d.now := rfl
@[simp] theorem endJob_conditions (d : Device) : (Device.endJob d).conditions = d.conditions := rfl
@[simp] theorem endJob_table (d : Device) : (Device.endJob d).table = d.table := rfl
@[simp] theorem endJob_drive (d : Device) : (Device.endJob d).drive = { d.drive with active := none } := rfl
@[simp] theorem endJob_queue (d : Device) : (Device.endJob d).queue = d.queue := rfl
@[simp] theorem endJob_credit (d : Device) : (Device.endJob d).credit = d.credit := rfl
@[simp] theorem endJob_coins (d : Device) : (Device.endJob d).coins = d.coins := rfl
@[simp] theorem endJob_payout (d : Device) : (Device.endJob d).payout = d.payout := rfl
@[simp] theorem endJob_zones (d : Device) : (Device.endJob d).zones = d.zones := rfl
@[simp] theorem endJob_powerLossCharge (d : Device) : (Device.endJob d).powerLossCharge = d.powerLossCharge := rfl
@[simp] theorem endJob_compressor (d : Device) : (Device.endJob d).compressor = d.compressor := rfl
@[simp] theorem endJob_scanner (d : Device) : (Device.endJob d).scanner = d.scanner := rfl
@[simp] theorem endJob_inputs (d : Device) : (Device.endJob d).inputs = d.inputs := rfl
@[simp] theorem endJob_load (d : Device) : (Device.endJob d).load = d.load := rfl

@[simp] theorem unlist_now (t : Nat) (d : Device) : (Device.unlist t d).now = d.now := rfl
@[simp] theorem unlist_conditions (t : Nat) (d : Device) : (Device.unlist t d).conditions = d.conditions := rfl
@[simp] theorem unlist_table (t : Nat) (d : Device) : (Device.unlist t d).table = d.table := rfl
@[simp] theorem unlist_drive (t : Nat) (d : Device) : (Device.unlist t d).drive = { d.drive with jobs := d.drive.jobs.filter (·.tag? ≠ some t) } := rfl
@[simp] theorem unlist_queue (t : Nat) (d : Device) : (Device.unlist t d).queue = d.queue := rfl
@[simp] theorem unlist_credit (t : Nat) (d : Device) : (Device.unlist t d).credit = d.credit := rfl
@[simp] theorem unlist_coins (t : Nat) (d : Device) : (Device.unlist t d).coins = d.coins := rfl
@[simp] theorem unlist_payout (t : Nat) (d : Device) : (Device.unlist t d).payout = d.payout := rfl
@[simp] theorem unlist_zones (t : Nat) (d : Device) : (Device.unlist t d).zones = d.zones := rfl
@[simp] theorem unlist_powerLossCharge (t : Nat) (d : Device) : (Device.unlist t d).powerLossCharge = d.powerLossCharge := rfl
@[simp] theorem unlist_compressor (t : Nat) (d : Device) : (Device.unlist t d).compressor = d.compressor := rfl
@[simp] theorem unlist_scanner (t : Nat) (d : Device) : (Device.unlist t d).scanner = d.scanner := rfl
@[simp] theorem unlist_inputs (t : Nat) (d : Device) : (Device.unlist t d).inputs = d.inputs := rfl
@[simp] theorem unlist_load (t : Nat) (d : Device) : (Device.unlist t d).load = d.load := rfl

@[simp] theorem event_dev (f : Device → Device) (s : State) :
    (State.event f s).dev = if s.port.held then s.dev else f s.dev := by
  unfold State.event
  split <;> rfl
@[simp] theorem event_port (f : Device → Device) (s : State) : (State.event f s).port = s.port := by
  unfold State.event
  split <;> rfl
@[simp] theorem event_mem (f : Device → Device) (s : State) : (State.event f s).mem = s.mem := by
  unfold State.event
  split <;> rfl
@[simp] theorem event_pending (f : Device → Device) (s : State) : (State.event f s).pending = s.pending := by
  unfold State.event
  split <;> rfl

@[simp] theorem ungatedEvent_dev (f : Device → Device) (s : State) : (State.ungatedEvent f s).dev = f s.dev := rfl
@[simp] theorem ungatedEvent_port (f : Device → Device) (s : State) : (State.ungatedEvent f s).port = s.port := rfl
@[simp] theorem ungatedEvent_mem (f : Device → Device) (s : State) : (State.ungatedEvent f s).mem = s.mem := rfl
@[simp] theorem ungatedEvent_pending (f : Device → Device) (s : State) : (State.ungatedEvent f s).pending = s.pending := rfl

@[simp] theorem queueFitChecks_drive (d : Device) :
    (Device.queueFitChecks d).drive = { d.drive with jobs := d.table.fitChecks } := rfl
@[simp] theorem queueFitChecks_table (d : Device) : (Device.queueFitChecks d).table = d.table := rfl
@[simp] theorem queueFitChecks_queue (d : Device) : (Device.queueFitChecks d).queue = d.queue := rfl
@[simp] theorem queueFitChecks_load (d : Device) : (Device.queueFitChecks d).load = d.load := rfl
@[simp] theorem queueFitChecks_zones (d : Device) : (Device.queueFitChecks d).zones = d.zones := rfl

@[simp] theorem updatePort_dev (f : Port → Port) (s : State) : (State.updatePort f s).dev = s.dev := rfl
@[simp] theorem updatePort_port (f : Port → Port) (s : State) : (State.updatePort f s).port = f s.port := rfl
@[simp] theorem updatePort_mem (f : Port → Port) (s : State) : (State.updatePort f s).mem = s.mem := rfl
@[simp] theorem updatePort_pending (f : Port → Port) (s : State) : (State.updatePort f s).pending = s.pending := rfl

end Sys2Proof.Laws
end

