-- ==== Sys2Proof/Laws/Load.lean ====
section
/-! SUPPORT. What a grant, the grant test, a claim, a give-back and a withdrawal can do, said once: the parts they
change, the order they keep, and the budget they never exceed. -/
namespace Sys2Proof.Laws

open Sys2Proof.Machine

/-- A frame holds of a record with itself. -/
theorem changesOnly_refl (ps : List Part) (d : Device) : d.changesOnly ps d := by
  intro p _
  cases p <;> rfl

/-- Frames compose. -/
theorem changesOnly_trans {ps : List Part} {a b c : Device} (h : a.changesOnly ps b) (k : b.changesOnly ps c) :
    a.changesOnly ps c := by
  intro p hp
  have h1 := h p hp
  have h2 := k p hp
  cases p <;> exact h2.trans h1

/-- A frame may name more parts. -/
theorem changesOnly_mono {ps qs : List Part} {a b : Device} (h : a.changesOnly ps b) (sub : ∀ p, p ∈ ps → p ∈ qs) :
    a.changesOnly qs b := fun p hp => h p fun hm => hp (sub p hm)

/-- Pulsing changes the payout engine alone. -/
theorem tryPulse_frame (d : Device) : d.changesOnly [.payout] d.tryPulse := by
  unfold Device.tryPulse
  split
  · exact changesOnly_refl _ d
  · split
    · split
      · exact changesOnly_refl _ d
      · intro p hp
        cases p <;> first | rfl | simp at hp
    · exact changesOnly_refl _ d

/-- A grant changes its claimant's records and the scanner alone; it makes no claim and gives nothing back. -/
theorem onGrant_frame (who : Claimant) (d : Device) :
    d.changesOnly [.drive, .payout, .zones, .compressor, .scanner] (d.onGrant who) := by
  cases who with
  | drive =>
    simp only [Device.onGrant, Device.driveGranted]
    split
    · exact changesOnly_refl _ d
    · split <;> (intro p hp; cases p <;> first | rfl | simp at hp)
  | payout =>
    simp only [Device.onGrant, Device.payoutGranted]
    have h := tryPulse_frame (d.updatePlan Plan.eject)
    intro p hp
    have h' := h p (fun hm => hp (by simp at hm ⊢; simp [hm]))
    cases p <;> first | exact h' | simp at hp
  | compressor => intro p hp; cases p <;> first | rfl | simp at hp
  | heater z => intro p hp; cases p <;> first | rfl | simp at hp

/-- A grant to another claimant leaves the drive as it is. -/
theorem onGrant_drive {who : Claimant} (h : who ≠ .drive) (d : Device) : (d.onGrant who).drive = d.drive := by
  cases who with
  | drive => exact absurd rfl h
  | payout => exact tryPulse_frame (d.updatePlan Plan.eject) .drive (by simp)
  | compressor => rfl
  | heater z => rfl

/-- A grant to another claimant leaves the compressor as it is. -/
theorem onGrant_compressor {who : Claimant} (h : who ≠ .compressor) (d : Device) :
    (d.onGrant who).compressor = d.compressor := by
  cases who with
  | drive =>
    simp only [Device.onGrant, Device.driveGranted]
    split
    · rfl
    · split <;> rfl
  | payout => exact tryPulse_frame (d.updatePlan Plan.eject) .compressor (by simp)
  | compressor => exact absurd rfl h
  | heater z => rfl

/-- A grant to another claimant leaves the payout engine as it is. -/
theorem onGrant_payout {who : Claimant} (h : who ≠ .payout) (d : Device) : (d.onGrant who).payout = d.payout := by
  cases who with
  | drive =>
    simp only [Device.onGrant, Device.driveGranted]
    split
    · rfl
    · split <;> rfl
  | payout => exact absurd rfl h
  | compressor => rfl
  | heater z => rfl

/-- What the grant test can do: it moves a prefix of the waiters to the grant set, in order, and tells each. -/
theorem grantLoop_spec (fuel : Nat) : ∀ d : Device,
    d.changesOnly grantParts (d.grantLoop fuel) ∧
    (d.grantLoop fuel).load.set = d.load.set ∧ (d.grantLoop fuel).load.band = d.load.band ∧
    (d.grantLoop fuel).load.supply = d.load.supply ∧
    (d.grantLoop fuel).load.grants ++ (d.grantLoop fuel).load.waiters = d.load.grants ++ d.load.waiters ∧
    (d.load.granted ≤ d.load.set.budget → (d.grantLoop fuel).load.granted ≤ d.load.set.budget) ∧
    (d.load.band ≠ .normal → d.grantLoop fuel = d) ∧
    ((∀ c ∈ d.load.waiters, c.who ≠ .drive) → (d.grantLoop fuel).drive = d.drive) ∧
    ((∀ c ∈ d.load.waiters, c.who ≠ .compressor) → (d.grantLoop fuel).compressor = d.compressor) ∧
    ((∀ c ∈ d.load.waiters, c.who ≠ .payout) → (d.grantLoop fuel).payout = d.payout) := by
  induction fuel with
  | zero => intro d; exact ⟨changesOnly_refl _ d, rfl, rfl, rfl, rfl, id, fun _ => rfl, fun _ => rfl, fun _ => rfl, fun _ => rfl⟩
  | succ n ih =>
    intro d
    simp only [Device.grantLoop]
    split
    · next c rest hb hw =>
      split
      · next hfit =>
        obtain ⟨f, e1, e2, e3, e4, e5, _, e7, e8, e9⟩ :=
          ih (Device.onGrant c.who { d with load := d.load.grantHead c rest })
        have g := onGrant_frame c.who { d with load := d.load.grantHead c rest }
        have gl : (Device.onGrant c.who { d with load := d.load.grantHead c rest }).load = d.load.grantHead c rest :=
          g .load (by simp)
        rw [gl] at e1 e2 e3 e4 e5 e7 e8 e9
        refine ⟨?_, e1, e2, e3, ?_, ?_, fun hn => absurd hb hn, ?_, ?_, ?_⟩
        · refine changesOnly_trans ?_ f
          intro p hp
          have := g p (fun hm => hp (by simp [grantParts] at hm ⊢; rcases hm with h | h | h | h | h <;> simp [h]))
          cases p <;> first | exact this | simp [grantParts] at hp
        · rw [e4]; simp [LoadBudget.grantHead, hw]
        · intro hs
          refine e5 ?_
          simp only [LoadBudget.granted, LoadBudget.grantHead, LoadBudget.free, List.map_append, List.sum_append,
            List.map_cons, List.map_nil, List.sum_cons, List.sum_nil] at hs hfit ⊢
          omega
        · intro hd
          rw [hw] at hd
          rw [e7 fun x hx => hd x (List.mem_cons_of_mem _ hx), onGrant_drive (hd c List.mem_cons_self)]
        · intro hd
          rw [hw] at hd
          rw [e8 fun x hx => hd x (List.mem_cons_of_mem _ hx), onGrant_compressor (hd c List.mem_cons_self)]
        · intro hd
          rw [hw] at hd
          rw [e9 fun x hx => hd x (List.mem_cons_of_mem _ hx), onGrant_payout (hd c List.mem_cons_self)]
      · exact ⟨changesOnly_refl _ d, rfl, rfl, rfl, rfl, id, fun _ => rfl, fun _ => rfl, fun _ => rfl, fun _ => rfl⟩
    · exact ⟨changesOnly_refl _ d, rfl, rfl, rfl, rfl, id, fun _ => rfl, fun _ => rfl, fun _ => rfl, fun _ => rfl⟩

/-- After a grant test in NORMAL, with the budget kept, a waiting head does not fit. -/
theorem grantLoop_exhausts (fuel : Nat) : ∀ d : Device, d.load.waiters.length ≤ fuel → d.load.band = .normal →
    ∀ c, (d.grantLoop fuel).load.waiters.head? = some c → (d.grantLoop fuel).load.free < c.units := by
  induction fuel with
  | zero =>
    intro d hl _ c hc
    have : d.load.waiters = [] := List.length_eq_zero_iff.mp (by omega)
    simp [Device.grantLoop, this] at hc
  | succ n ih =>
    intro d hl hb c hc
    simp only [Device.grantLoop] at hc ⊢
    cases hw : d.load.waiters with
    | nil => simp [hw, hb] at hc
    | cons x rest =>
      simp only [hb, hw] at hc ⊢
      split at hc
      · next hfit =>
        rw [if_pos hfit]
        have gl : (Device.onGrant x.who { d with load := d.load.grantHead x rest }).load = d.load.grantHead x rest :=
          onGrant_frame x.who _ .load (by simp)
        refine ih _ ?_ ?_ c hc
        · rw [gl]; simp only [LoadBudget.grantHead]; rw [hw] at hl; simp at hl; omega
        · rw [gl]; exact hb
      · next hfit =>
        rw [if_neg hfit]
        rw [hw] at hc
        simp at hc
        subst hc
        omega

/-- A claim changes only what its grant test may. -/
theorem claim_frame (c : Claim) (d : Device) : d.changesOnly grantParts (d.claim c) := by
  refine changesOnly_trans ?_ (grantLoop_spec _ _).1
  intro p hp
  cases p <;> first | rfl | simp [grantParts] at hp

/-- A claim is waiting or granted, behind every entry there was. -/
theorem claim_entries (c : Claim) (d : Device) :
    (d.claim c).load.grants ++ (d.claim c).load.waiters = d.load.grants ++ d.load.waiters ++ [c] := by
  simp only [Device.claim, Device.grantTest]
  rw [(grantLoop_spec _ _).2.2.2.2.1]
  simp

/-- A give-back changes only what its grant test may. -/
theorem giveBack_frame (who : Claimant) (d : Device) : d.changesOnly grantParts (d.giveBack who) := by
  unfold Device.giveBack
  split
  · refine changesOnly_trans ?_ (grantLoop_spec _ _).1
    intro p hp
    cases p <;> first | rfl | simp [grantParts] at hp
  · exact changesOnly_refl _ d

/-- A withdrawal changes only what its grant test may. -/
theorem withdraw_frame (who : Claimant) (d : Device) : d.changesOnly grantParts (d.withdraw who) := by
  simp only [Device.withdraw]
  split
  · refine changesOnly_trans ?_ (grantLoop_spec _ _).1
    intro p hp
    cases p <;> first | rfl | simp [grantParts] at hp
  · intro p hp
    cases p <;> first | rfl | simp [grantParts] at hp

/-- What is left after some entries go is granted no more than before. -/
theorem filter_granted_le (f : Claim → Bool) (cs : List Claim) :
    ((cs.filter f).map (·.units)).sum ≤ (cs.map (·.units)).sum := by
  induction cs with
  | nil => simp
  | cons c rest ih =>
    simp only [List.filter_cons]
    split <;> simp only [List.map_cons, List.sum_cons] <;> omega

/-- A grant test keeps the budget's promise. -/
theorem grantTest_sound {d : Device} (h : d.load.sound) : d.grantTest.load.sound := by
  obtain ⟨_, e1, e2, _, _, e5, e6, _⟩ := grantLoop_spec d.load.waiters.length d
  refine ⟨?_, ?_⟩
  · simp only [Device.grantTest]; rw [e1]; exact e5 h.1
  · intro hb
    simp only [Device.grantTest] at hb ⊢
    rw [e2] at hb
    rw [e6 (by rw [hb]; simp)]
    exact h.2 hb

/-- A claim keeps the budget's promise. -/
theorem claim_sound (c : Claim) {d : Device} (h : d.load.sound) : (d.claim c).load.sound := grantTest_sound (d := { d with load := { d.load with waiters := d.load.waiters ++ [c] } }) h

/-- A give-back keeps the budget's promise. -/
theorem giveBack_sound (who : Claimant) {d : Device} (h : d.load.sound) : (d.giveBack who).load.sound := by
  unfold Device.giveBack
  split
  · refine grantTest_sound ⟨?_, ?_⟩
    · exact Nat.le_trans (filter_granted_le _ _) h.1
    · intro hb
      simp only at hb ⊢
      rw [h.2 hb]; rfl
  · exact h

/-- A withdrawal keeps the budget's promise. -/
theorem withdraw_sound (who : Claimant) {d : Device} (h : d.load.sound) : (d.withdraw who).load.sound := by
  simp only [Device.withdraw]
  split
  · exact grantTest_sound h
  · exact h

/-- Dropping a claim, waiting or granted, keeps the budget's promise. -/
theorem dropLoad_sound (who : Claimant) {d : Device} (h : d.load.sound) : (d.dropLoad who).load.sound := by
  unfold Device.dropLoad
  split
  · exact giveBack_sound who h
  · exact withdraw_sound who h

end Sys2Proof.Laws
end

