-- ==== Sys2Proof/Laws/Memory.lean ====
section
/-! SUPPORT. The image memory: every operation keeps the canonical form, and what a byte reads after a write. -/
namespace Sys2Proof.Laws

open Sys2Proof.Machine

/-- A list that rises above `b` rises above everything lower. -/
theorem rising_mono {m : Memory} {a b : Nat} (h : a ≤ b) (hb : Memory.rising b m = true) : Memory.rising a m = true := by
  cases m with
  | nil => rfl
  | cons x rest =>
    obtain ⟨k, c⟩ := x
    simp only [Memory.rising, Bool.and_eq_true, decide_eq_true_eq] at hb ⊢
    exact ⟨⟨by omega, hb.1.2⟩, hb.2⟩

theorem insert_rising {a : Nat} {v : Byte} (hv : v ≠ Config.blankByte) :
    ∀ {m : Memory} {low : Nat}, low ≤ a → Memory.rising low m = true → Memory.rising low (Memory.insert a v m) = true := by
  intro m
  induction m with
  | nil =>
    intro low h _
    simp [Memory.insert, Memory.rising, h, hv]
  | cons x rest ih =>
    intro low h hm
    obtain ⟨k, c⟩ := x
    simp only [Memory.rising, Bool.and_eq_true, decide_eq_true_eq] at hm
    simp only [Memory.insert]
    split
    · simp only [Memory.rising, Bool.and_eq_true, decide_eq_true_eq]
      exact ⟨⟨h, by simpa using hv⟩, ⟨by omega, hm.1.2⟩, hm.2⟩
    · split
      · subst_vars
        simp only [Memory.rising, Bool.and_eq_true, decide_eq_true_eq]
        exact ⟨⟨h, by simpa using hv⟩, hm.2⟩
      · simp only [Memory.rising, Bool.and_eq_true, decide_eq_true_eq]
        exact ⟨hm.1, ih (by omega) hm.2⟩

theorem erase_rising {a : Nat} :
    ∀ {m : Memory} {low : Nat}, Memory.rising low m = true → Memory.rising low (Memory.erase a m) = true := by
  intro m
  induction m with
  | nil => intro low _; rfl
  | cons x rest ih =>
    intro low hm
    obtain ⟨k, c⟩ := x
    simp only [Memory.rising, Bool.and_eq_true, decide_eq_true_eq] at hm
    simp only [Memory.erase]
    split
    · exact rising_mono (by omega) hm.2
    · simp only [Memory.rising, Bool.and_eq_true, decide_eq_true_eq]
      exact ⟨hm.1, ih hm.2⟩

/-- A write keeps the canonical form. -/
theorem write_wf (a : Nat) (v : Byte) {m : Memory} (h : m.wf = true) : (m.write a v).wf = true := by
  unfold Memory.write
  split
  · exact erase_rising h
  · exact insert_rising (by assumption) (Nat.zero_le a) h

/-- Consecutive writes keep the canonical form. -/
theorem writeAll_wf (bs : List Byte) : ∀ (a : Nat) {m : Memory}, m.wf = true → (m.writeAll a bs).wf = true := by
  induction bs with
  | nil => intro a m h; exact h
  | cons b rest ih => intro a m h; exact ih (a + 1) (write_wf a b h)

/-- The memory at reset is canonical. -/
theorem reset_mem_wf : State.reset.mem.wf = true := rfl

theorem read_below {m : Memory} : ∀ {low a : Nat}, Memory.rising low m = true → a < low → m.read a = Config.blankByte := by
  induction m with
  | nil => intro low a _ _; rfl
  | cons x rest ih =>
    intro low a hm ha
    obtain ⟨k, c⟩ := x
    simp only [Memory.rising, Bool.and_eq_true, decide_eq_true_eq] at hm
    simp only [Memory.read]
    rw [if_neg (by omega)]
    exact ih hm.2 (by omega)

theorem read_insert (a b : Nat) (v : Byte) : ∀ m : Memory,
    (Memory.insert a v m).read b = if b = a then v else m.read b := by
  intro m
  induction m with
  | nil => simp [Memory.insert, Memory.read]
  | cons x rest ih =>
    obtain ⟨k, c⟩ := x
    simp only [Memory.insert]
    split
    · simp [Memory.read]
    · split
      · subst_vars; simp only [Memory.read]; split <;> rfl
      · simp only [Memory.read, ih]
        split <;> split <;> first | rfl | omega

theorem read_erase (a b : Nat) : ∀ {m : Memory} {low : Nat}, Memory.rising low m = true →
    (Memory.erase a m).read b = if b = a then Config.blankByte else m.read b := by
  intro m
  induction m with
  | nil => intro _ _; simp [Memory.erase, Memory.read]
  | cons x rest ih =>
    intro low hm
    obtain ⟨k, c⟩ := x
    simp only [Memory.rising, Bool.and_eq_true, decide_eq_true_eq] at hm
    simp only [Memory.erase]
    split
    · rename_i e
      subst e
      by_cases h : b = a
      · rw [if_pos h, read_below hm.2 (by omega)]
      · simp only [Memory.read, if_neg h]
    · simp only [Memory.read, ih hm.2]
      split <;> split <;> first | rfl | omega

/-- What a byte reads after a write. -/
theorem read_write (a b : Nat) (v : Byte) {m : Memory} (h : m.wf = true) :
    (m.write a v).read b = if b = a then v else m.read b := by
  unfold Memory.write
  split
  · subst_vars; exact read_erase a b h
  · exact read_insert a b v m

/-- What a byte reads after consecutive writes. -/
theorem read_writeAll (bs : List Byte) : ∀ (a b : Nat) {m : Memory}, m.wf = true →
    (m.writeAll a bs).read b = if a ≤ b ∧ b < a + bs.length then bs.getD (b - a) 0#8 else m.read b := by
  induction bs with
  | nil =>
    intro a b m _
    simp only [Memory.writeAll, List.length_nil]
    rw [if_neg (by omega)]
  | cons x rest ih =>
    intro a b m h
    simp only [Memory.writeAll, List.length_cons]
    rw [ih (a + 1) b (write_wf a x h), read_write a b x h]
    by_cases h1 : b = a
    · subst h1
      rw [if_neg (by omega), if_pos rfl, if_pos (by omega)]
      simp
    · by_cases h2 : a + 1 ≤ b ∧ b < a + 1 + rest.length
      · rw [if_pos h2, if_pos (by omega)]
        have : b - a = (b - (a + 1)) + 1 := by omega
        rw [this]; simp
      · rw [if_neg h2, if_neg h1, if_neg (by omega)]

end Sys2Proof.Laws
end

