-- ==== Sys2Proof/Laws/PerInstr.lean ====
section
/-! SUPPORT. Per command: what its request frame is. Every request has a code of the table and a body that fits
the 60 bytes of R179, whatever its operands; a command that is no request has neither. -/
namespace Sys2Proof.Laws.Requests

/-- R179: a request's code is in the table and its body is at most 60 bytes. -/
def Statement (i : Instr) : Prop :=
  ∀ code body, requestCode i = some (code, body) → codeKnown code = true ∧ body.length ≤ 60

/-- What a code and a body that keep R179 give. -/
theorem of_code {i : Instr} {code : Nat} {body : List Byte} (h : requestCode i = some (code, body))
    (known : codeKnown code = true) (short : body.length ≤ 60) : Statement i := by
  intro c b e
  rw [h] at e
  cases e
  exact ⟨known, short⟩

/-- What no code gives. -/
theorem of_none {i : Instr} (h : requestCode i = none) : Statement i := by
  intro c b e
  rw [h] at e
  cases e

/-- A named byte takes one byte at most. -/
theorem namedU8_length (n : Option Nat) : (namedU8 n).length ≤ 1 := by cases n <;> simp [namedU8, u8]

/-- A named pair takes two bytes at most. -/
theorem namedU16_length (n : Option Nat) : (namedU16 n).length ≤ 2 := by cases n <;> simp [namedU16, u16]

/-- A named temperature takes two bytes at most. -/
theorem namedI16_length (t : Option Int) : (namedI16 t).length ≤ 2 := by cases t <;> simp [namedI16, i16, u16]

/-- A named byte that may be absent takes one byte at most. -/
theorem namedOptU8_length (n : Option (Option Nat)) : (namedOptU8 n).length ≤ 1 := by
  cases n <;> simp [namedOptU8, optU8, u8]

/-- The longest body of its kind. -/
theorem laneAmend_length (a : LaneAmend) : a.bytes.length ≤ 18 := by
  have := namedU16_length a.product; have := namedU16_length a.price; have := namedU8_length a.capacity
  have := namedU8_length a.zone; have := namedU8_length a.laneClass; have := namedOptU8_length a.companion
  have := namedU8_length a.turns; have := namedU8_length a.extraTurns; have := namedU8_length a.dropCheck
  have := namedU8_length a.base; have := namedU8_length a.jams; have := namedU16_length a.sales
  simp only [LaneAmend.bytes, List.length_append, u16, List.length_cons, List.length_nil]
  omega

/-- The longest body of its kind. -/
theorem driveAmend_length (a : DriveAmend) : a.bytes.length ≤ 6 := by
  have := namedU8_length a.turnLimit; have := namedU8_length a.dropWindow; have := namedU16_length a.strayCount
  simp only [DriveAmend.bytes, List.length_append, u16, List.length_cons, List.length_nil]
  omega

/-- The longest body of its kind. -/
theorem classAmend_length (a : ClassAmend) : a.bytes.length ≤ 5 := by
  have := namedU16_length a.value; have := namedU8_length a.enabled
  simp only [ClassAmend.bytes, List.length_append, u16, List.length_cons, List.length_nil]
  omega

/-- The longest body of its kind. -/
theorem tubeAmend_length (a : TubeAmend) : a.bytes.length ≤ 5 := by
  have := namedOptU8_length a.boundClass; have := namedU8_length a.capacity; have := namedU8_length a.state
  simp only [TubeAmend.bytes, List.length_append, u16, List.length_cons, List.length_nil]
  omega

/-- The longest body of its kind. -/
theorem payoutAmend_length (a : PayoutAmend) : a.bytes.length ≤ 8 := by
  have := namedU16_length a.onTime; have := namedU16_length a.gap; have := namedU16_length a.strayCount
  simp only [PayoutAmend.bytes, List.length_append, u16, List.length_cons, List.length_nil]
  omega

/-- The longest body of its kind. -/
theorem linkAmend_length (a : LinkAmend) : a.bytes.length ≤ 5 := by
  have := namedU16_length a.pollPeriod; have := namedU8_length a.faultCount
  simp only [LinkAmend.bytes, List.length_append, u16, List.length_cons, List.length_nil]
  omega

/-- The longest body of its kind. -/
theorem zoneAmend_length (a : ZoneAmend) : a.bytes.length ≤ 20 := by
  have := namedU8_length a.enabled; have := namedI16_length a.setPoint; have := namedI16_length a.differential
  have := namedI16_length a.warmLimit; have := namedU8_length a.holdChilled; have := namedU16_length a.allowance
  have := namedU16_length a.defrostInterval; have := namedI16_length a.defrostEnd
  have := namedU16_length a.defrostMax; have := namedU16_length a.powerLossCharge
  simp only [ZoneAmend.bytes, List.length_append, u16, List.length_cons, List.length_nil]
  omega

/-- The longest body of its kind. -/
theorem compressorAmend_length (a : CompressorAmend) : a.bytes.length ≤ 12 := by
  have := namedU16_length a.minRest; have := namedU16_length a.minRun; have := namedU16_length a.startWindow
  have := namedU8_length a.confirmMode; have := namedU8_length a.confirmPolarity; have := namedI16_length a.hotLimit
  simp only [CompressorAmend.bytes, List.length_append, u16, List.length_cons, List.length_nil]
  omega

/-- The longest body of its kind. -/
theorem channelAmend_length (a : ChannelAmend) : a.bytes.length ≤ 6 := by
  have := namedU8_length a.curve; have := namedI16_length a.offset; have := namedU8_length a.enabled
  simp only [ChannelAmend.bytes, List.length_append, u16, List.length_cons, List.length_nil]
  omega

/-- The longest body of its kind. -/
theorem loadAmend_length (a : LoadAmend) : a.bytes.length ≤ 7 := by
  have := namedU8_length a.budget; have := namedU16_length a.lowThreshold; have := namedU16_length a.criticalThreshold
  simp only [LoadAmend.bytes, List.length_append, u16, List.length_cons, List.length_nil]
  omega

theorem readLane (form lane : Nat) : Statement (.readLane form lane) := of_code rfl rfl (Nat.le_of_ble_eq_true rfl)
theorem findProduct (code : Nat) : Statement (.findProduct code) := of_code rfl rfl (Nat.le_of_ble_eq_true rfl)
theorem enrolLane (lane : Nat) (given : LaneSettings) : Statement (.enrolLane lane given) :=
  of_code rfl rfl (Nat.le_of_ble_eq_true rfl)
theorem amendLane (lane : Nat) (named : LaneAmend) : Statement (.amendLane lane named) := by
  have := laneAmend_length named
  exact of_code rfl rfl (by simp only [List.length_append, List.length_cons, List.length_nil, u8]; omega)
theorem restockLane (lane stock : Nat) : Statement (.restockLane lane stock) :=
  of_code rfl rfl (Nat.le_of_ble_eq_true rfl)
theorem checkLane (lane : Nat) : Statement (.checkLane lane) := of_code rfl rfl (Nat.le_of_ble_eq_true rfl)
theorem retireLane (lane : Nat) : Statement (.retireLane lane) := of_code rfl rfl (Nat.le_of_ble_eq_true rfl)
theorem readDrive : Statement .readDrive := of_code rfl rfl (by decide)
theorem amendDrive (named : DriveAmend) : Statement (.amendDrive named) :=
  of_code rfl rfl (Nat.le_trans (driveAmend_length named) (by decide))
theorem placeOrder (given : Placement) : Statement (.placeOrder given) := of_code rfl rfl (Nat.le_of_ble_eq_true rfl)
theorem readOrder (tag : Nat) : Statement (.readOrder tag) := of_code rfl rfl (Nat.le_of_ble_eq_true rfl)
theorem readQueue : Statement .readQueue := of_code rfl rfl (by decide)
theorem retireOrder (tag : Nat) : Statement (.retireOrder tag) := of_code rfl rfl (Nat.le_of_ble_eq_true rfl)
theorem holdQueue : Statement .holdQueue := of_code rfl rfl (by decide)
theorem resumeQueue : Statement .resumeQueue := of_code rfl rfl (by decide)
theorem haltDrive : Statement .haltDrive := of_code rfl rfl (by decide)
theorem resumeDrive : Statement .resumeDrive := of_code rfl rfl (by decide)
theorem skipOrder (tag : Nat) : Statement (.skipOrder tag) := of_code rfl rfl (Nat.le_of_ble_eq_true rfl)
theorem clearQueue : Statement .clearQueue := of_code rfl rfl (by decide)
theorem readCredit : Statement .readCredit := of_code rfl rfl (by decide)
theorem amendCreditLimit (maxCredit : Nat) : Statement (.amendCreditLimit maxCredit) :=
  of_code rfl rfl (Nat.le_of_ble_eq_true rfl)
theorem refund : Statement .refund := of_code rfl rfl (by decide)
theorem readClass : Statement .readClass := of_code rfl rfl (by decide)
theorem amendClass (coinClass : Nat) (named : ClassAmend) : Statement (.amendClass coinClass named) := by
  have := classAmend_length named
  exact of_code rfl rfl (by simp only [List.length_append, List.length_cons, List.length_nil, u8]; omega)
theorem readCashbox : Statement .readCashbox := of_code rfl rfl (by decide)
theorem clearCashbox : Statement .clearCashbox := of_code rfl rfl (by decide)
theorem readTube : Statement .readTube := of_code rfl rfl (by decide)
theorem amendTube (tube : Nat) (named : TubeAmend) : Statement (.amendTube tube named) := by
  have := tubeAmend_length named
  exact of_code rfl rfl (by simp only [List.length_append, List.length_cons, List.length_nil, u8]; omega)
theorem setTubeCount (tube count : Nat) : Statement (.setTubeCount tube count) :=
  of_code rfl rfl (Nat.le_of_ble_eq_true rfl)
theorem dispense (tube coins : Nat) : Statement (.dispense tube coins) := of_code rfl rfl (Nat.le_of_ble_eq_true rfl)
theorem readPayout : Statement .readPayout := of_code rfl rfl (by decide)
theorem amendPayout (named : PayoutAmend) : Statement (.amendPayout named) :=
  of_code rfl rfl (Nat.le_trans (payoutAmend_length named) (by decide))
theorem readLink : Statement .readLink := of_code rfl rfl (by decide)
theorem amendLink (named : LinkAmend) : Statement (.amendLink named) :=
  of_code rfl rfl (Nat.le_trans (linkAmend_length named) (by decide))
theorem readZone (zone : Nat) : Statement (.readZone zone) := of_code rfl rfl (Nat.le_of_ble_eq_true rfl)
theorem amendZone (zone : Nat) (named : ZoneAmend) : Statement (.amendZone zone named) := by
  have := zoneAmend_length named
  exact of_code rfl rfl (by simp only [List.length_append, List.length_cons, List.length_nil, u8]; omega)
theorem startDefrost (zone : Nat) : Statement (.startDefrost zone) := of_code rfl rfl (Nat.le_of_ble_eq_true rfl)
theorem readCompressor : Statement .readCompressor := of_code rfl rfl (by decide)
theorem amendCompressor (named : CompressorAmend) : Statement (.amendCompressor named) :=
  of_code rfl rfl (Nat.le_trans (compressorAmend_length named) (by decide))
theorem clearLockout : Statement .clearLockout := of_code rfl rfl (by decide)
theorem readSample (channel : Nat) : Statement (.readSample channel) := of_code rfl rfl (Nat.le_of_ble_eq_true rfl)
theorem scanNow : Statement .scanNow := of_code rfl rfl (by decide)
theorem amendChannel (channel : Nat) (named : ChannelAmend) : Statement (.amendChannel channel named) := by
  have := channelAmend_length named
  exact of_code rfl rfl (by simp only [List.length_append, List.length_cons, List.length_nil, u8]; omega)
theorem amendScan (period : Nat) : Statement (.amendScan period) := of_code rfl rfl (Nat.le_of_ble_eq_true rfl)
theorem readInputs : Statement .readInputs := of_code rfl rfl (by decide)
theorem amendInput (input level : Nat) : Statement (.amendInput input level) :=
  of_code rfl rfl (Nat.le_of_ble_eq_true rfl)
theorem readLoad : Statement .readLoad := of_code rfl rfl (by decide)
theorem amendLoad (named : LoadAmend) : Statement (.amendLoad named) :=
  of_code rfl rfl (Nat.le_trans (loadAmend_length named) (by decide))
theorem readConditions : Statement .readConditions := of_code rfl rfl (by decide)
theorem clearConditions (named : Word16) : Statement (.clearConditions named) :=
  of_code rfl rfl (Nat.le_of_ble_eq_true rfl)
theorem amendMask (mask : Word16) : Statement (.amendMask mask) := of_code rfl rfl (Nat.le_of_ble_eq_true rfl)
theorem saveImage : Statement .saveImage := of_code rfl rfl (by decide)
theorem restart : Statement .restart := of_code rfl rfl (by decide)
theorem readIdentity : Statement .readIdentity := of_code rfl rfl (by decide)
theorem badFrame (bytes : List Byte) : Statement (.badFrame bytes) := of_none rfl
theorem unknownRequest (bytes : List Byte) : Statement (.unknownRequest bytes) := of_none rfl
theorem fetchReply (clocked : Nat) : Statement (.fetchReply clocked) := of_none rfl
theorem requestDiscarded (bytes : List Byte) : Statement (.requestDiscarded bytes) := of_none rfl
theorem powerOn : Statement .powerOn := of_none rfl
theorem resetPin : Statement .resetPin := of_none rfl
theorem resetRelease : Statement .resetRelease := of_none rfl
theorem restartTimeout : Statement .restartTimeout := of_none rfl
theorem startupEnd (memoryAnswers : Bool) : Statement (.startupEnd memoryAnswers) := of_none rfl
theorem secondTick : Statement .secondTick := of_none rfl
theorem savePageWritten (acknowledged : Bool) : Statement (.savePageWritten acknowledged) := of_none rfl
theorem saveRetryTimer : Statement .saveRetryTimer := of_none rfl
theorem camLineEdge (level : CamLevel) : Statement (.camLineEdge level) := of_none rfl
theorem camConfirm : Statement .camConfirm := of_none rfl
theorem departureTimeout : Statement .departureTimeout := of_none rfl
theorem turnTimerExpiry : Statement .turnTimerExpiry := of_none rfl
theorem beamBreak : Statement .beamBreak := of_none rfl
theorem dropWindowExpiry : Statement .dropWindowExpiry := of_none rfl
theorem fitPulseEnd : Statement .fitPulseEnd := of_none rfl
theorem linkSlot : Statement .linkSlot := of_none rfl
theorem identifyTimer : Statement .identifyTimer := of_none rfl
theorem linkFrame (bytes : List Byte) (framingError : Bool) : Statement (.linkFrame bytes framingError) := of_none rfl
theorem linkReplyTimeout : Statement .linkReplyTimeout := of_none rfl
theorem coinTimeout : Statement .coinTimeout := of_none rfl
theorem pulseOnEnd : Statement .pulseOnEnd := of_none rfl
theorem pulseGapEnd : Statement .pulseGapEnd := of_none rfl
theorem chuteWindowClose : Statement .chuteWindowClose := of_none rfl
theorem chuteCount : Statement .chuteCount := of_none rfl
theorem sinceDefrostTimer (zone : Fin 2) : Statement (.sinceDefrostTimer zone) := of_none rfl
theorem defrostTimer (zone : Fin 2) : Statement (.defrostTimer zone) := of_none rfl
theorem dripTimer (zone : Fin 2) : Statement (.dripTimer zone) := of_none rfl
theorem zoneMinuteTimer (zone : Fin 2) : Statement (.zoneMinuteTimer zone) := of_none rfl
theorem restTimer : Statement .restTimer := of_none rfl
theorem startTimer : Statement .startTimer := of_none rfl
theorem confirmLineEdge (level : Level) : Statement (.confirmLineEdge level) := of_none rfl
theorem confirmChange : Statement .confirmChange := of_none rfl
theorem runTimer : Statement .runTimer := of_none rfl
theorem fanRunonTimer : Statement .fanRunonTimer := of_none rfl
theorem periodTimer : Statement .periodTimer := of_none rfl
theorem priorityTimer : Statement .priorityTimer := of_none rfl
theorem conversionEnd (reading : Nat) : Statement (.conversionEnd reading) := of_none rfl
theorem inputLineEdge (input : InputName) (level : Level) : Statement (.inputLineEdge input level) := of_none rfl
theorem inputChange (input : InputName) : Statement (.inputChange input) := of_none rfl
theorem linkFirstByte : Statement .linkFirstByte := of_none rfl

end Sys2Proof.Laws.Requests
end

