-- ==== Sys2Proof/Laws/Requests.lean ====
section
/-! SUPPORT. What the shared ways of taking a command do, said once: a request while the port takes requests, and
while it does not; an event, and one while the RESET pin holds the device. -/
namespace Sys2Proof.Laws

open Sys2Proof.Machine

/-- The port's test and the statements' word agree. -/
theorem taking_iff (s : State) : s.port.taking = true ↔ s.taking := by
  simp [Port.taking, State.taking]

/-- A request on the records, while the port takes requests. -/
theorem request_taken {s : State} (h : s.taking) (f : Device → Device × Reply) :
    s.request f = (s.withDev (f s.dev).1).replied (f s.dev).2.status (f s.dev).2.body := by
  have h' := (taking_iff s).2 h
  simp only [State.request, State.takeRequest, h', if_true]
  rfl

/-- A request that only reads, while the port takes requests. -/
theorem query_taken {s : State} (h : s.taking) (f : Device → Reply) :
    s.query f = s.replied (f s.dev).status (f s.dev).body := by
  rw [State.query, request_taken h]
  rfl

/-- A request on the whole state, while the port takes requests. -/
theorem takeRequest_taken {s : State} (h : s.taking) (f : State → State × Reply) :
    s.takeRequest f = (f s).1.replied (f s).2.status (f s).2.body := by
  have h' := (taking_iff s).2 h
  simp only [State.takeRequest, h', if_true]
  rfl

/-- A request while the port takes none is discarded. -/
theorem takeRequest_discarded {s : State} (h : ¬ s.taking) (f : State → State × Reply) :
    s.takeRequest f = { s with port := { s.port with miso := .allOnes } } := by
  have h' : s.port.taking = false := by
    cases e : s.port.taking
    · rfl
    · exact absurd ((taking_iff s).1 e) h
  simp only [State.takeRequest, h', Bool.false_eq_true, if_false]

/-- The model's test and the statements' word agree. -/
theorem held_iff (s : State) : s.port.held = true ↔ ¬ s.awake := by
  simp [Port.held, State.awake]

/-- An event while the device is not held in reset acts on its records. -/
theorem event_awake {s : State} (h : s.awake) (f : Device → Device) : s.event f = s.withDev (f s.dev) := by
  have h' : s.port.held = false := by
    cases e : s.port.held
    · rfl
    · exact absurd h ((held_iff s).1 e)
  simp only [State.event, h', Bool.false_eq_true, if_false]
  rfl

/-- An event while the device is held in reset changes nothing. -/
theorem event_held {s : State} (h : ¬ s.awake) (f : Device → Device) : s.event f = s := by
  simp only [State.event, (held_iff s).2 h, if_true]

end Sys2Proof.Laws
end

