-- ==== Sys2Proof/Tests/Slice0.lean ====
section
/-! SUPPORT. The model's own tests: ill-formed commands, frames written out from the request table, single steps on
small states, and for each statement a state and operands that meet its hypotheses. -/
namespace Sys2Proof.Tests

-- One test after another: their evaluations run at once would each take a thread of their own.
set_option Elab.async false

open Sys2Proof.Machine

/-! ### Well-formedness: each check refuses an ill-formed command -/

/-- A settings record that fits. -/
def settings : LaneSettings := ⟨1, 5, 10, 5, 0, 0, none, 1, 0, 0⟩

/-- An amendment that names nothing. -/
def noLaneAmend : LaneAmend := ⟨none, none, none, none, none, none, none, none, none, none, none, none⟩

/-- An amendment that names nothing. -/
def noZoneAmend : ZoneAmend := ⟨none, none, none, none, none, none, none, none, none, none⟩

/-- An amendment that names nothing. -/
def noCompressorAmend : CompressorAmend := ⟨none, none, none, none, none, none⟩

/-- A placement of one unit from lane 0. -/
def onePlease : Placement := ⟨1, 0, 0, 1, 1, 0⟩

theorem test_illFormed_numbers :
    ([.readLane 256 0, .readLane 0 256, .findProduct 65536, .restockLane 256 0, .restockLane 0 256, .checkLane 256,
      .retireLane 256, .readOrder 256, .retireOrder 256, .skipOrder 256, .amendCreditLimit 65536, .setTubeCount 256 0,
      .setTubeCount 0 256, .dispense 256 1, .dispense 0 256, .readZone 256, .startDefrost 256, .readSample 256,
      .amendScan 65536, .amendInput 256 0, .amendInput 0 256, .conversionEnd 65536] : List Instr).all
        (fun i => !i.wellFormed) = true := by decide

theorem test_illFormed_enrolments :
    ([.enrolLane 256 settings, .enrolLane 0 { settings with product := 65536 },
      .enrolLane 0 { settings with price := 65536 }, .enrolLane 0 { settings with capacity := 256 },
      .enrolLane 0 { settings with stock := 256 }, .enrolLane 0 { settings with zone := 256 },
      .enrolLane 0 { settings with laneClass := 256 }, .enrolLane 0 { settings with companion := some 255 },
      .enrolLane 0 { settings with turns := 256 }, .enrolLane 0 { settings with extraTurns := 256 },
      .enrolLane 0 { settings with dropCheck := 256 }] : List Instr).all (fun i => !i.wellFormed) = true := by decide

theorem test_illFormed_laneAmends :
    ([.amendLane 256 noLaneAmend, .amendLane 0 { noLaneAmend with product := some 65536 },
      .amendLane 0 { noLaneAmend with price := some 65536 }, .amendLane 0 { noLaneAmend with capacity := some 256 },
      .amendLane 0 { noLaneAmend with zone := some 256 }, .amendLane 0 { noLaneAmend with laneClass := some 256 },
      .amendLane 0 { noLaneAmend with companion := some (some 255) }, .amendLane 0 { noLaneAmend with turns := some 256 },
      .amendLane 0 { noLaneAmend with extraTurns := some 256 }, .amendLane 0 { noLaneAmend with dropCheck := some 256 },
      .amendLane 0 { noLaneAmend with base := some 256 }, .amendLane 0 { noLaneAmend with jams := some 256 },
      .amendLane 0 { noLaneAmend with sales := some 65536 }] : List Instr).all (fun i => !i.wellFormed) = true := by
  decide

theorem test_illFormed_orders :
    ([.placeOrder { onePlease with tag := 256 }, .placeOrder { onePlease with choice := 256 },
      .placeOrder { onePlease with target := 65536 }, .placeOrder { onePlease with quantity := 256 },
      .placeOrder { onePlease with payment := 256 }, .placeOrder { onePlease with flags := 256 }] : List Instr).all
        (fun i => !i.wellFormed) = true := by decide

theorem test_illFormed_settings :
    ([.amendDrive ⟨some 256, none, none⟩, .amendDrive ⟨none, some 256, none⟩, .amendDrive ⟨none, none, some 65536⟩,
      .amendPayout ⟨some 65536, none, none⟩, .amendPayout ⟨none, some 65536, none⟩, .amendPayout ⟨none, none, some 65536⟩,
      .amendLink ⟨some 65536, none⟩, .amendLink ⟨none, some 256⟩, .amendClass 256 ⟨none, none⟩,
      .amendClass 0 ⟨some 65536, none⟩, .amendClass 0 ⟨none, some 256⟩, .amendTube 256 ⟨none, none, none⟩,
      .amendTube 0 ⟨some (some 255), none, none⟩, .amendTube 0 ⟨none, some 256, none⟩, .amendTube 0 ⟨none, none, some 256⟩,
      .amendChannel 256 ⟨none, none, none⟩, .amendChannel 0 ⟨some 256, none, none⟩,
      .amendChannel 0 ⟨none, some 32768, none⟩, .amendChannel 0 ⟨none, none, some 256⟩, .amendLoad ⟨some 256, none, none⟩,
      .amendLoad ⟨none, some 65536, none⟩, .amendLoad ⟨none, none, some 65536⟩] : List Instr).all
        (fun i => !i.wellFormed) = true := by decide

theorem test_illFormed_coolingSettings :
    ([.amendZone 256 noZoneAmend, .amendZone 0 { noZoneAmend with enabled := some 256 },
      .amendZone 0 { noZoneAmend with setPoint := some 32768 },
      .amendZone 0 { noZoneAmend with differential := some (-32769) },
      .amendZone 0 { noZoneAmend with warmLimit := some 32768 }, .amendZone 0 { noZoneAmend with holdChilled := some 256 },
      .amendZone 0 { noZoneAmend with allowance := some 65536 },
      .amendZone 0 { noZoneAmend with defrostInterval := some 65536 },
      .amendZone 0 { noZoneAmend with defrostEnd := some 32768 },
      .amendZone 0 { noZoneAmend with defrostMax := some 65536 },
      .amendZone 0 { noZoneAmend with powerLossCharge := some 65536 },
      .amendCompressor { noCompressorAmend with minRest := some 65536 },
      .amendCompressor { noCompressorAmend with minRun := some 65536 },
      .amendCompressor { noCompressorAmend with startWindow := some 65536 },
      .amendCompressor { noCompressorAmend with confirmMode := some 256 },
      .amendCompressor { noCompressorAmend with confirmPolarity := some 256 },
      .amendCompressor { noCompressorAmend with hotLimit := some 32768 }] : List Instr).all
        (fun i => !i.wellFormed) = true := by decide

/-- A sound READ DRIVE frame is no bad frame and no unknown request; a fetch is not discarded; a frame has a byte. -/
theorem test_illFormed_chipSelects :
    ([.badFrame [0x18#8, 0x00#8, 0x28#8], .unknownRequest [0x18#8, 0x00#8, 0x28#8], .requestDiscarded [0x00#8],
      .requestDiscarded [], .linkFrame [] false] : List Instr).all (fun i => !i.wellFormed) = true := by decide +kernel

/-! ### Chip-selects written out from R179 and the request table: code, length, body, CRC-8 -/

theorem test_frames_lanesAndDrive :
    judgeChipSelect [0x10#8, 0x02#8, 0x00#8, 0x05#8, 0x7B#8] = some (.readLane 0 5) ∧
    judgeChipSelect [0x18#8, 0x00#8, 0x28#8] = some .readDrive ∧
    judgeChipSelect [0x13#8, 0x05#8, 0x09#8, 0x00#8, 0x02#8, 0x00#8, 0x96#8, 0x3A#8] =
      some (.amendLane 9 { noLaneAmend with price := some 150 }) := by decide +kernel

theorem test_frames_ordersAndMoney :
    judgeChipSelect [0x22#8, 0x00#8, 0x53#8] = some .readQueue ∧
    judgeChipSelect [0x30#8, 0x00#8, 0x2E#8] = some .readCredit ∧
    judgeChipSelect [0x34#8, 0x05#8, 0x03#8, 0x00#8, 0x01#8, 0x00#8, 0x32#8, 0x9D#8] =
      some (.amendClass 3 ⟨some 50, none⟩) ∧
    judgeChipSelect [0x35#8, 0x00#8, 0x6F#8] = some .readCashbox ∧
    judgeChipSelect [0x39#8, 0x02#8, 0x02#8, 0x32#8, 0xBC#8] = some (.setTubeCount 2 50) := by decide +kernel

theorem test_frames_machine :
    judgeChipSelect [0x50#8, 0x01#8, 0x01#8, 0x1D#8] = some (.readZone 1) ∧
    judgeChipSelect [0x51#8, 0x05#8, 0x01#8, 0x00#8, 0x02#8, 0xFF#8, 0xCE#8, 0x87#8] =
      some (.amendZone 1 { noZoneAmend with setPoint := some (-50) }) ∧
    judgeChipSelect [0x55#8, 0x00#8, 0x9A#8] = some .clearLockout ∧
    judgeChipSelect [0x60#8, 0x01#8, 0x07#8, 0xEE#8] = some (.readSample 7) ∧
    judgeChipSelect [0x66#8, 0x00#8, 0x5C#8] = some .readLoad ∧
    judgeChipSelect [0x71#8, 0x02#8, 0x80#8, 0x01#8, 0x92#8] = some (.clearConditions 0x8001#16) ∧
    judgeChipSelect [0x44#8, 0x00#8, 0xD8#8] = some (.unknownRequest [0x44#8, 0x00#8, 0xD8#8]) ∧
    judgeChipSelect [0x18#8, 0x00#8, 0x29#8] = some (.badFrame [0x18#8, 0x00#8, 0x29#8]) ∧
    judgeChipSelect [0x00#8, 0x00#8, 0x00#8] = some (.fetchReply 2) ∧ judgeChipSelect [] = none := by decide +kernel

/-! ### Small states -/

/-- A machine whose start-up has ended on defaults, with nothing waiting. -/
def live : State := { State.reset with port := { State.reset.port with phase := .running } }

/-- A lane in service with five units at 5 mu. -/
def goodLane : Lane :=
  { base := .inService, held := false, spoiled := false, product := 1, price := 5, capacity := 10, stock := 5,
    reserved := 0, zone := 0, laneClass := .ambient, companion := none, turns := 1, extraTurns := 0,
    dropCheck := .required, stamp := 0, baseline := 0, offHome := false, jams := 0, sales := 0, lastTurn := none }

/-- The machine with a lane at a number. -/
def withLane (n : Fin 64) (l : Lane) (s : State) : State := s.withDev (s.dev.setSlot n (some l))

/-- The live machine with lane 0. -/
def stocked : State := withLane 0 goodLane live

/-- An order of two units from lane 0, paid outside. -/
def sale (st : OrderState) : Order :=
  { tag := 1, lane := 0, product := 1, quantity := 2, price := 5, payment := .external, final := false,
    holdAfter := false, inexactOk := false, state := st, delivered := 0, residue := 0, charged := 0, cause := none }

/-- The machine with that order, its units reserved, and a unit position. -/
def selling (st : OrderState) (pos : UnitPosition) : State :=
  let s := withLane 0 { goodLane with reserved := 2 } live
  s.withDev { s.dev with queue := { orders := [sale st], state := .running, unitPos := pos } }

/-- The order's unit drive in a phase, its drop window open. -/
def unitJob (phase : DrivePhase) : ActiveJob :=
  { newJob (.unitDrive 0 1) goodLane with
    phase := phase, windowOpen := true, departureTimer := some 600, turnTimer := some 4600, closingTimer := some 2000 }

/-- A fit check of lane 0, its pulse running. -/
def fitJob : ActiveJob := { newJob (.fitCheck 0) goodLane with phase := .pulse, pulseTimer := some 150 }

/-- The machine with an active job. -/
def working (j : ActiveJob) (s : State) : State :=
  s.withDev { s.dev with drive := { s.dev.drive with active := some j } }

/-- The machine with both gates open. -/
def gated (s : State) : State :=
  s.withDev { s.dev with inputs := mapAll (fun r => { r with state := .onRef }) s.dev.inputs }

/-- The order's unit TURNING under its grant, lane 0 energized. -/
def turning : State :=
  let s := working (unitJob .turning) (gated (selling .driving .posted))
  s.withDev { s.dev with
    drive := { s.dev.drive with energized := some 0, rows := rowsFor 0 none, cols := colsFor 0 none,
                                camTimer := some 20 }
    load := { s.dev.load with grants := [driveClaim 2 (.unitDrive 0 1)] } }

/-- The machine with a command waiting. -/
def queued (i : Instr) (s : State) : State := { s with pending := [i] }

/-- The machine with changed coin records. -/
def withCoins (f : CoinAcceptance → CoinAcceptance) (s : State) : State := s.withDev (s.dev.updateCoins f)

/-- The machine with changed payout records. -/
def withPayout (f : Payout → Payout) (s : State) : State := s.withDev { s.dev with payout := f s.dev.payout }

/-- The machine with changed compressor records. -/
def withCompressor (f : Compressor → Compressor) (s : State) : State := s.withDev (s.dev.updateCompressor f)

/-- The machine with a changed zone 0. -/
def withZone (f : Zone → Zone) (s : State) : State := s.withDev (s.dev.updateZone 0 f)

/-- The machine with a changed scanner. -/
def withScanner (f : Scanner → Scanner) (s : State) : State := s.withDev (s.dev.updateScanner f)

/-- The link PRESENT, an exchange under way. -/
def exchanging (m : Message) (started : Bool) : State :=
  withCoins (fun c => { c with
    link := .present
    exchange := some { message := m, replyStarted := started, replyTimer := if started then none else some 15 } }) live

/-- A coin routed to tube 0, its ROUTE in a state. -/
def coin (st : RouteState) : CoinInFlight :=
  { coinClass := 0, value := 5, route := .tube 0, reason := none, routeState := st, offeredAt := 0 }

/-- A READY tube with three coins of class 0, worth 1 mu. -/
def fullTube : Tube := { boundClass := some 0, capacity := 10, count := 3, planned := 1, state := .ready, lastFault := none }

/-- A change plan of 1 mu that is EJECTING from tube 0. -/
def changing (lineState : LineState) (paid : Nat) : Plan :=
  { kind := .change, requested := .amount 1, lines := [{ tube := 0, planned := 1, paid := paid, state := lineState }],
    paid := paid, overpaid := 0, state := .ejecting, result := none }

/-- A pending coin of that plan, its window open. -/
def pending (seen : Nat) (cut : Bool) (attempt : Attempt) : PendingCoin :=
  { tube := 0, line := 0, attempt := attempt, windowOpen := true, windowEnd := 300, seen := seen, cut := cut }

/-- The machine at that plan and coin, the gap running. -/
def paying (lineState : LineState) (paid seen : Nat) (cut : Bool) (attempt : Attempt) : State :=
  withPayout (fun p => { p with
    tubes := put p.tubes 0 fullTube, plan := some (changing lineState paid), gapTimer := some 140,
    coin := some (pending seen cut attempt) }) live

/-! ### Single steps -/

theorem test_steps_lanes :
    (match exec (.restockLane 0 10) stocked with
     | .next t => (t.dev.lane? 0).map (·.stock) == some 10 && t.port.reply == some ⟨.ok, [0x00#8, 0x01#8]⟩
     | _ => false) = true ∧
    (match exec (.checkLane 0) stocked with
     | .next t => (t.dev.lane? 0).map (·.base) == some .checking && t.dev.drive.active.map (·.phase) == some .pulse &&
        t.dev.drive.rows == 1#8 && t.dev.drive.cols == 1#8
     | _ => false) = true := by decide +kernel

theorem test_steps_sale :
    (match exec (.placeOrder onePlease) (gated stocked) with
     | .next t => t.dev.queue.orders.map (·.state) == [.driving] && t.dev.drive.active.map (·.phase) == some .turning &&
        t.dev.drive.energized == some 0 && (t.dev.lane? 0).map (·.reserved) == some 1
     | _ => false) = true ∧
    (match exec .beamBreak turning with
     | .next t => t.dev.drive.active.map (·.dropSeen) == some true && t.dev.drive.active.map (·.windowOpen) == some false
     | _ => false) = true ∧
    (match exec .departureTimeout turning with
     | .next t => (t.dev.lane? 0).map (·.base) == some .jammed && t.dev.queue.orders.map (·.state) == [.failed] &&
        t.dev.drive.energized == none && t.dev.load.grants == []
     | _ => false) = true := by decide +kernel

theorem test_steps_money :
    (match exec .chuteCount (paying .opened 0 0 false .first) with
     | .next t => t.dev.payout.tubes[(0 : Fin 6)].count == 2 && t.dev.payout.plan.map (·.paid) == some 1 &&
        t.dev.payout.plan.map (·.overpaid) == some 1
     | _ => false) = true ∧
    (match exec .chuteWindowClose (paying .opened 0 0 false .retry) with
     | .next t => t.dev.payout.tubes[(0 : Fin 6)].state == .jammed && t.dev.payout.plan.map (·.result) == some (some .short)
     | _ => false) = true := by decide +kernel

theorem test_steps_cooling :
    (match exec (.conversionEnd 650)
        (withScanner (fun c => { c with converting := some ⟨0, .pass, 2⟩ })
          (withZone (fun r => { r with set := { r.set with enabled := true }, state := .satisfied }) live)) with
     | .next t => t.dev.zones[(0 : Fin 2)].air == some (.good 95) && t.dev.zones[(0 : Fin 2)].state == .calling &&
        t.dev.zones[(0 : Fin 2)].warm && t.dev.compressor.demand
     | _ => false) = true ∧
    (match exec .restTimer (withCompressor (fun c => { c with restTimer := some 10, demand := true }) live) with
     | .next t => t.dev.compressor.state == .starting && t.dev.load.granted == 3
     | _ => false) = true := by decide +kernel

/-! ### Witnesses: states and operands that meet the hypotheses of the statements -/

/-- The live machine takes requests. -/
theorem live_taking : live.taking := ⟨rfl, rfl⟩

/-- The live machine is not held in reset. -/
theorem live_awake : live.awake := by
  intro h
  cases h

/-- The turning machine is not held in reset. -/
theorem turning_awake : turning.awake := by
  intro h
  cases h

/-- The machine after reset takes none yet. -/
theorem reset_not_taking : ¬ State.reset.taking := by
  intro h
  cases h.1

/-- The live machine has no lanes. -/
theorem live_vacant (n : Fin 64) : live.dev.lane? n = none := by
  revert n
  decide +kernel

/-- The stocked machine has lane 0 alone. -/
theorem stocked_vacant (n : Fin 64) (h : n ≠ 0) : stocked.dev.lane? n = none := by
  revert n
  decide +kernel

theorem stocked_lane : stocked.dev.lane? 0 = some goodLane := by decide +kernel

theorem witness_StepRunsFrontCommandOrLetsAMillisecondPass :
    (queued .readDrive live).pending = .readDrive :: [] ∧ live.pending = [] := ⟨rfl, rfl⟩

theorem witness_EveryCommandCompletes : ∀ b, Instr.readDrive ≠ .savePageWritten b := by
  intro b h
  cases h

theorem witness_RequestsAreDiscardedOrAnswered :
    isRequest .readDrive ∧ ¬ State.reset.taking ∧ live.taking ∧
    (Status.range ≠ .ok ∧ Status.range ≠ .accepted) :=
  ⟨Or.inl rfl, reset_not_taking, live_taking, by decide⟩

theorem witness_RequestFramesAreJudgedBack :
    (Instr.amendLane 255 noLaneAmend).wellFormed = true ∧ (requestFrame (.amendLane 255 noLaneAmend)).isSome = true := by
  decide

theorem witness_BadFramesAreAnsweredAndNotCarriedOut :
    (0x18#8 : Byte) ≠ 0#8 ∧ 0x29#8 ≠ crc8 (0x18#8 :: [0x00#8]) ∧ 60 < (61#8 : Byte).toNat ∧
    ([] : List Byte).length ≠ 1 + (0#8 : Byte).toNat ∧ codeKnown 0x44 = false ∧ codeKnown 255 = false ∧
    (List.replicate 60 (0#8 : Byte)).length ≤ 60 ∧ live.taking := by
  refine ⟨?_, ?_, ?_, ?_, ?_, ?_, ?_, live_taking⟩ <;> decide +kernel

theorem witness_invariants_memory :
    (queued (.savePageWritten true) live).mem.wf = true ∧ ∃ t, step (queued (.savePageWritten true) live) = .next t :=
  ⟨rfl, _, rfl⟩

/-- A sale with its unit turning keeps every invariant of the queue, the drive and the budget. -/
theorem witness_invariants_sale :
    turning.dev.load.sound ∧ turning.dev.queue.sound ∧ turning.dev.drive.listSound ∧ turning.dev.creditSound ∧
    turning.dev.maskSound ∧ ∃ t, step (queued .turnTimerExpiry turning) = .next t := by
  refine ⟨⟨by decide +kernel, (by intro h; cases h)⟩, ⟨by decide, by decide, by decide⟩, (by intro h; cases h),
    ⟨by decide, by decide, (by intro c h; cases h)⟩, (by intro h; exact absurd rfl h), _, rfl⟩

theorem turning_driveClaims : turning.dev.driveClaims := by
  refine ⟨by decide +kernel, (by intro c hc; cases hc), ?_⟩
  intro c _ _
  exact ⟨unitJob .turning, rfl, Or.inl ⟨rfl, rfl⟩⟩

theorem turning_lane : turning.dev.lane? 0 = some { goodLane with reserved := 2 } := by decide +kernel

theorem turning_vacant (n : Fin 64) (h : n ≠ 0) : turning.dev.lane? n = none := by
  revert n
  decide +kernel

theorem turning_matrixSound : turning.dev.drive.matrixSound := by
  refine ⟨(by intro h; cases h), ?_⟩
  intro n h
  cases h
  exact ⟨unitJob .turning, rfl, rfl, Or.inl ⟨rfl, rfl⟩, rfl, rfl⟩

theorem turning_lanesSound : turning.dev.lanesSound := by
  refine ⟨?_, by decide +kernel⟩
  intro n l h
  by_cases hn : n = 0
  · subst hn
    rw [turning_lane] at h
    cases h
    decide +kernel
  · rw [turning_vacant n hn] at h
    cases h

theorem turning_unitsSound : turning.dev.unitsSound := by
  refine ⟨by decide +kernel, (by intro j h; cases h; exact fun h => nomatch h), ?_⟩
  intro job h
  have hj : job = .unitDrive 0 1 := by simpa using (show job ∈ [Job.unitDrive 0 1] from h)
  exact ⟨sale .driving, by decide +kernel, hj, by decide +kernel, Or.inl rfl⟩

/-- Two motors on lane 0, its companion at the next position of the row. -/
theorem paired_motorsSound : (withLane 0 { goodLane with companion := some 1 } live).dev.motorsSound := by
  have vacant : ∀ n : Fin 64, n ≠ 0 → (withLane 0 { goodLane with companion := some 1 } live).dev.lane? n = none := by
    decide +kernel
  have lane : (withLane 0 { goodLane with companion := some 1 } live).dev.lane? 0 =
      some { goodLane with companion := some 1 } := by decide +kernel
  intro n l c h hc
  by_cases hn : n = 0
  · subst hn
    rw [lane] at h
    cases h
    cases hc
    refine ⟨by decide, Or.inl rfl, vacant 1 (by decide), ?_⟩
    intro m k hm hk
    rw [vacant m hm] at hk
    cases hk
  · rw [vacant n hn] at h
    cases h

theorem fullTube_tubesSound : (paying .opened 0 0 false .first).dev.payout.tubesSound := by
  refine ⟨by decide +kernel, by decide +kernel, by decide +kernel⟩

theorem witness_MatrixAndJobListStaySound :
    turning.dev.drive.matrixSound ∧ turning.dev.drive.energized = some 0 ∧ turning.listSound ∧
    turning.dev.compressorClaims ∧ turning.dev.compressor.restSound ∧ turning.dev.queue.sound ∧ turning.dev.driveClaims ∧
    turning.dev.unitsSound ∧ turning.dev.lanesSound ∧ Instr.turnTimerExpiry ≠ .startupEnd true ∧
    ∃ t, exec .turnTimerExpiry turning = .next t := by
  refine ⟨turning_matrixSound, rfl, (by intro _ h; cases h), ⟨by decide +kernel, ?_, ?_⟩, (by intro h; exact absurd rfl h),
    ⟨by decide, by decide, by decide⟩, turning_driveClaims, turning_unitsSound, turning_lanesSound, by decide, _, rfl⟩ <;>
  · intro c hc hw
    revert c
    decide +kernel

theorem witness_DriveClaimFollowsItsJob :
    turning.dev.driveClaims ∧ ∃ t, step (queued .beamBreak turning) = .next t := ⟨turning_driveClaims, _, rfl⟩

theorem live_otherClaims :
    live.dev.payoutClaims ∧ live.dev.compressorClaims ∧ live.dev.heaterClaims := by
  refine ⟨⟨by decide, ?_, ?_⟩, ⟨by decide, ?_, ?_⟩, ?_⟩
  · intro c hc; cases hc
  · intro c hc; cases hc
  · intro c hc; cases hc
  · intro c hc; cases hc
  · intro z
    refine ⟨?_, ?_, ?_⟩ <;> revert z <;> decide +kernel

theorem witness_OtherClaimsFollowTheirClaimants :
    (∃ t, step (queued .refund live) = .next t) ∧ live.dev.payoutClaims ∧ live.dev.compressorClaims ∧
    live.dev.heaterClaims := ⟨⟨_, rfl⟩, live_otherClaims⟩

theorem witness_ExposureNeverFalls :
    Instr.zoneMinuteTimer 0 ≠ .powerOn ∧ (∀ b, Instr.zoneMinuteTimer 0 ≠ .startupEnd b) ∧ live.dev.exposureSound ∧
    ∃ t, exec (.zoneMinuteTimer 0) live = .next t := by
  refine ⟨by decide, (by intro b h; cases h), ?_, _, rfl⟩
  intro z
  revert z
  decide +kernel

/-- Every read is taken on the live machine; a lane's is with the lane on the changed-lanes set and without. -/
theorem witness_reads :
    live.taking ∧ stocked.taking ∧ stocked.dev.lane? 0 = some goodLane ∧ stocked.dev.table.changed[(0 : Fin 64)] = false ∧
    (stocked.withDev (stocked.dev.joinChanged 0)).dev.table.changed[(0 : Fin 64)] = true ∧
    (∀ m : Fin 64, stocked.dev.table.changed[m] = false) ∧ (∀ m : Fin 64, ¬ m < 0) ∧
    (selling .driving .posted).dev.queue.find? 1 = some (sale .driving) ∧ (sale .driving).tag ≠ 0 ∧
    (∀ o ∈ live.dev.queue.orders, o.tag ≠ 255) := by
  refine ⟨live_taking, ⟨rfl, rfl⟩, stocked_lane, ?_, ?_, ?_, ?_, ?_, ?_, ?_⟩ <;> decide +kernel

theorem witness_FindProductRanksByRestockAge :
    stocked.taking ∧ (∃ n l, stocked.dev.lane? n = some l ∧ l.product = 1) ∧
    (∀ n l, live.dev.lane? n = some l → l.product ≠ 65535) := by
  refine ⟨⟨rfl, rfl⟩, ⟨0, goodLane, stocked_lane, rfl⟩, ?_⟩
  intro n l h
  rw [live_vacant] at h
  cases h

theorem witness_EnrolLaneFillsTheSlot :
    live.taking ∧ live.dev.drive.listSound ∧ live.dev.lane? 63 = none ∧ settings.zone = (0 : Fin 2).val ∧
    laneClassOf settings.laneClass = some .ambient ∧ dropCheckOf settings.dropCheck = some .required ∧
    (∀ p, settings.companion = some p → p < 64 ∧ p ≠ 63 ∧ (p / 8 = 63 / 8 ∨ p % 8 = 63 % 8)) ∧
    (∀ m l, m ≠ 63 → live.dev.lane? m = some l →
      l.companion ≠ some 63 ∧ settings.companion ≠ some m.val ∧
        ∀ p : Fin 64, settings.companion = some p.val → l.companion ≠ some p) := by
  refine ⟨live_taking, fun _ => rfl, live_vacant 63, rfl, by decide, by decide, ?_, ?_⟩
  · intro p h
    cases h
  · intro m l _ h
    rw [live_vacant] at h
    cases h

theorem witness_AmendLaneWritesTheNamedFields :
    stocked.taking ∧ stocked.dev.drive.listSound ∧ stocked.dev.lane? 0 = some goodLane ∧
    LaneAmend.inRange { noLaneAmend with companion := some (some 1) } 0 goodLane = true ∧
    LaneAmend.refusal { noLaneAmend with companion := some (some 1) } 0 goodLane stocked.dev = none ∧
    LaneAmend.companionAfter { noLaneAmend with companion := some (some 1) } goodLane ≠ goodLane.companion ∧
    LaneAmend.inRange { noLaneAmend with zone := some 1 } 0 { goodLane with stock := 0 } = true ∧
    LaneAmend.refusal { noLaneAmend with zone := some 1 } 0 { goodLane with stock := 0 } stocked.dev = none ∧
    LaneAmend.zoneAfter { noLaneAmend with zone := some 1 } goodLane ≠ goodLane.zone := by
  refine ⟨⟨rfl, rfl⟩, fun _ => rfl, stocked_lane, ?_, ?_, ?_, ?_, ?_, ?_⟩ <;> decide +kernel

theorem witness_laneRequests :
    stocked.taking ∧ stocked.dev.drive.listSound ∧ stocked.dev.queue.sound ∧ stocked.dev.lane? 0 = some goodLane ∧
    10 ≤ goodLane.capacity ∧ goodLane.reserved ≤ 0 ∧ goodLane.base ≠ .checking ∧
    (∀ o ∈ stocked.dev.queue.orders, o.lane = 0 → o.state.current = false) := by
  refine ⟨⟨rfl, rfl⟩, fun _ => rfl, ⟨?_, ?_, ?_⟩, stocked_lane, ?_, ?_, ?_, ?_⟩ <;> decide +kernel

theorem witness_settingsRequests :
    live.taking ∧ named 20 100 (some 20) ∧ named 20 100 (some 100) ∧ named 0 0 (some 0) ∧ named 0 0 none ∧
    namedT 400 800 (some 400) ∧ namedT (-50) 50 (some (-50)) := by
  refine ⟨live_taking, ?_, ?_, ?_, ?_, ?_, ?_⟩ <;> intro v h <;> cases h <;> decide

theorem stocked_passes : passesChecks onePlease stocked.dev .external 0 goodLane := by
  refine ⟨by decide, by decide, by decide, by decide, by decide +kernel, by decide +kernel, Or.inl ?_, (by intro h; cases h)⟩
  exact ⟨rfl, rfl, stocked_lane, rfl, rfl, rfl, by decide⟩

/-- On the reset machine's gates a placement waits; with the gates open it starts. -/
theorem witness_placements :
    stocked.taking ∧ stocked.dev.drive.listSound ∧ passesChecks onePlease stocked.dev .external 0 goodLane ∧
    stocked.dev.onRef .door = false ∧ (gated stocked).taking ∧
    passesChecks onePlease (gated stocked).dev .external 0 goodLane ∧
    (∀ o ∈ (gated stocked).dev.queue.orders, o.state.live = false) ∧ (gated stocked).dev.queue.state = .running ∧
    (gated stocked).dev.onRef .door = true ∧ (gated stocked).dev.onRef .flap = true ∧
    (gated stocked).dev.drive.active = none ∧ (gated stocked).dev.drive.jobs = [] ∧
    (gated stocked).dev.queue.unitPos = .none :=
  ⟨⟨rfl, rfl⟩, fun _ => rfl, stocked_passes, by decide +kernel, ⟨rfl, rfl⟩, stocked_passes, by decide +kernel, rfl,
    by decide +kernel, by decide +kernel, rfl, rfl, rfl⟩

theorem witness_RetireOrderFreesEndedSlots :
    (selling .failed .none).taking ∧ (selling .failed .none).dev.queue.find? 1 = some (sale .failed) ∧
    (sale .failed).state.live = false ∧ (selling .queued .none).dev.queue.find? 1 = some (sale .queued) ∧
    (sale .queued).state.live = true := by
  refine ⟨⟨rfl, rfl⟩, ?_, ?_, ?_, ?_⟩ <;> decide

theorem witness_HoldAndResumeQueue :
    (working fitJob (gated (selling .queued .none))).taking ∧
    (working fitJob (gated (selling .queued .none))).dev.drive.listSound ∧
    (working fitJob (gated (selling .queued .none))).dev.queue.current? = none ∧
    (working fitJob (gated (selling .queued .none))).dev.queue.head? = some (sale .queued) ∧
    (working fitJob (gated (selling .queued .none))).dev.onRef .door = true ∧
    (working fitJob (gated (selling .queued .none))).dev.onRef .flap = true ∧
    (working fitJob (gated (selling .queued .none))).dev.drive.active = some fitJob ∧
    (sale .queued).delivered < (sale .queued).quantity ∧
    (working fitJob (gated (selling .queued .none))).dev.queue.sound ∧ live.dev.queue.head? = none := by
  refine ⟨⟨rfl, rfl⟩, ?_, ?_, ?_, ?_, ?_, rfl, ?_, ⟨?_, ?_, ?_⟩, ?_⟩
  · intro h
    cases h
  all_goals decide +kernel

theorem witness_HaltAndResumeDrive_turning :
    turning.taking ∧ turning.dev.queue.sound ∧ turning.dev.drive.listSound ∧ turning.dev.driveClaims ∧
    turning.dev.queue.current? = some (sale .driving) ∧ turning.dev.drive.active = some (unitJob .turning) ∧
    (unitJob .turning).job = .unitDrive 0 (sale .driving).tag ∧ (unitJob .turning).phase = .turning ∧
    (unitJob .turning).dropSeen = false := by
  refine ⟨⟨rfl, rfl⟩, ⟨by decide, by decide, by decide⟩, ?_, turning_driveClaims, by decide, rfl, rfl, rfl, rfl⟩
  intro h
  cases h

theorem witness_HaltAndResumeDrive_halted :
    (gated (selling .halted .posted)).taking ∧
    (gated (selling .halted .posted)).dev.queue.current? = some (sale .halted) ∧
    ((selling .halted .posted).dev.onRef .door && (selling .halted .posted).dev.onRef .flap) = false ∧
    (gated (selling .halted .posted)).dev.onRef .door = true ∧ (gated (selling .halted .posted)).dev.onRef .flap = true ∧
    (gated (selling .halted .posted)).dev.queue.unitPos = .posted ∧
    (working (unitJob .halted) (gated (selling .halted .halted))).dev.drive.active = some (unitJob .halted) ∧
    (unitJob .halted).job = .unitDrive 0 (sale .halted).tag ∧ (unitJob .halted).phase = .halted := by
  refine ⟨⟨rfl, rfl⟩, ?_, ?_, ?_, ?_, rfl, rfl, rfl, rfl⟩ <;> decide +kernel

theorem witness_SkipOrderAndClearQueue :
    (selling .queued .none).taking ∧ (selling .queued .none).dev.drive.listSound ∧
    (selling .queued .none).dev.queue.sound ∧ sale .queued ∈ (selling .queued .none).dev.queue.orders ∧
    (selling .queued .none).dev.lane? 0 = some { goodLane with reserved := 2 } ∧ (sale .queued).delivered = 0 ∧
    ((selling .queued .none).withDev ((selling .queued .none).dev.setQueueState .held)).dev.queue.state = .held ∧
    (sale .failed).state.live = false := by
  refine ⟨⟨rfl, rfl⟩, fun _ => rfl, ⟨?_, ?_, ?_⟩, ?_, ?_, ?_, ?_, ?_⟩ <;> decide +kernel

/-- The current order's unit TURNING, and an order halted with no unit in the drive, each in a HELD queue. -/
theorem witness_SkipOrderAndClearQueue_current :
    let held := turning.withDev (turning.dev.setQueueState .held)
    let halted := selling .halted .none
    let stopped := halted.withDev (halted.dev.setQueueState .held)
    held.taking ∧ held.dev.queue.sound ∧ held.dev.drive.listSound ∧ sale .driving ∈ held.dev.queue.orders ∧
    held.dev.lane? 0 = some { goodLane with reserved := 2 } ∧ (sale .driving).state.current = true ∧
    (sale .driving).delivered < (sale .driving).quantity ∧ held.dev.queue.state = .held ∧ held.dev.drive.jobs = [] ∧
    held.dev.drive.matrixSound ∧ held.dev.driveClaims ∧ held.dev.queue.unitPos ≠ .none ∧
    held.dev.drive.active = some (unitJob .turning) ∧ (unitJob .turning).job = .unitDrive 0 1 ∧
    ((unitJob .turning).phase = .window → (unitJob .turning).dropCheck = .required) ∧ (unitJob .turning).phase ≠ .pulse ∧
    stopped.dev.queue.state = .held ∧ sale .halted ∈ stopped.dev.queue.orders ∧ stopped.dev.drive.matrixSound ∧
    stopped.dev.driveClaims ∧ stopped.dev.queue.unitPos = .none ∧ stopped.dev.drive.active = none := by
  refine ⟨⟨rfl, rfl⟩, ⟨by decide, by decide, by decide⟩, (by intro h; cases h), by decide, turning_lane, rfl, by decide, rfl,
    rfl, turning_matrixSound, turning_driveClaims, by decide, rfl, rfl, (by intro h; cases h), by decide, rfl, by decide,
    ⟨fun _ => ⟨rfl, rfl⟩, (by intro n h; cases h)⟩, ⟨by decide, ?_, ?_⟩, rfl, rfl⟩ <;>
  · intro c h
    cases h

theorem witness_money :
    live.taking ∧ live.dev.credit.balance ≤ 65535 ∧ live.dev.coins.inFlight = none ∧
    (withCoins (fun c => { c with inFlight := some (coin .due) }) live).dev.coins.inFlight.isSome = true ∧
    250 ≤ (withPayout (fun p => { p with tubes := put p.tubes 0 { fullTube with capacity := 250 } }) live).dev.payout.tubes[(0 : Fin 6)].capacity ∧
    live.dev.payout.idle = true ∧ (paying .opened 0 0 false .first).dev.payout.idle = false ∧
    live.dev.payout.tubes[(5 : Fin 6)].capacity < 255 := by
  refine ⟨live_taking, ?_, rfl, rfl, ?_, ?_, ?_, ?_⟩ <;> decide +kernel

/-- A tendered coin's class, none, and a tube with a free coin that is worth more than nothing. -/
theorem witness_ChangePlanPaysFromTheTubes :
    let d := (withPayout (fun p => { p with tubes := put p.tubes 0 fullTube }) live).dev
    ({ d with credit := { d.credit with tendered := [0] } } : Device).credit.tendered.head? = some 0 ∧
    d.credit.tendered = [] ∧ givenFrom (d.changePlan false 0).1 0 < fullTube.count - fullTube.planned ∧
    d.payout.tubes[(0 : Fin 6)] = fullTube ∧ 0 < d.tubeValue 0 := by decide +kernel

/-- Money to refund with and without a tube to pay it from, and a tube to dispense from. -/
theorem witness_RefundAndDispenseMakeAPlan :
    let rich := live.withDev { live.dev with credit := { live.dev.credit with balance := 1 } }
    let able := withPayout (fun p => { p with tubes := put p.tubes 0 { fullTube with planned := 0 } }) rich
    rich.taking ∧ rich.dev.payout.idle = true ∧ rich.dev.coins.inFlight = none ∧
    rich.dev.credit.committed < rich.dev.credit.balance ∧ (rich.dev.changePlan true 1).1 = [] ∧
    (able.dev.changePlan true 1).1 ≠ [] ∧ able.dev.credit.pending = .no ∧
    able.dev.payout.tubes[(0 : Fin 6)].state = .ready ∧
    3 + able.dev.payout.tubes[(0 : Fin 6)].planned ≤ able.dev.payout.tubes[(0 : Fin 6)].count := by
  refine ⟨⟨rfl, rfl⟩, ?_, rfl, ?_, ?_, ?_, ?_, ?_, ?_⟩ <;> decide +kernel

theorem witness_classesAndTubes :
    live.taking ∧ named 1 10000 (some 10000) ∧ named 0 1 (some 1) ∧ live.dev.payout.idle = true ∧
    (some (some 0) : Option (Option Nat)) = some ((some (0 : Fin 8)).map (·.val)) ∧ named 1 250 (some 250) ∧
    live.dev.payout.tubes[(0 : Fin 6)].count ≤ 250 ∧
    (∀ u c, (some (0 : Fin 8)) = some c → u ≠ (0 : Fin 6) → live.dev.payout.tubes[u].boundClass ≠ some c) := by
  refine ⟨live_taking, ?_, ?_, ?_, rfl, ?_, ?_, ?_⟩
  · intro v h; cases h; decide
  · intro v h; cases h; decide
  · decide
  · intro v h; cases h; decide
  · decide +kernel
  · decide +kernel

theorem witness_AmendZoneWritesAndSwitches :
    live.taking ∧ live.dev.zones[(0 : Fin 2)].set.enabled = !true ∧
    (withZone (fun r => { r with set := { r.set with enabled := true }, state := .defrost }) live).dev.zones[(0 : Fin 2)].set.enabled = !false ∧
    live.dev.zones[(0 : Fin 2)].set.setPoint < live.dev.zones[(0 : Fin 2)].set.warmLimit ∧
    live.dev.zones[(0 : Fin 2)].state = .off ∧ namedT (-50) 150 (some 79) ∧ namedT 5 50 (some 50) ∧
    namedT (-20) 250 (some 250) ∧ named 0 240 (some 240) ∧ (79 : Int) < 80 := by
  refine ⟨live_taking, ?_, ?_, ?_, ?_, ?_, ?_, ?_, ?_, by decide⟩
  · decide +kernel
  · decide +kernel
  · decide +kernel
  · decide +kernel
  all_goals (intro v h; cases h; decide)

/-- A new hold, allowance and interval, the interval not reached and reached in and out of SATISFIED. -/
theorem witness_AmendZoneWritesAndSwitches_checks :
    let r := live.dev.zones[(0 : Fin 2)]
    let long (st : ZoneState) := (withZone (fun r => { r with state := st, sinceDefrost := 60 }) live).dev.zones[(0 : Fin 2)]
    r.set.setPoint < r.set.warmLimit ∧ (!r.set.holdChilled) ≠ r.set.holdChilled ∧ 240 ≠ r.set.allowance ∧
    1 ≠ r.set.allowance ∧ 24 ≠ r.set.defrostInterval ∧ ¬ (24 ≠ 0 ∧ 24 * 60 ≤ r.sinceDefrost) ∧ r.defrostDue = false ∧
    1 * 60 ≤ (long .drip).sinceDefrost ∧ (long .drip).state = .drip ∧ 1 * 60 ≤ (long .calling).sinceDefrost ∧
    (long .calling).state = .calling := by
  decide +kernel

theorem witness_StartDefrostChecksAndEnters :
    let on (st : ZoneState) := withZone (fun r => { r with set := { r.set with enabled := true }, state := st }) live
    (on .calling).taking ∧ live.dev.zones[(0 : Fin 2)].set.enabled = false ∧
    (on .drip).dev.zones[(0 : Fin 2)].set.enabled = true ∧ (on .drip).dev.zones[(0 : Fin 2)].state = .drip ∧
    (on .probeFault).dev.zones[(0 : Fin 2)].state = .probeFault ∧ (on .calling).dev.zones[(0 : Fin 2)].state = .calling := by
  refine ⟨⟨rfl, rfl⟩, ?_, ?_, ?_, ?_, ?_⟩ <;> decide +kernel

theorem witness_ClearLockoutLeavesTheRest :
    let locked (rested demand : Bool) :=
      (withCompressor (fun c => { c with state := .lockedOut, restElapsed := rested, demand := demand }) live).dev.compressor
    live.taking ∧ live.dev.compressor.state ≠ .lockedOut ∧ (locked false true).state = .lockedOut ∧
    (locked false true).restElapsed = false ∧ ((locked true false).demand && (locked true false).cool) = false ∧
    (locked true true).restElapsed = true ∧ (locked true true).demand = true ∧ (locked true true).cool = true := by
  refine ⟨live_taking, ?_, ?_, ?_, ?_, ?_, ?_, ?_⟩ <;> decide

theorem witness_scanner :
    let scanning := withScanner (fun c => { c with
      pass := some 7, converting := some ⟨7, .pass, 2⟩, periodTimer := some 500, priorityTimer := some 10 }) live
    let idle := withScanner (fun c => { c with periodTimer := some 500, priorityTimer := some 10 }) live
    live.taking ∧ scanning.dev.scanner.pass.isSome = true ∧ scanning.dev.scanner.converting = some ⟨7, .pass, 2⟩ ∧
    scanning.dev.scanner.periodTimer = some 500 ∧ scanning.dev.scanner.priorityTimer = some 10 ∧
    scanning.dev.scanner.passPending = false ∧
    idle.dev.scanner.pass = none ∧ idle.dev.scanner.converting = none ∧ idle.dev.scanner.priorityWaiting = 0 ∧
    idle.dev.scanner.periodTimer = some 500 ∧ idle.dev.scanner.priorityTimer = some 10 :=
  ⟨live_taking, rfl, rfl, rfl, rfl, rfl, rfl, rfl, rfl, rfl, rfl⟩

/-- A pass asked for while a priority conversion runs, and while one waits. -/
theorem witness_scanner_waiting :
    let busy := withScanner (fun c => { c with converting := some ⟨6, .priority, 2⟩ }) live
    let due := withScanner (fun c => { c with priorityWaiting := 1 }) live
    busy.taking ∧ busy.awake ∧ busy.dev.scanner.pass = none ∧ busy.dev.scanner.converting.isSome = true ∧ due.taking ∧
    due.dev.scanner.pass = none ∧ due.dev.scanner.converting = none ∧ 0 < due.dev.scanner.priorityWaiting :=
  ⟨⟨rfl, rfl⟩, live_awake, rfl, rfl, ⟨rfl, rfl⟩, rfl, rfl, Nat.zero_lt_one⟩

theorem witness_emptyBoxesClear :
    live.dev.emptyBoxesClear ∧ ∃ t, step (queued .scanNow live) = .next t := by
  refine ⟨?_, _, rfl⟩
  intro c
  revert c
  decide +kernel

theorem witness_AmendChannelWritesItsSettings :
    let on := withScanner (fun c => { c with setups := put c.setups 7 { c.setups[(7 : Fin 8)] with enabled := true } }) live
    live.taking ∧ ((some 0 : Option Nat).isSome = true ∧ ((5 : Fin 8) = 5 ∨ (5 : Fin 8) = 6)) ∧ (4 : Fin 8) ≠ 7 ∧
    on.dev.scanner.setups[(7 : Fin 8)].enabled = true ∧ on.dev.scanner.pass ≠ some 7 ∧
    (yesNoOf 0).getD true = false := by
  refine ⟨live_taking, ⟨rfl, Or.inl rfl⟩, ?_, ?_, ?_, ?_⟩ <;> decide +kernel

theorem witness_AmendLoadWritesAndTests :
    live.taking ∧ named 4 8 (some 4) ∧ named 4 8 (some 8) ∧ named 180 240 (some 180) ∧ (180 : Nat) < 180 + 10 ∧
    180 + 10 ≤ live.dev.load.set.lowThreshold ∧ live.dev.load.granted ≤ 4 ∧ live.dev.load.set.budget < 8 ∧
    4 < (live.withDev { live.dev with load := { live.dev.load with
      grants := [driveClaim 4 (.unitDrive 0 1), heaterClaim 0] } }).dev.load.granted := by
  refine ⟨live_taking, ?_, ?_, ?_, ?_, ?_, ?_, ?_, ?_⟩
  · intro v h; cases h; decide
  · intro v h; cases h; decide
  · intro v h; cases h; decide
  all_goals decide

theorem witness_ports :
    let saving := { live with port := { live.port with save := some ⟨[], 59, .first, none⟩ } }
    let retrying := { live with port := { live.port with save := some ⟨[], 0, .retry, some 10⟩ } }
    let held := { live with port := { live.port with reply := some ⟨.ok, []⟩ } }
    live.taking ∧ live.port.save = none ∧ live.port.reply = none ∧ saving.taking ∧ saving.port.save.isSome = true ∧
    saving.mem.wf = true ∧ saving.port.save = some ⟨[], 59, .first, none⟩ ∧ 60 ≤ 59 + 1 ∧
    retrying.port.save = some ⟨[], 0, .retry, some 10⟩ ∧ 0 + 1 < 60 ∧ held.port.reply = some ⟨.ok, []⟩ ∧
    ([] : List Byte).length + 4 ≤ 4 ∧ 3 < ([] : List Byte).length + 4 ∧ held.port.restartTimer = none ∧
    ({ held with port := { held.port with restartTimer := some 100 } } : State).port.restartTimer.isSome = true := by
  refine ⟨live_taking, rfl, rfl, ⟨rfl, rfl⟩, rfl, rfl, rfl, ?_, rfl, ?_, rfl, ?_, ?_, rfl, rfl⟩ <;> decide

theorem witness_SavedRecordsReadBack :
    stocked.dev.lane? 0 = some goodLane ∧ stocked.dev.lane? 63 = none ∧ goodLane.product < 65536 ∧
    (∀ v, goodLane.lastTurn = some v → 0 < v ∧ v < 65536) ∧ fullTube.capacity < 256 ∧
    Zone.default.exposure < 65536 ∧ live.dev.coins.classes[(7 : Fin 8)].value < 65536 ∧
    live.dev.compressor.set.minRest < 65536 := by
  refine ⟨stocked_lane, ?_, by decide, (by intro v h; cases h), by decide, by decide, ?_, by decide⟩ <;> decide +kernel

theorem witness_ResetsEmptyAndKeep :
    live.port.phase ≠ .heldInReset ∧
    ({ live with port := { live.port with restartTimer := some 100 } } : State).port.restartTimer.isSome = true ∧
    ({ live with port := { live.port with phase := .heldInReset } } : State).port.phase = .heldInReset ∧
    State.reset.port.phase = .powerOnStartup ∧
    ({ live with port := { live.port with phase := .warmStartup } } : State).port.phase = .warmStartup ∧
    live.port.secondTimer = some 1000 := by decide

/-- An image memory that holds a header and a sum, all else blank. -/
def imaged (format hi lo : Byte) : Memory := [(0, format), (1, 0x07#8), (2, 0x74#8), (1906, hi), (1907, lo)]

/-- What the sum is taken over does not hold the sum. -/
theorem imaged_below (format hi lo : Byte) (n : Nat) (hn : n ≤ 1906) :
    (imaged format hi lo).readAll 0 n = (imaged format 0 0).readAll 0 n := by
  simp only [Memory.readAll]
  refine List.map_congr_left fun i h => ?_
  have h : i < n := List.mem_range.mp h
  simp only [imaged, Memory.read]
  rw [if_neg (by omega : ¬ 0 + i = 1906), if_neg (by omega : ¬ 0 + i = 1907), if_neg (by omega : ¬ 0 + i = 1906),
    if_neg (by omega : ¬ 0 + i = 1907)]

/-- The sum's bytes are read where it is stored. -/
theorem imaged_sum (format hi lo : Byte) : (imaged format hi lo).readAll 1906 2 = [hi, lo] := by
  simp [Memory.readAll, List.range, List.range.loop, imaged, Memory.read]

/-- A header that does not match, a sum that does not, and an image that loads. -/
theorem witness_ResetsEmptyAndKeep_image :
    let sum := (crc16 ((imaged 3 0 0).readAll 0 1906)).toNat
    let sound := imaged 3 (BitVec.ofNat 8 (sum / 256)) (BitVec.ofNat 8 sum)
    let spoilt := imaged 3 (~~~ BitVec.ofNat 8 (sum / 256)) 0
    ((imaged 4 0 0).read 0).toNat ≠ 3 ∧ (sound.read 0).toNat = 3 ∧ n16 (sound.read 1) (sound.read 2) = 1908 ∧
    u16 (crc16 (sound.readAll 0 1906)).toNat = sound.readAll 1906 2 ∧ (spoilt.read 0).toNat = 3 ∧
    n16 (spoilt.read 1) (spoilt.read 2) = 1908 ∧ u16 (crc16 (spoilt.readAll 0 1906)).toNat ≠ spoilt.readAll 1906 2 := by
  have bytes : ∀ n : Nat, u16 n = [BitVec.ofNat 8 (n / 256), BitVec.ofNat 8 n] := fun _ => rfl
  intro sum sound spoilt
  refine ⟨by decide, rfl, rfl, ?_, rfl, rfl, ?_⟩
  · rw [imaged_below _ _ _ _ (Nat.le_refl _), imaged_sum, bytes]
  · rw [imaged_below _ _ _ _ (Nat.le_refl _), imaged_sum, bytes]
    intro h
    have h := (List.cons.inj h).1
    generalize BitVec.ofNat 8 _ = b at h
    revert b
    decide

/-- A lane to be checked and a due defrost at the release of RESET, an event that comes while it is held, and the
markers a warm start-up finds. -/
theorem witness_ResetsEmptyAndKeep_held :
    let due := withZone (fun r => { r with set := { r.set with enabled := true }, defrostDue := true })
      (withLane 0 { goodLane with base := .checking } live)
    let held := { due with port := { due.port with phase := .heldInReset } }
    let warm := { live with port := { live.port with phase := .warmStartup, saveMarker := true } }
    live.awake ∧ ¬ held.awake ∧ held.port.save = none ∧ held.port.restartTimer = none ∧ ¬ isRequest .beamBreak ∧
    held.dev.lane? 0 = some { goodLane with base := .checking } ∧ (∀ m : Fin 64, ¬ m < 0) ∧
    held.dev.zones[(0 : Fin 2)].set.enabled = true ∧ held.dev.zones[(0 : Fin 2)].defrostDue = true ∧
    warm.port.phase = .warmStartup ∧ warm.dev.credit.pending = .no ∧ warm.port.saveMarker = true ∧
    (withCoins (fun c => { c with marker := some ⟨0, 5, .cashbox⟩ }) warm).dev.coins.marker = some ⟨0, 5, .cashbox⟩ := by
  refine ⟨live_awake, (fun h => h rfl), rfl, rfl, ?_, ?_, ?_, ?_, ?_, rfl, rfl, rfl, rfl⟩
  · rintro (h | ⟨b, h⟩ | ⟨b, h⟩) <;> cases h
  all_goals decide +kernel

theorem witness_CamEdgesCountTurns :
    let opened := { unitJob .turning with departureTimer := none, openedAt := some 0, turnTarget := 2 }
    CamLevel.opened ≠ turning.dev.drive.camLine ∧ turning.dev.drive.camTimer = some 20 ∧
    turning.dev.drive.active = some (unitJob .turning) ∧ (unitJob .turning).departureTimer.isSome = true ∧
    (working opened turning).dev.drive.active = some opened ∧ opened.openedAt = some 0 ∧ opened.dropSeen = false ∧
    opened.turnCount + 1 < opened.turnTarget ∧ turning.dev.lane? 0 = some { goodLane with reserved := 2 } ∧
    turning.dev.drive.camLine = .closed := by
  refine ⟨?_, rfl, rfl, rfl, rfl, rfl, rfl, ?_, ?_, rfl⟩ <;> decide +kernel

/-- An off-home turn, an extra turn, the last of them, and the units that report at a turn. -/
theorem witness_CamEdgesCountTurns_ends :
    let offHome := { unitJob .turning with departureTimer := none, offHomeTurn := true, energizedAt := 0 }
    let done := { unitJob .turning with departureTimer := none, openedAt := some 0 }
    let shut := gated (selling .halted .posted)
    turning.awake ∧ offHome.openedAt = none ∧ offHome.offHomeTurn = true ∧ 20 ≤ offHome.energizedAt + 20 ∧
    21 > offHome.energizedAt + 20 ∧ done.dropSeen = false ∧ done.turnTarget ≤ done.turnCount + 1 ∧
    done.dropCheck = .required ∧ done.extraTurns ≤ done.extraCount ∧ done.extraCount < { done with extraTurns := 2 }.extraTurns ∧
    turning.dev.driveClaims ∧ turning.dev.queue.sound ∧ turning.dev.drive.jobs = [] ∧
    shut.dev.queue.current? = some (sale .halted) ∧ (sale .halted).delivered + 1 < (sale .halted).quantity ∧
    { done with dropSeen := true }.dropSeen = true ∧ { done with dropCheck := .notRequired }.dropCheck = .notRequired := by
  refine ⟨turning_awake, rfl, rfl, by decide, by decide, rfl, by decide, rfl, by decide, by decide, turning_driveClaims,
    ⟨by decide, by decide, by decide⟩, rfl, by decide, by decide, rfl, rfl⟩

/-- The turning unit's drop seen, its cam open since 0, and an order in the queue. -/
def completing (o : Order) (s : State) : State :=
  let s := withLane 0 { goodLane with reserved := o.quantity - o.delivered }
    (working { unitJob .turning with departureTimer := none, openedAt := some 0, dropSeen := true } s)
  s.withDev { s.dev with queue := { s.dev.queue with orders := [o] } }

/-- A unit delivered at a turn with the FLAP gate closed, the last unit of its order, and one that the next unit
follows: each state meets its whole clause. -/
theorem witness_CamEdgesCountTurns_delivered :
    let first := sale .driving
    let last := { first with delivered := 1, charged := 5 }
    let next := completing first turning
    let shut := next.withDev { next.dev with inputs := put next.dev.inputs 2 { next.dev.inputs[(2 : Fin 4)] with state := .offRef } }
    let ended := completing last turning
    (∀ s ∈ [next, shut, ended], s.port.phase ≠ .heldInReset ∧ s.dev.drive.camTimer = some 20 ∧
      s.dev.drive.camLine = .closed ∧ s.dev.drive.jobs = [] ∧ s.dev.load = turning.dev.load ∧
      s.dev.drive.active.map (fun j => (j.job, j.phase, j.openedAt, j.dropSeen)) =
        some (.unitDrive 0 1, .turning, some 0, true) ∧
      s.dev.queue.orders.length ≤ 8 ∧ (s.dev.queue.orders.map (·.tag)).Nodup ∧
      (s.dev.queue.orders.filter (·.state.current)).length ≤ 1) ∧
    next.dev.driveClaims ∧
    next.dev.queue.current? = some first ∧ first.state = .driving ∧ first.tag = 1 ∧ first.lane = 0 ∧
    first.delivered + 1 < first.quantity ∧ next.dev.onRef .door = true ∧ next.dev.onRef .flap = true ∧
    next.dev.lane? 0 = some { goodLane with reserved := 2 } ∧ goodLane.base = .inService ∧ goodLane.spoiled = false ∧
    goodLane.held = false ∧ 2 ≤ goodLane.stock ∧ shut.dev.queue.current? = some first ∧ shut.dev.onRef .flap = false ∧
    ended.dev.queue.current? = some last ∧ last.delivered + 1 = last.quantity ∧ ended.dev.queue.head? = none ∧
    ended.dev.lane? 0 = some { goodLane with reserved := 1 } := by
  refine ⟨by decide +kernel, ⟨by decide +kernel, (by intro c hc; cases hc), ?_⟩, ?_⟩
  · intro c _ _
    exact ⟨_, rfl, Or.inl ⟨rfl, rfl⟩⟩
  · decide +kernel

/-- A motor-current sample before its time, a low one, the tenth low one, and one of a fit check's pulse. -/
theorem witness_CamEdgesCountTurns_current :
    let sampled (ends : Nat) := withScanner (fun c => { c with converting := some ⟨6, .priority, ends⟩ }) turning
    (sampled 49).awake ∧ (sampled 49).dev.scanner.converting = some ⟨6, .priority, 49⟩ ∧
    (sampled 49).dev.drive.active = some (unitJob .turning) ∧ 49 < (unitJob .turning).energizedAt + 50 ∧
    (unitJob .turning).energizedAt + 50 ≤ 50 ∧ (unitJob .turning).lowRun + 1 < 10 ∧
    10 ≤ { unitJob .turning with lowRun := 9 }.lowRun + 1 ∧ (unitJob .turning).supplyMark = false ∧
    (unitJob .turning).dropSeen = false ∧ (sampled 50).dev.queue.current? = some (sale .driving) ∧
    fitJob.phase = .pulse := by
  refine ⟨turning_awake, rfl, rfl, ?_, ?_, ?_, ?_, rfl, rfl, ?_, rfl⟩ <;> decide

theorem witness_driveEvents :
    let window := working (unitJob .window) (selling .driving .posted)
    let checking := working fitJob (withLane 0 { goodLane with base := .checking } live)
    turning.dev.queue.sound ∧ (unitJob .turning).supplyMark = false ∧ (unitJob .turning).turnTimer.isSome = true ∧
    turning.dev.queue.current? = some (sale .driving) ∧ turning.dev.lane? 0 = some { goodLane with reserved := 2 } ∧
    (sale .driving).delivered < (sale .driving).quantity ∧ (unitJob .window).closingTimer = some 2000 ∧
    (unitJob .window).dropCheck = .required ∧ window.dev.queue.current? = some (sale .driving) ∧
    window.dev.drive.active = some (unitJob .window) ∧ (unitJob .window).windowOpen = true ∧
    checking.dev.drive.active = some fitJob ∧ fitJob.pulseTimer = some 150 ∧
    checking.dev.lane? 0 = some { goodLane with base := .checking } ∧
    (∀ j, live.dev.drive.active = some j → j.job.tag? = none ∨ j.windowOpen = false) := by
  refine ⟨⟨by decide, by decide, by decide⟩, rfl, rfl, by decide, ?_, by decide, rfl, rfl, by decide, rfl, rfl, rfl, rfl, ?_,
    (by intro j h; cases h)⟩ <;> decide +kernel

/-- A unit reported at its last turn, its drop window still open, and a fan's run-on that ends under a held RESET. -/
theorem witness_driveEvents_reported :
    let j := { unitJob .window with dropCheck := .notRequired }
    let reported := working j (selling .driving .none)
    let fanning := withCompressor (fun c => { c with fanTimer := some 60000 }) live
    let held := { fanning with port := { fanning.port with phase := .heldInReset } }
    reported.awake ∧ reported.dev.drive.active = some j ∧ j.job = .unitDrive 0 1 ∧ j.windowOpen = true ∧
    j.phase = .window ∧ j.dropCheck = .notRequired ∧ reported.dev.drive.jobs = [] ∧ reported.dev.queue.sound ∧
    ¬ held.awake ∧ held.dev.compressor.fanTimer = some 60000 := by
  exact ⟨live_awake, rfl, rfl, rfl, rfl, rfl, rfl, ⟨by decide, by decide, by decide⟩, fun h => h rfl, rfl⟩

theorem witness_links :
    let ready := withCoins (fun c => { c with
      link := .present, slotTimer := some 50, inFlight := some (coin .due), maskDue := true }) live
    let missed := withCoins (fun c => { c with missCount := 2 }) (exchanging .poll false)
    ready.dev.coins.slotTimer = some 50 ∧ ready.dev.coins.link = .present ∧ ready.dev.coins.exchange = none ∧
    ready.dev.coins.inFlight = some (coin .due) ∧ (coin .due).routeState = .due ∧ (coin .sent).routeState = .sent ∧
    (withCoins (fun c => { c with identifyTimer := some 500 }) live).dev.coins.link = .absent ∧
    (exchanging .poll false).dev.coins.exchange = some ⟨.poll, false, some 15⟩ ∧ missed.dev.coins.missCount = 2 ∧
    (exchanging .poll true).dev.coins.exchange = some ⟨.poll, true, none⟩ ∧ (exchanging .poll true).dev.coins.missCount < 2 ∧
    (exchanging .poll true).dev.coins.inFlight = none ∧ (coin .sent).route ≠ .reject ∧
    (withCoins (fun c => { c with link := .absent }) (exchanging .identify true)).dev.coins.link = .absent := by
  refine ⟨rfl, rfl, rfl, rfl, rfl, rfl, rfl, rfl, rfl, rfl, ?_, rfl, ?_, rfl⟩ <;> decide

/-- A class that is enabled, with room and a tube, has the route the table gives. -/
theorem witness_links_route :
    ((.reject, some .disabled) : Route × Option RejectReason) =
      (if (exchanging .poll true).dev.coins.classes[(0 : Fin 8)].enabled = false then (.reject, some .disabled)
       else (.cashbox, none)) := by decide +kernel

/-- The reports of a FAULT, a coin returned or done with and without one in flight, a coin of the class in flight and
of another, and the return lever with money still and with money on its way. -/
theorem witness_links_reports :
    let polled := exchanging .poll true
    let flying (route : Route) := withCoins (fun c => { c with inFlight := some { coin .sent with route := route } }) polled
    polled.awake ∧ polled.dev.coins.exchange = some ⟨.poll, true, none⟩ ∧ polled.dev.coins.link = .present ∧
    (1 : Byte) ≠ 0#8 ∧ (255#8 : Byte) ≠ 0#8 ∧ polled.dev.coins.inFlight = none ∧ polled.dev.payout.idle = true ∧
    (flying .cashbox).dev.coins.inFlight = some { coin .sent with route := .cashbox } ∧
    (flying .reject).dev.coins.inFlight = some { coin .sent with route := .reject } ∧ (0 : Fin 8) = (coin .sent).coinClass ∧
    (7 : Fin 8) ≠ (coin .sent).coinClass ∧ polled.dev.credit.pending ≠ .refund ∧
    (polled.withDev { polled.dev with credit := { polled.dev.credit with balance := 5 } }).dev.credit.committed < 5 := by
  refine ⟨live_awake, rfl, rfl, by decide, by decide, rfl, rfl, rfl, rfl, rfl, ?_, ?_, ?_⟩ <;> decide

theorem witness_payouts :
    let settled := paying .opened 0 1 false .first
    let p := withPayout (fun p => { p with coin := some { pending 1 false .first with windowOpen := false } }) settled
    (withPayout (fun p => { p with onTimer := some 60 }) live).dev.payout.onTimer = some 60 ∧
    settled.dev.payout.gapTimer = some 140 ∧ settled.dev.payout.windowOpen = true ∧
    p.dev.payout.plan = some (changing .opened 0) ∧ p.dev.payout.solenoid = none ∧ p.dev.payout.windowOpen = false ∧
    (changing .opened 0).currentLine = some (0, ⟨0, 1, 0, .opened⟩) ∧ (changing .opened 0).state = .ejecting ∧
    (∀ c, live.dev.payout.coin = some c → c.windowOpen = false) ∧
    settled.dev.payout.coin = some (pending 1 false .first) ∧ 0 < (pending 1 false .first).seen ∧
    (pending 0 false .first).attempt = .first ∧ (pending 0 true .retry).cut = true ∧
    (pending 0 false .retry).seen = 0 ∧ (changing .done 1).currentLine = none ∧
    (changing .done 1).requested = .amount 1 ∧ 1 ≤ (changing .done 1).paid ∧ settled.dev.credit.pending = .no := by
  refine ⟨rfl, rfl, rfl, rfl, rfl, rfl, ?_, rfl, ?_, rfl, ?_, rfl, rfl, rfl, ?_, rfl, ?_, rfl⟩
  · decide
  · intro c h
    cases h
  all_goals decide

/-- A window closes after its gap: a coin counted, and a first miss. -/
theorem witness_payouts_gapEnded :
    let settled := withPayout (fun p => { p with gapTimer := none }) (paying .opened 0 1 false .first)
    let missed := withPayout (fun p => { p with gapTimer := none }) (paying .opened 0 0 false .first)
    settled.awake ∧ settled.dev.payout.gapTimer = none ∧ settled.dev.payout.solenoid = none ∧
    (changing .opened 0).state = .ejecting ∧ (changing .opened 0).currentLine = some (0, ⟨0, 1, 0, .opened⟩) ∧
    missed.dev.payout.coin = some (pending 0 false .first) ∧ (pending 0 false .first).attempt = .first :=
  ⟨live_awake, rfl, rfl, rfl, rfl, rfl, rfl⟩

theorem witness_ZoneTimersCountAndMove :
    let on (st : ZoneState) := withZone (fun r => { r with
      set := { r.set with enabled := true }, state := st, sinceTimer := some 60000, minuteTimer := some 60000,
      dripTimer := some 120000, sinceDefrost := 359,
      defrost := if st = .defrost then some ⟨40, 30, some 100⟩ else none }) live
    let r (st : ZoneState) := (on st).dev.zones[(0 : Fin 2)]
    (r .calling).sinceTimer = some 60000 ∧ (r .calling).defrostDue = false ∧
    min 1440 (live.dev.zones[(0 : Fin 2)].sinceDefrost + 1) < (r .calling).set.defrostInterval * 60 ∧
    (r .calling).set.defrostInterval * 60 ≤ min 1440 ((r .calling).sinceDefrost + 1) ∧ (r .calling).state = .calling ∧
    (r .defrost).state = .defrost ∧ (r .defrost).defrost = some ⟨40, 30, some 100⟩ ∧
    (r .drip).dripTimer = some 120000 ∧ (r .drip).state = .drip ∧ (r .drip).minuteTimer = some 60000 ∧
    (r .drip).warm = false ∧ (r .probeFault).state = .probeFault := by
  refine ⟨?_, ?_, ?_, ?_, ?_, ?_, ?_, ?_, ?_, ?_, ?_, ?_⟩ <;> decide +kernel

theorem witness_ZoneTimersCountAndMove_claims :
    (withZone (fun r => { r with
      set := { r.set with enabled := true }, state := .defrost, defrost := some ⟨40, 30, some 100⟩ }) live).dev.heaterClaims := by
  intro z
  refine ⟨?_, ?_, ?_⟩ <;> revert z <;> decide +kernel

/-- An air sample's and an evaporator sample's conversions, and a defrost at its end temperature and below it. -/
theorem witness_ZoneTimersCountAndMove_samples :
    let at_ (c : Fin 8) := withScanner (fun s => { s with converting := some ⟨c, .pass, 2⟩ }) live
    (at_ 0).awake ∧ (at_ 0).dev.scanner.converting = some ⟨0, .pass, 2⟩ ∧ (0 : Fin 8) = (if (0 : Fin 2) = 0 then 0 else 2) ∧
    (2 : Fin 8) = (if (1 : Fin 2) = 0 then 0 else 2) ∧ (1 : Fin 8) = (if (0 : Fin 2) = 0 then 1 else 3) ∧
    live.dev.zones[(0 : Fin 2)].air = none ∧ live.dev.zones[(0 : Fin 2)].state ≠ .defrost ∧
    judgeReading 1 live.dev.scanner.setups[(1 : Fin 8)] 700 = .good 50 ∧ (40 : Int) ≤ 50 ∧ (50 : Int) < 51 := by
  refine ⟨live_awake, rfl, ?_, ?_, ?_, ?_, ?_, ?_, ?_, ?_⟩ <;> decide +kernel

theorem witness_CompressorTimersAndConfirmation :
    let copy (mode : ConfirmMode) : StartCopy := ⟨4, mode, .low, 60, some .high⟩
    let c (st : CompressorState) (mode : ConfirmMode) : Compressor := { live.dev.compressor with
      state := st, restTimer := some 10, startTimer := some 4000, runTimer := some 60000, fanTimer := some 60000,
      confirmTimer := some 50, demand := true, failures := 2, startCopy := some (copy mode) }
    live.dev.compressorClaims ∧ (c .lockedOut .delay).restTimer = some 10 ∧ (c .lockedOut .delay).state = .lockedOut ∧
    (c .resting .delay).demand = true ∧ (c .resting .delay).cool = true ∧ (c .starting .delay).sensing = false ∧
    (c .starting .sense).sensing = true ∧ (c .starting .sense).startTimer = some 4000 ∧ 3 ≤ (c .starting .sense).failures + 1 ∧
    (c .running .delay).runTimer = some 60000 ∧ (c .running .delay).fanTimer = some 60000 ∧
    Level.high ≠ live.dev.compressor.confirmLine ∧ (c .starting .sense).confirmTimer = some 50 ∧
    (c .starting .sense).startCopy = some ⟨4, .sense, .low, 60, some .high⟩ ∧ (c .starting .sense).confirmLine = .low := by
  refine ⟨live_otherClaims.2.1, ?_, ?_, ?_, ?_, ?_, ?_, ?_, ?_, ?_, ?_, ?_, ?_, ?_, ?_⟩ <;> decide

/-- A RUNNING SENSE compressor whose confirmation is lost, and a condenser sample: hot, cool, and not GOOD. -/
theorem witness_CompressorTimersAndConfirmation_samples :
    let sampled := withScanner (fun s => { s with converting := some ⟨4, .pass, 2⟩ }) live
    let running := { live.dev.compressor with
      state := .running, confirmLevel := some .low, confirmLine := .high,
      startCopy := some { minRun := 60, confirmMode := .sense, confirmPolarity := .low, startWindow := 4, levelAtClosing := none } }
    let read (v : Sample) : Compressor := { live.dev.compressor with condenser := some v, judgedLimit := 650 }
    sampled.awake ∧ sampled.dev.scanner.converting = some ⟨4, .pass, 2⟩ ∧ sampled.dev.compressorClaims ∧
    running.sensing = true ∧ running.confirmLevel = some .low ∧ (read (.good 651)).hot = true ∧
    (read (.good 650)).hot = false ∧ (read (.good 600)).cool = true ∧ (read (.good 601)).cool = false ∧
    (Sample.opened.bad && !live.dev.compressor.condenser.any Sample.bad) = true := by
  refine ⟨live_awake, rfl, live_otherClaims.2.1, rfl, rfl, ?_, ?_, ?_, ?_, ?_⟩ <;> decide

theorem witness_samplesAndBands :
    (∃ k, (withScanner (fun c => { c with converting := some ⟨7, .pass, 2⟩ }) live).dev.scanner.converting = some k) ∧
    (980 : Nat) ≤ 980 ∧ (20 : Nat) ≤ 20 ∧ (20 : Nat) < 21 ∧ (39 : Nat) < 40 ∧ (49 : Nat) < 50 ∧ (960 : Nat) < 961 ∧
    (970 : Nat) < 971 ∧ (979 : Nat) < 980 ∧
    (live.dev.load.set.criticalThreshold : Int) + 10 ≤ live.dev.load.set.lowThreshold := by
  refine ⟨⟨_, rfl⟩, ?_, ?_, ?_, ?_, ?_, ?_, ?_, ?_, ?_⟩ <;> decide

/-- A supply sample in each band, with the drive's and a heater's claims granted. -/
theorem witness_samplesAndBands_supply :
    let sampled := withScanner (fun s => { s with converting := some ⟨5, .pass, 2⟩ }) turning
    let judged (v : Nat) := sampled.dev.load.bandAfter (judgeReading 5 sampled.dev.scanner.setups[(5 : Fin 8)] v)
    sampled.awake ∧ sampled.dev.scanner.converting = some ⟨5, .pass, 2⟩ ∧ sampled.dev.driveClaims ∧
    sampled.dev.unitsSound ∧ sampled.dev.load.band = .normal ∧ judged 210 = .normal ∧ judged 209 = .low ∧ judged 179 = .critical ∧
    (∃ c ∈ sampled.dev.load.grants, c.who = .drive) ∧
    LoadBudget.bandAfter { live.dev.load with band := .critical } (.good 215) = .normal := by
  refine ⟨turning_awake, rfl, turning_driveClaims, turning_unitsSound, rfl, ?_, ?_, ?_, ⟨driveClaim 2 (.unitDrive 0 1), ?_, rfl⟩, ?_⟩ <;> decide

theorem witness_InputsAreDebouncedAndJudged :
    let r := (live.withDev { live.dev with inputs := mapAll (fun r => { r with timer := some 50 }) live.dev.inputs }).dev.inputs
    Level.low = live.dev.inputs[(0 : Fin 4)].line ∧ Level.high ≠ live.dev.inputs[(0 : Fin 4)].line ∧
    r[(3 : Fin 4)].timer = some 50 ∧ r[(3 : Fin 4)].debounced = none := by
  refine ⟨?_, ?_, ?_, ?_⟩ <;> decide +kernel

end Sys2Proof.Tests
end

section
/-! SUPPORT. The rules of the shared operations on tables, lanes and orders: what a slot, a lane, a tube, an order
reads after an operation, and what the operation leaves as it is. -/
namespace Sys2Proof.Proofs

open Sys2Proof.Machine Sys2Proof.Laws

-- One proof at a time: together they wait for the kernel in a thread each, and the memory limit is met.
set_option Elab.async false

/-! ### Tables -/

@[simp] theorem get_put {α : Type} {n : Nat} (v : Vector α n) (i j : Fin n) (x : α) :
    (put v i x)[j] = if j = i then x else v[j] := by
  show (v.set i.val x i.isLt)[j.val] = _
  rw [Vector.getElem_set]
  by_cases h : i = j
  · subst h; simp
  · have : i.val ≠ j.val := fun e => h (Fin.ext e)
    simp [this, Ne.symm h]

theorem mapAll_eq_map {α β : Type} {n : Nat} (f : α → β) (v : Vector α n) : mapAll f v = v.map f := by
  apply Vector.toArray_inj.mp
  apply Array.toList_inj.mp
  simp only [mapAll, Vector.toArray_map, Array.toList_map]
  rfl

@[simp] theorem get_mapAll {α β : Type} {n : Nat} (f : α → β) (v : Vector α n) (i : Fin n) :
    (mapAll f v)[i] = f v[i] := by
  rw [mapAll_eq_map]
  exact Vector.getElem_map ..

@[simp] theorem get_replicate {α : Type} {n : Nat} (x : α) (i : Fin n) : (Vector.replicate n x)[i] = x := by
  show (Vector.replicate n x)[i.val] = x
  simp

/-- A table is settled by its entries. -/
theorem table_ext {α : Type} {n : Nat} {v w : Vector α n} (h : ∀ i : Fin n, v[i] = w[i]) : v = w :=
  Vector.ext fun i hi => h ⟨i, hi⟩

@[simp] theorem put_put {α : Type} {n : Nat} (v : Vector α n) (i : Fin n) (x y : α) : put (put v i x) i y = put v i y :=
  table_ext fun j => by simp only [get_put]; split <;> rfl

theorem mem_upTo {n : Nat} (i : Fin (n + 1)) : i ∈ upTo n := by
  simp only [upTo, List.mem_map, List.mem_range]
  exact ⟨i.val, i.isLt, by simp⟩

theorem mem_allLanes (n : Fin 64) : n ∈ allLanes := mem_upTo n

theorem mem_allTubes (t : Fin 6) : t ∈ allTubes := mem_upTo t

@[simp] theorem index_val {n : Nat} (k : Fin n) : index n k.val = some k := by simp [index]

theorem index_eq_some {n k : Nat} {i : Fin n} : index n k = some i ↔ k = i.val := by
  unfold index
  split
  · simp [Fin.ext_iff]
  · next h => simp; intro e; exact h (e ▸ i.isLt)

/-! ### Lanes -/

@[simp] theorem lane?_setSlot (n m : Fin 64) (l : Option Lane) (d : Device) :
    (d.setSlot n l).lane? m = if m = n then l else d.lane? m := get_put ..

/-- The slots alone settle what a lane reads. -/
theorem lane?_of_table {d e : Device} (h : e.table = d.table) (n : Fin 64) : e.lane? n = d.lane? n := by
  simp only [Device.lane?, h]

theorem updateLane_some {n : Fin 64} {d : Device} {l : Lane} (h : d.lane? n = some l) (f : Lane → Lane) :
    d.updateLane n f = d.setSlot n (some (f l)) := by simp only [Device.updateLane, h]

theorem updateLane_none {n : Fin 64} {d : Device} (h : d.lane? n = none) (f : Lane → Lane) :
    d.updateLane n f = d := by simp only [Device.updateLane, h]

/-- A lane's record after a change of one lane. -/
@[simp] theorem lane?_updateLane (n m : Fin 64) (f : Lane → Lane) (d : Device) :
    (d.updateLane n f).lane? m = if m = n then (d.lane? n).map f else d.lane? m := by
  cases h : d.lane? n with
  | none => rw [updateLane_none h]; split <;> simp_all
  | some l => rw [updateLane_some h]; simp

@[simp] theorem lane?_joinChanged (n m : Fin 64) (d : Device) : (d.joinChanged n).lane? m = d.lane? m := by
  unfold Device.joinChanged; split <;> rfl

@[simp] theorem lane?_leaveChanged (n m : Fin 64) (d : Device) : (d.leaveChanged n).lane? m = d.lane? m := rfl

@[simp] theorem lane?_changeLane (n m : Fin 64) (f : Lane → Lane) (d : Device) :
    (d.changeLane n f).lane? m = if m = n then (d.lane? n).map f else d.lane? m := by
  unfold Device.changeLane
  cases h : d.lane? n with
  | none => simp only [Option.map_none]; split <;> simp_all
  | some l => simp

/-- A change of one lane's record changes the slots alone. -/
theorem updateLane_eq (n : Fin 64) (f : Lane → Lane) (d : Device) :
    d.updateLane n f = { d with table := { d.table with slots := (d.updateLane n f).table.slots } } := by
  cases h : d.lane? n with
  | none => rw [updateLane_none h]
  | some l => rw [updateLane_some h]; rfl

/-- Joining the changed-lanes set changes the set and the conditions alone. -/
theorem joinChanged_eq (n : Fin 64) (d : Device) :
    d.joinChanged n = { d with table := { d.table with changed := (d.joinChanged n).table.changed },
                               conditions := (d.joinChanged n).conditions } := by
  unfold Device.joinChanged; split <;> rfl

@[simp] theorem changed_joinChanged (n m : Fin 64) (d : Device) :
    (d.joinChanged n).table.changed[m] = (decide (m = n) || d.table.changed[m]) := by
  unfold Device.joinChanged
  split
  · next h =>
    by_cases e : m = n
    · subst e; simp only [decide_true, Bool.true_or]; exact h
    · simp [e]
  · simp only [raise_table, get_put]
    by_cases e : m = n <;> simp [e]

theorem changeLane_some {n : Fin 64} {d : Device} {l : Lane} (h : d.lane? n = some l) (f : Lane → Lane) :
    d.changeLane n f = (d.setSlot n (some (f l))).joinChanged n := by simp only [Device.changeLane, h]

/-- A change of a lane's record by the device changes the lane table and the conditions alone. -/
theorem changeLane_eq (n : Fin 64) (f : Lane → Lane) (d : Device) :
    d.changeLane n f = { d with table := (d.changeLane n f).table, conditions := (d.changeLane n f).conditions } := by
  cases h : d.lane? n with
  | none => simp only [Device.changeLane, h]
  | some l => rw [changeLane_some h, joinChanged_eq]; rfl

end Sys2Proof.Proofs
end

section
/-! SUPPORT. The lane table's reads: the lowest member of the changed-lanes set, and the vend preference order. -/
namespace Sys2Proof.Proofs

open Sys2Proof.Machine Sys2Proof.Laws

-- One proof at a time: together they wait for the kernel in a thread each, and the memory limit is met.
set_option Elab.async false

/-! ### READ LANE -/

/-- A request on an enrolled lane acts on its record. -/
theorem onLane_enrolled {d : Device} {n : Fin 64} {l : Lane} (hl : d.lane? n = some l)
    (f : Fin 64 → Lane → Device → Device × Reply) : onLane n.val f d = f n l d := by
  simp only [onLane, index_val, hl]

/-- The list of all numbers is in ascending order. -/
theorem upTo_ascending (n : Nat) : (upTo n).Pairwise (· < ·) := by
  rw [upTo, List.pairwise_map]
  refine List.pairwise_lt_range.imp_of_mem fun {a b} ha hb hab => ?_
  have ha := List.mem_range.1 ha
  have hb := List.mem_range.1 hb
  simp only [Fin.lt_def, Fin.val_ofNat, Nat.mod_eq_of_lt ha, Nat.mod_eq_of_lt hb]
  exact hab

/-- In an ascending list the first entry that passes is the one below which none passes. -/
theorem find?_of_lowest {n : Nat} {p : Fin n → Bool} {k : Fin n} (hk : p k = true)
    (low : ∀ m, m < k → p m = false) : ∀ {xs : List (Fin n)}, xs.Pairwise (· < ·) → k ∈ xs → xs.find? p = some k
  | x :: xs, asc, mem => by
    obtain ⟨first, rest⟩ := List.pairwise_cons.1 asc
    rcases List.mem_cons.1 mem with rfl | later
    · exact List.find?_cons_of_pos hk
    · rw [List.find?_cons_of_neg (by simp [low x (first k later)])]
      exact find?_of_lowest hk low rest later

theorem lowestChanged_eq_some {t : LaneTable} {n : Fin 64} (hn : t.changed[n] = true)
    (low : ∀ m : Fin 64, m < n → t.changed[m] = false) : t.lowestChanged = some n :=
  find?_of_lowest (p := fun m : Fin 64 => t.changed[m]) hn low (upTo_ascending 63) (mem_allLanes n)

theorem lowestChanged_eq_none {t : LaneTable} (h : ∀ m : Fin 64, t.changed[m] = false) : t.lowestChanged = none := by
  rw [LaneTable.lowestChanged, List.find?_eq_none]
  intro m _
  rw [h m]
  exact Bool.false_ne_true

/-- Settles O17: by number and in the next-changed form the same record is read, once the lowest member is found. -/
theorem readLaneTakesTheLaneOffTheChangedSet : Obligations.ReadLaneTakesTheLaneOffTheChangedSet := by
  intro s n l h hl
  refine ⟨?_, fun low hn lane => ?_, fun none lane => ?_⟩
  · show Host.Outcome.next (s.request (readLane 0 n.val)) = _
    rw [request_taken h, readLane, onLane_enrolled hl]
    rfl
  · show Host.Outcome.next (s.request (readLane 1 lane)) = _
    rw [request_taken h, readLane, lowestChanged_eq_some hn low]
    simp only
    rw [onLane_enrolled hl]
    rfl
  · show Host.Outcome.next (s.request (readLane 1 lane)) = _
    rw [request_taken h, readLane, lowestChanged_eq_none none]
    rfl

/-! ### FIND PRODUCT -/

theorem mem_insertBy {α : Type} (before : α → α → Bool) (x y : α) :
    ∀ xs : List α, y ∈ insertBy before x xs ↔ y = x ∨ y ∈ xs
  | [] => by simp [insertBy]
  | z :: zs => by
    unfold insertBy
    split
    · simp
    · rw [List.mem_cons, mem_insertBy before x y zs, List.mem_cons]
      exact or_left_comm

theorem mem_sortBy {α : Type} (before : α → α → Bool) (y : α) : ∀ xs : List α, y ∈ sortBy before xs ↔ y ∈ xs
  | [] => Iff.rfl
  | x :: xs => by rw [sortBy, mem_insertBy, mem_sortBy before y xs, List.mem_cons]

/-- Insertion into a sorted list keeps it sorted, where one of two comes first. -/
theorem insertBy_sorted {α : Type} {before : α → α → Bool}
    (trans : ∀ x y z, before x y = true → before y z = true → before x z = true) {x : α} :
    ∀ {xs : List α}, (∀ y ∈ xs, before x y = true ∨ before y x = true) →
      xs.Pairwise (fun y z => before y z = true) → (insertBy before x xs).Pairwise fun y z => before y z = true
  | [], _, _ => List.pairwise_singleton _ _
  | y :: ys, total, sorted => by
    obtain ⟨first, rest⟩ := List.pairwise_cons.1 sorted
    unfold insertBy
    split
    · next h =>
      refine List.pairwise_cons.2 ⟨fun z hz => ?_, sorted⟩
      rcases List.mem_cons.1 hz with rfl | later
      · exact h
      · exact trans x y z h (first z later)
    · next h =>
      refine List.pairwise_cons.2 ⟨fun z hz => ?_,
        insertBy_sorted trans (fun z hz => total z (List.mem_cons_of_mem _ hz)) rest⟩
      rcases (mem_insertBy before x z ys).1 hz with rfl | later
      · exact (total y List.mem_cons_self).resolve_left h
      · exact first z later

/-- A list of which each two are ordered one way or the other is sorted by sortBy. -/
theorem sortBy_sorted {α : Type} {before : α → α → Bool}
    (trans : ∀ x y z, before x y = true → before y z = true → before x z = true) :
    ∀ {xs : List α}, xs.Pairwise (fun x y => before x y = true ∨ before y x = true) →
      (sortBy before xs).Pairwise fun x y => before x y = true
  | [], _ => List.Pairwise.nil
  | x :: xs, total => by
    obtain ⟨first, rest⟩ := List.pairwise_cons.1 total
    exact insertBy_sorted trans (fun y hy => first y ((mem_sortBy before y xs).1 hy)) (sortBy_sorted trans rest)

theorem olderThan_iff {t : LaneTable} {x y : Fin 64 × Lane} :
    t.olderThan x y = true ↔ t.age y.2 < t.age x.2 ∨ (t.age x.2 = t.age y.2 ∧ x.1 < y.1) := by
  simp [LaneTable.olderThan]

theorem olderThan_trans {t : LaneTable} {x y z : Fin 64 × Lane} (h : t.olderThan x y = true)
    (k : t.olderThan y z = true) : t.olderThan x z = true := by
  rw [olderThan_iff, Fin.lt_def] at *
  omega

/-- Two lanes of different numbers are ranked. -/
theorem olderThan_total {t : LaneTable} {x y : Fin 64 × Lane} (h : x.1 < y.1) :
    t.olderThan x y = true ∨ t.olderThan y x = true := by
  rw [olderThan_iff, olderThan_iff]
  omega

theorem mem_carriers {d : Device} {code : Nat} {n : Fin 64} {l : Lane} :
    (n, l) ∈ d.carriers code ↔ d.lane? n = some l ∧ l.product = code := by
  simp only [Device.carriers, List.mem_filterMap, Option.map_eq_some_iff, Option.filter_eq_some_iff, decide_eq_true_eq,
    Prod.mk.injEq]
  constructor
  · rintro ⟨m, _, k, ⟨hk, hp⟩, rfl, rfl⟩
    exact ⟨hk, hp⟩
  · rintro ⟨hl, hp⟩
    exact ⟨n, mem_allLanes n, l, ⟨hl, hp⟩, rfl, rfl⟩

/-- The carriers are in ascending order of lane number. -/
theorem carriers_ascending (d : Device) (code : Nat) : (d.carriers code).Pairwise fun x y => x.1 < y.1 := by
  rw [Device.carriers, List.pairwise_filterMap]
  refine (upTo_ascending 63).imp fun {m n} hmn x hx y hy => ?_
  obtain ⟨_, _, rfl⟩ := Option.map_eq_some_iff.1 hx
  obtain ⟨_, _, rfl⟩ := Option.map_eq_some_iff.1 hy
  exact hmn

theorem mem_vendOrder {d : Device} {code : Nat} {n : Fin 64} {l : Lane} :
    (n, l) ∈ d.vendOrder code ↔ d.lane? n = some l ∧ l.product = code ∧ l.sellable 1 0 = true := by
  rw [Device.vendOrder, mem_sortBy, List.mem_filter, mem_carriers, and_assoc]

theorem vendOrder_sorted (d : Device) (code : Nat) :
    (d.vendOrder code).Pairwise fun x y => d.table.olderThan x y = true := by
  rw [Device.vendOrder]
  have ascending := (carriers_ascending d code).filter fun x => x.2.sellable 1 0
  exact sortBy_sorted (before := d.table.olderThan) (fun x y z => olderThan_trans) (ascending.imp olderThan_total)

/-- Settles O18: the order is a sorting of the sellable carriers, and the request answers from it. -/
theorem findProductRanksByRestockAge : Obligations.FindProductRanksByRestockAge := by
  refine ⟨fun d code => ⟨(vendOrder_sorted d code).imp olderThan_iff.1, fun _ _ => mem_vendOrder⟩, ?_, ?_⟩
  · rintro s code h hcode ⟨n, l, hl, hp⟩
    have carried : (s.dev.carriers code).isEmpty = false :=
      List.isEmpty_eq_false_iff_exists_mem.2 ⟨(n, l), mem_carriers.2 ⟨hl, hp⟩⟩
    show Host.Outcome.next (s.query (findProduct code)) = _
    rw [query_taken h]
    simp only [findProduct, hcode, if_false, carried, Bool.false_eq_true]
    rfl
  · intro s code h hcode absent
    have empty : s.dev.carriers code = [] :=
      List.eq_nil_iff_forall_not_mem.2 fun x hx => absent x.1 x.2 (mem_carriers.1 hx).1 (mem_carriers.1 hx).2
    show Host.Outcome.next (s.query (findProduct code)) = _
    rw [query_taken h]
    simp only [findProduct, hcode, if_false, empty, List.isEmpty_nil, if_true]
    rfl

end Sys2Proof.Proofs
end

section
/-! SUPPORT. What the invariants of the drive, the compressor, the tubes, the motor positions and the sale read of the
device's records (a core), and the relation `Keeps`: one record keeps every one of them from another. -/
namespace Sys2Proof.Proofs

open Sys2Proof.Machine Sys2Proof.Laws

-- One proof at a time: together they wait for the kernel in a thread each, and the memory limit is met.
set_option Elab.async false

/-! ### What the invariants read -/

/-- The fields of an active job that the invariants read. -/
def jobCore (j : ActiveJob) : Job × DrivePhase × Option (Fin 64) × DropCheck := (j.job, j.phase, j.companion, j.dropCheck)

/-- The fields of the drive that the invariants read. -/
def driveCore (v : Drive) :=
  (v.energized, v.rows, v.cols, v.jobs, v.active.map jobCore)

/-- The fields of a lane that the invariants read. -/
def laneCore (l : Lane) : Option (Fin 64) × Nat × Nat × Nat := (l.companion, l.reserved, l.stock, l.capacity)

/-- One record keeps every invariant from another, those of the tubes on a condition `P`, those of the compressor on a
condition `Q` and the job list's on a condition `R`. The sale's invariants rest on the drive's one claim. -/
structure KeepsIf (P Q R : Prop) (d e : Device) : Prop where
  list : R → d.drive.listSound → e.drive.listSound
  claims : d.driveClaims → e.driveClaims
  matrix : d.driveClaims → d.drive.matrixSound → e.drive.matrixSound
  rest : Q → d.compressorClaims → d.compressor.restSound → e.compressorClaims ∧ e.compressor.restSound
  tubes : P → d.payout.tubesSound → e.payout.tubesSound
  motors : d.motorsSound → e.motorsSound
  sale : d.driveClaims → d.queue.sound → d.unitsSound → d.lanesSound → e.queue.sound ∧ e.unitsSound ∧ e.lanesSound

/-- One record keeps every invariant from another. -/
abbrev Keeps (d e : Device) : Prop := KeepsIf True True True d e

/-- One record keeps every invariant from another, but that its job list is still to be taken from (R24). -/
abbrev Holds (d e : Device) : Prop := KeepsIf True True False d e

theorem KeepsIf.refl (P Q R : Prop) (d : Device) : KeepsIf P Q R d d :=
  ⟨fun _ => id, id, fun _ => id, fun _ h k => ⟨h, k⟩, fun _ => id, id, fun _ q u l => ⟨q, u, l⟩⟩

theorem KeepsIf.trans {P Q R : Prop} {a b c : Device} (h : KeepsIf P Q R a b) (k : KeepsIf P Q R b c) :
    KeepsIf P Q R a c where
  list hR := k.list hR ∘ h.list hR
  claims := k.claims ∘ h.claims
  matrix hc hm := k.matrix (h.claims hc) (h.matrix hc hm)
  rest hQ hc hr := k.rest hQ (h.rest hQ hc hr).1 (h.rest hQ hc hr).2
  tubes hP := k.tubes hP ∘ h.tubes hP
  motors := k.motors ∘ h.motors
  sale hc q u l := k.sale (h.claims hc) (h.sale hc q u l).1 (h.sale hc q u l).2.1 (h.sale hc q u l).2.2

theorem Keeps.refl (d : Device) : Keeps d d := KeepsIf.refl True True True d

theorem Keeps.trans {a b c : Device} (h : Keeps a b) (k : Keeps b c) : Keeps a c := KeepsIf.trans h k

theorem Holds.refl (d : Device) : Holds d d := KeepsIf.refl True True False d

theorem Holds.trans {a b c : Device} (h : Holds a b) (k : Holds b c) : Holds a c := KeepsIf.trans h k

/-- What is kept is kept on any condition. -/
theorem KeepsIf.when {d e : Device} (h : Keeps d e) (P Q R : Prop) : KeepsIf P Q R d e :=
  { h with list := fun _ => h.list trivial, tubes := fun _ => h.tubes trivial, rest := fun _ => h.rest trivial }

theorem KeepsIf.holds {R : Prop} {d e : Device} (h : KeepsIf True True R d e) : Holds d e :=
  { h with list := fun no => no.elim }

/-- A record whose job list is in order keeps it from any other. -/
theorem KeepsIf.listed {R : Prop} {d e : Device} (h : KeepsIf True True R d e) (list : e.drive.listSound) : Keeps d e :=
  { h with list := fun _ _ => list }

/-- Nothing the invariants read has changed; of the tubes, what is needed of them. -/
structure Quiet (d e : Device) : Prop where
  drive : driveCore e.drive = driveCore d.drive := by rfl
  grants : e.load.grants = d.load.grants := by rfl
  waiters : e.load.waiters = d.load.waiters := by rfl
  state : e.compressor.state = d.compressor.state := by rfl
  elapsed : e.compressor.restElapsed = d.compressor.restElapsed := by rfl
  tubes : d.payout.tubesSound → e.payout.tubesSound := by exact id
  queue : e.queue = d.queue := by rfl
  lanes : ∀ n, (e.lane? n).map laneCore = (d.lane? n).map laneCore := by exact fun _ => rfl

theorem Quiet.refl (d : Device) : Quiet d d := {}

theorem Quiet.trans {a b c : Device} (h : Quiet a b) (k : Quiet b c) : Quiet a c where
  drive := k.drive.trans h.drive
  grants := k.grants.trans h.grants
  waiters := k.waiters.trans h.waiters
  state := k.state.trans h.state
  elapsed := k.elapsed.trans h.elapsed
  tubes := k.tubes ∘ h.tubes
  queue := k.queue.trans h.queue
  lanes n := (k.lanes n).trans (h.lanes n)

/-- A change outside the records the invariants read is quiet. -/
theorem Quiet.of_frame {ps : List Part} {d e : Device} (h : d.changesOnly ps e)
    (hp : ∀ p ∈ [Part.table, .drive, .queue, .payout, .compressor, .load], p ∉ ps) : Quiet d e := by
  have table : e.table = d.table := h .table (hp _ (by simp))
  have drive : e.drive = d.drive := h .drive (hp _ (by simp))
  have queue : e.queue = d.queue := h .queue (hp _ (by simp))
  have payout : e.payout = d.payout := h .payout (hp _ (by simp))
  have compressor : e.compressor = d.compressor := h .compressor (hp _ (by simp))
  have load : e.load = d.load := h .load (hp _ (by simp))
  exact { drive := by rw [drive], grants := by rw [load], waiters := by rw [load], state := by rw [compressor],
          elapsed := by rw [compressor], tubes := by rw [payout]; exact id, queue := queue,
          lanes := fun n => by rw [lane?_of_table table] }

/-! ### The invariants, read from the cores -/

section cores
variable {d e : Device}

/-- An active job of a drive with the same core. -/
theorem active_of_core (h : driveCore e.drive = driveCore d.drive) {j : ActiveJob} (hj : d.drive.active = some j) :
    ∃ k, e.drive.active = some k ∧ k.job = j.job ∧ k.phase = j.phase ∧ k.companion = j.companion ∧
      k.dropCheck = j.dropCheck := by
  have ha : e.drive.active.map jobCore = some (jobCore j) := by
    rw [show e.drive.active.map jobCore = d.drive.active.map jobCore from congrArg (·.2.2.2.2) h, hj]; rfl
  obtain ⟨k, hk, e⟩ := Option.map_eq_some_iff.mp ha
  simp only [jobCore, Prod.mk.injEq] at e
  exact ⟨k, hk, e⟩

/-- The same number of claims waits or is granted, and the list of a claimant is what it was. -/
theorem driveClaims_of_core (hd : driveCore e.drive = driveCore d.drive) (hg : e.load.grants = d.load.grants)
    (hw : e.load.waiters = d.load.waiters) (h : d.driveClaims) : e.driveClaims := by
  obtain ⟨one, waits, holds⟩ := h
  refine ⟨by simpa only [LoadBudget.claimsOf, hg, hw] using one, ?_, ?_⟩
  · intro c hc who
    obtain ⟨j, hj, hp⟩ := waits c (hw ▸ hc) who
    obtain ⟨k, hk, -, kp, -⟩ := active_of_core hd hj
    exact ⟨k, hk, kp.trans hp⟩
  · intro c hc who
    obtain ⟨j, hj, hp⟩ := holds c (hg ▸ hc) who
    obtain ⟨k, hk, kj, kp, -⟩ := active_of_core hd hj
    exact ⟨k, hk, by rw [kj, kp]; exact hp⟩

theorem listSound_of_core (hd : driveCore e.drive = driveCore d.drive) (h : d.drive.listSound) : e.drive.listSound := by
  simp only [driveCore, Prod.mk.injEq] at hd
  obtain ⟨-, -, -, jobs, active⟩ := hd
  intro idle
  rw [idle, Option.map_none] at active
  rw [jobs]
  exact h (Option.map_eq_none_iff.mp active.symm)

theorem matrixSound_of_core (hd : driveCore e.drive = driveCore d.drive) (h : d.drive.matrixSound) :
    e.drive.matrixSound := by
  simp only [driveCore, Prod.mk.injEq] at hd
  obtain ⟨he, hr, hc, -, -⟩ := id hd
  obtain ⟨off, on⟩ := h
  refine ⟨by rw [he, hr, hc]; exact off, ?_⟩
  intro n hn
  obtain ⟨j, hj, jl, jp, jr, jc⟩ := on n (he ▸ hn)
  obtain ⟨k, hk, kj, kp, kc, -⟩ := active_of_core (by simp only [driveCore, Prod.mk.injEq]; exact hd) hj
  exact ⟨k, hk, by rw [kj]; exact jl, by rw [kj, kp]; exact jp, by rw [hr, kc]; exact jr, by rw [hc, kc]; exact jc⟩

theorem compressorClaims_of_core (hs : e.compressor.state = d.compressor.state) (hg : e.load.grants = d.load.grants)
    (hw : e.load.waiters = d.load.waiters) (h : d.compressorClaims) : e.compressorClaims := by
  obtain ⟨one, waits, holds⟩ := h
  exact ⟨by simpa only [LoadBudget.claimsOf, hg, hw] using one, by rw [hw, hs]; exact waits, by rw [hg, hs]; exact holds⟩

/-- A lane with a core, in a record whose lanes have the same cores. -/
theorem lane_of_core (h : ∀ n, (e.lane? n).map laneCore = (d.lane? n).map laneCore) {n : Fin 64} {l : Lane}
    (hl : e.lane? n = some l) :
    ∃ k, d.lane? n = some k ∧ k.companion = l.companion ∧ k.reserved = l.reserved ∧ k.stock = l.stock ∧
      k.capacity = l.capacity := by
  have hm := h n
  rw [hl] at hm
  obtain ⟨k, hk, e⟩ := Option.map_eq_some_iff.mp hm.symm
  simp only [laneCore, Prod.mk.injEq] at e
  exact ⟨k, hk, e⟩

/-- The motor positions rest on which slots are filled and on the companions. -/
theorem motorsSound_of_companions
    (h : ∀ n, (e.lane? n).map (·.companion) = (d.lane? n).map (·.companion)) (hs : d.motorsSound) : e.motorsSound := by
  have back : ∀ {n l}, e.lane? n = some l → ∃ k, d.lane? n = some k ∧ k.companion = l.companion := by
    intro n l hl
    have := h n
    rw [hl] at this
    exact Option.map_eq_some_iff.mp this.symm
  have vacant : ∀ {n}, d.lane? n = none → e.lane? n = none := by
    intro n hn
    have := h n
    rw [hn] at this
    simpa using this
  intro n l c hl hc
  obtain ⟨k, hk, kc⟩ := back hl
  obtain ⟨own, near, free, only⟩ := hs n k c hk (kc.trans hc)
  refine ⟨own, near, vacant free, ?_⟩
  intro m x hm hx
  obtain ⟨y, hy, yc⟩ := back hx
  exact yc ▸ only m y hm hy

theorem motorsSound_of_core (h : ∀ n, (e.lane? n).map laneCore = (d.lane? n).map laneCore) (hs : d.motorsSound) :
    e.motorsSound := by
  refine motorsSound_of_companions (fun n => ?_) hs
  have := congrArg (Option.map (·.1)) (h n)
  simpa [laneCore, Option.map_map, Function.comp_def] using this

theorem lanesSound_of_core (hq : e.queue = d.queue)
    (h : ∀ n, (e.lane? n).map laneCore = (d.lane? n).map laneCore) (hs : d.lanesSound) : e.lanesSound := by
  obtain ⟨fits, owed⟩ := hs
  refine ⟨?_, ?_⟩
  · intro n l hl
    obtain ⟨k, hk, -, kr, ks, kc⟩ := lane_of_core h hl
    have := fits n k hk
    rw [hq, ← kr, ← ks, ← kc]
    exact this
  · intro o ho live
    rw [hq] at ho
    obtain ⟨owes, there⟩ := owed o ho live
    refine ⟨owes, ?_⟩
    have := congrArg Option.isSome (h o.lane)
    simp only [Option.isSome_map] at this
    exact this.trans there

theorem filter_active_core {a b : Option ActiveJob} (h : a.map jobCore = b.map jobCore) :
    (a.filter fun j => !(j.phase = .window && j.dropCheck = .notRequired)).map (·.job) =
      (b.filter fun j => !(j.phase = .window && j.dropCheck = .notRequired)).map (·.job) := by
  cases a <;> cases b <;> simp only [Option.map_none, Option.map_some, reduceCtorEq, Option.some.injEq] at h ⊢
  · rename_i j k
    simp only [jobCore, Prod.mk.injEq] at h
    obtain ⟨hj, hp, -, hc⟩ := h
    simp only [Option.filter_some, hp, hc]
    split <;> simp [hj]

theorem units_of_core (h : driveCore e.drive = driveCore d.drive) : e.drive.units = d.drive.units := by
  simp only [driveCore, Prod.mk.injEq] at h
  simp only [Drive.units, filter_active_core h.2.2.2.2, h.2.2.2.1]

theorem unitsSound_of_core (hd : driveCore e.drive = driveCore d.drive) (hq : e.queue = d.queue) (h : d.unitsSound) :
    e.unitsSound := by
  obtain ⟨one, pulse, units⟩ := h
  refine ⟨by rw [units_of_core hd]; exact one, ?_, ?_⟩
  · intro j hj hp
    obtain ⟨k, hk, kj, kp, -⟩ := active_of_core hd.symm hj
    exact kj ▸ pulse k hk (kp.trans hp)
  · intro job hjob
    rw [units_of_core hd] at hjob
    obtain ⟨o, ho, jo, pos, st⟩ := units job hjob
    refine ⟨o, by rw [hq]; exact ho, jo, by rw [hq]; exact pos, st.imp_right ?_⟩
    rintro ⟨j, hj, jj, jp⟩
    obtain ⟨k, hk, kj, kp, -, kc⟩ := active_of_core hd hj
    exact ⟨k, hk, kj.trans jj, by rw [kp, kc]; exact jp⟩

end cores

/-- A quiet change keeps every invariant. -/
theorem Quiet.keeps {d e : Device} (h : Quiet d e) : Keeps d e where
  list _ := listSound_of_core h.drive
  claims := driveClaims_of_core h.drive h.grants h.waiters
  matrix _ := matrixSound_of_core h.drive
  rest _ hc hr := ⟨compressorClaims_of_core h.state h.grants h.waiters hc, by
    simp only [Compressor.restSound, h.state, h.elapsed]; exact hr⟩
  tubes _ := h.tubes
  motors := motorsSound_of_core h.lanes
  sale _ q u l := ⟨h.queue ▸ q, unitsSound_of_core h.drive h.queue u, lanesSound_of_core h.queue h.lanes l⟩

end Sys2Proof.Proofs
end

section
/-! SUPPORT. Claims, grants, give-backs and withdrawals keep every invariant. -/
namespace Sys2Proof.Proofs

open Sys2Proof.Machine Sys2Proof.Laws

-- One proof at a time: together they wait for the kernel in a thread each, and the memory limit is met.
set_option Elab.async false

/-! ### Claims that come and go -/

/-- The claims of a claimant in one budget are among those in another, each where it was. -/
structure ClaimsSub (who : Claimant) (b' b : LoadBudget) : Prop where
  count : b'.claimsOf who ≤ b.claimsOf who
  waiters : ∀ c ∈ b'.waiters, c.who = who → c ∈ b.waiters
  grants : ∀ c ∈ b'.grants, c.who = who → c ∈ b.grants

/-- Fewer drive claims, and a drive with the same core, keep the drive's one claim. -/
theorem driveClaims_of_sub {d e : Device} (hd : driveCore e.drive = driveCore d.drive)
    (hs : ClaimsSub .drive e.load d.load) (h : d.driveClaims) : e.driveClaims := by
  obtain ⟨one, waits, holds⟩ := h
  refine ⟨hs.count.trans one, ?_, ?_⟩
  · intro c hc who
    obtain ⟨j, hj, hp⟩ := waits c (hs.waiters c hc who) who
    obtain ⟨k, hk, -, kp, -⟩ := active_of_core hd hj
    exact ⟨k, hk, kp.trans hp⟩
  · intro c hc who
    obtain ⟨j, hj, hp⟩ := holds c (hs.grants c hc who) who
    obtain ⟨k, hk, kj, kp, -⟩ := active_of_core hd hj
    exact ⟨k, hk, by rw [kj, kp]; exact hp⟩

theorem compressorClaims_of_sub {d e : Device} (hc : e.compressor.state = d.compressor.state)
    (hs : ClaimsSub .compressor e.load d.load) (h : d.compressorClaims) : e.compressorClaims := by
  obtain ⟨one, waits, holds⟩ := h
  exact ⟨hs.count.trans one, fun c m who => hc ▸ waits c (hs.waiters c m who) who,
    fun c m who => hc ▸ holds c (hs.grants c m who) who⟩

/-- A change of the budget's lists that adds no claim of the drive or the compressor keeps every invariant. -/
theorem keeps_of_load {d : Device} {b : LoadBudget} (hd : ClaimsSub .drive b d.load)
    (hc : ClaimsSub .compressor b d.load) : Keeps d { d with load := b } where
  list _ := id
  claims := driveClaims_of_sub rfl hd
  matrix _ := id
  rest _ h r := ⟨compressorClaims_of_sub (d := d) rfl hc h, r⟩
  tubes _ := id
  motors := id
  sale _ q u l := ⟨q, u, l⟩

/-- Entries that leave the grant set. -/
theorem claimsSub_grants (who : Claimant) (b : LoadBudget) (f : Claim → Bool) :
    ClaimsSub who { b with grants := b.grants.filter f } b where
  count := (List.filter_sublist.append (List.Sublist.refl _)).filter _ |>.length_le
  waiters _ hc _ := hc
  grants _ hc _ := (List.mem_filter.mp hc).1

/-- Entries that leave the waiters. -/
theorem claimsSub_waiters (who : Claimant) (b : LoadBudget) (f : Claim → Bool) :
    ClaimsSub who { b with waiters := b.waiters.filter f } b where
  count := ((List.Sublist.refl _).append List.filter_sublist).filter _ |>.length_le
  waiters _ hc _ := (List.mem_filter.mp hc).1
  grants _ hc _ := hc

/-- A claim of another claimant joins the waiters. -/
theorem claimsSub_join {who : Claimant} (b : LoadBudget) {c : Claim} (h : c.who ≠ who) :
    ClaimsSub who { b with waiters := b.waiters ++ [c] } b where
  count := by simp [LoadBudget.claimsOf, ← List.append_assoc, List.filter_append, h]
  waiters x hx hw := by
    rcases List.mem_append.mp hx with hx | hx
    · exact hx
    · rw [List.mem_singleton.mp hx] at hw; exact absurd hw h
  grants _ hx _ := hx

/-- The head of another claimant goes from the waiters to the grant set. -/
theorem claimsSub_grantHead {who : Claimant} {b : LoadBudget} {c : Claim} {rest : List Claim}
    (hw : b.waiters = c :: rest) (h : c.who ≠ who) : ClaimsSub who (b.grantHead c rest) b where
  count := by simp [LoadBudget.claimsOf, LoadBudget.grantHead, hw]
  waiters x hx _ := by rw [hw]; exact List.mem_cons_of_mem _ hx
  grants x hx hw := by
    rcases List.mem_append.mp hx with hx | hx
    · exact hx
    · rw [List.mem_singleton.mp hx] at hw; exact absurd hw h

/-- A claimant with one claim at most, which waits at the head, has no other. -/
theorem head_is_only {who : Claimant} {b : LoadBudget} {c : Claim} {rest : List Claim} (hw : b.waiters = c :: rest)
    (hc : c.who = who) (one : b.claimsOf who ≤ 1) : (∀ x ∈ b.grants, x.who ≠ who) ∧ ∀ x ∈ rest, x.who ≠ who := by
  have len : (b.grants.filter (·.who = who)).length + ((rest.filter (·.who = who)).length + 1) ≤ 1 := by
    simpa [LoadBudget.claimsOf, hw, List.filter_append, List.filter_cons, hc] using one
  have none_of : ∀ xs : List Claim, (xs.filter (·.who = who)).length = 0 → ∀ x ∈ xs, x.who ≠ who := by
    intro xs h x hx e
    have := List.filter_eq_nil_iff.mp (List.length_eq_zero_iff.mp h) x hx
    exact this (by simpa using e)
  exact ⟨none_of _ (by omega), none_of _ (by omega)⟩

/-- A claimant with one claim at most, which is granted, has no other that waits. -/
theorem granted_is_only {who : Claimant} {b : LoadBudget} {c : Claim} (hm : c ∈ b.grants) (hc : c.who = who)
    (one : b.claimsOf who ≤ 1) : ∀ x ∈ b.waiters, x.who ≠ who := by
  intro x hx e
  have h1 : 0 < (b.grants.filter (·.who = who)).length := List.length_pos_of_mem (List.mem_filter.mpr ⟨hm, by simpa using hc⟩)
  have h2 : 0 < (b.waiters.filter (·.who = who)).length := List.length_pos_of_mem (List.mem_filter.mpr ⟨hx, by simpa using e⟩)
  simp only [LoadBudget.claimsOf, List.filter_append, List.length_append] at one
  omega

/-! ### Grants -/

/-- What the drive's grant makes of its active job: energized, a unit drive TURNING and a fit check in PULSE. -/
theorem driveGranted_some {d : Device} {j : ActiveJob} (h : d.drive.active = some j) :
    ∃ k, d.driveGranted.drive.active = some k ∧ k.job = j.job ∧ k.companion = j.companion ∧ k.dropCheck = j.dropCheck ∧
      ((k.phase = .turning ∧ j.job.tag?.isSome = true) ∨ (k.phase = .pulse ∧ j.job.tag? = none)) ∧
      d.driveGranted.drive.energized = some j.job.lane ∧ d.driveGranted.drive.rows = rowsFor j.job.lane j.companion ∧
      d.driveGranted.drive.cols = colsFor j.job.lane j.companion ∧ d.driveGranted.drive.jobs = d.drive.jobs := by
  cases hj : j.job with
  | fitCheck n =>
    simp only [Device.driveGranted, h, hj, Device.updateJob, Device.energize]
    exact ⟨_, rfl, hj, rfl, rfl, Or.inr ⟨rfl, rfl⟩, rfl, rfl, rfl, trivial⟩
  | unitDrive n tag =>
    simp only [Device.driveGranted, h, hj, Device.updateJob, Device.energize]
    exact ⟨_, rfl, hj, rfl, rfl, Or.inl ⟨rfl, rfl⟩, rfl, rfl, rfl, trivial⟩

theorem driveGranted_none {d : Device} (h : d.drive.active = none) : d.driveGranted = d := by
  simp only [Device.driveGranted, h]

/-- A tube record rests on the tubes, on the engine's idleness and, while it is idle, on the closed window. -/
theorem tubesSound_of {p q : Payout} (ht : q.tubes = p.tubes)
    (hi : q.idle = true → p.idle = true ∧ (p.windowOpen = false → q.windowOpen = false)) (h : p.tubesSound) :
    q.tubesSound := by
  obtain ⟨bounds, bound, closed⟩ := h
  refine ⟨?_, by rw [ht]; exact bound, fun hq => (hi hq).2 (closed (hi hq).1)⟩
  intro t
  obtain ⟨h1, h2, h3⟩ := bounds t
  rw [ht]
  exact ⟨h1, h2, fun hq => h3 (hi hq).1⟩

theorem tryPulse_tubes (d : Device) (h : d.payout.tubesSound) : d.tryPulse.payout.tubesSound := by
  unfold Device.tryPulse
  split
  · exact h
  next plan hp =>
  split
  next hc =>
    split
    · exact h
    · refine tubesSound_of (p := d.payout) rfl (fun hq => ?_) h
      simp only [Bool.and_eq_true, decide_eq_true_eq] at hc
      simp [Payout.idle, Payout.pulse, hp, hc.1.1.1] at hq
  · exact h

@[simp] theorem eject_ended (p : Plan) : (p.eject.state = .ended) = (p.state = .ended) := by
  unfold Plan.eject
  split <;> simp_all

theorem payoutGranted_tubes (d : Device) (h : d.payout.tubesSound) : d.payoutGranted.payout.tubesSound := by
  refine tryPulse_tubes _ (tubesSound_of (p := d.payout) rfl (fun hq => ⟨?_, id⟩) h)
  unfold Payout.idle at hq ⊢
  cases hp : d.payout.plan <;> simp_all [Device.updatePlan]

theorem onGrant_tubes (who : Claimant) (d : Device) (h : d.payout.tubesSound) : (d.onGrant who).payout.tubesSound := by
  by_cases hw : who = .payout
  · subst hw; exact payoutGranted_tubes d h
  · rw [onGrant_payout hw]; exact h

theorem onGrant_compressorState (d : Device) : (d.onGrant .compressor).compressor.state = .starting ∧
    (d.onGrant .compressor).compressor.restElapsed = d.compressor.restElapsed := ⟨rfl, rfl⟩

section grant
variable {d : Device} {c : Claim} {rest : List Claim}

/-- The waiters' head granted: the state a round of the grant test goes to. -/
def granted (d : Device) (c : Claim) (rest : List Claim) : Device :=
  Device.onGrant c.who { d with load := d.load.grantHead c rest }

theorem granted_load : (granted d c rest).load = d.load.grantHead c rest := onGrant_frame c.who _ .load (by simp)
theorem granted_queue : (granted d c rest).queue = d.queue := onGrant_frame c.who _ .queue (by simp)
theorem granted_table : (granted d c rest).table = d.table := onGrant_frame c.who _ .table (by simp)

theorem granted_claims (hw : d.load.waiters = c :: rest) (h : d.driveClaims) : (granted d c rest).driveClaims := by
  by_cases hc : c.who = .drive
  · obtain ⟨one, waits, -⟩ := h
    obtain ⟨noGrant, noWaiter⟩ := head_is_only hw hc one
    obtain ⟨j, hj, -⟩ := waits c (by simp [hw]) hc
    obtain ⟨k, hk, kj, -, -, kp, -⟩ := driveGranted_some (d := { d with load := d.load.grantHead c rest }) hj
    have active : (granted d c rest).drive.active = some k := by simp only [granted, hc]; exact hk
    refine ⟨?_, ?_, ?_⟩
    · rw [granted_load]; simpa [LoadBudget.claimsOf, LoadBudget.grantHead, hw] using one
    · rw [granted_load]; exact fun x hx e => absurd e (noWaiter x hx)
    · intro x _ _
      exact ⟨k, active, by rw [kj]; exact kp⟩
  · refine driveClaims_of_sub ?_ (granted_load ▸ claimsSub_grantHead hw hc) h
    rw [granted, onGrant_drive hc]

theorem granted_list (h : d.drive.listSound) : (granted d c rest).drive.listSound := by
  by_cases hc : c.who = .drive
  · simp only [granted, hc, Device.onGrant]
    cases hj : d.drive.active with
    | none => rw [driveGranted_none (by exact hj)]; exact h
    | some j =>
      obtain ⟨k, hk, -⟩ := driveGranted_some (d := { d with load := d.load.grantHead c rest }) hj
      exact fun idle => absurd (hk.symm.trans idle) (by simp)
  · rw [granted, onGrant_drive hc]; exact h

theorem granted_matrix (h : d.drive.matrixSound) : (granted d c rest).drive.matrixSound := by
  by_cases hc : c.who = .drive
  · simp only [granted, hc, Device.onGrant]
    cases hj : d.drive.active with
    | none => rw [driveGranted_none (by exact hj)]; exact h
    | some j =>
      obtain ⟨k, hk, kj, kc, -, kp, he, hr, hcol, -⟩ :=
        driveGranted_some (d := { d with load := d.load.grantHead c rest }) hj
      refine ⟨fun e => absurd (he.symm.trans e) (by simp), ?_⟩
      intro n hn
      obtain rfl : j.job.lane = n := Option.some.inj (he.symm.trans hn)
      exact ⟨k, hk, by rw [kj], by rw [kj]; exact kp, by rw [kc]; exact hr, by rw [kc]; exact hcol⟩
  · rw [granted, onGrant_drive hc]; exact h

theorem granted_rest (hw : d.load.waiters = c :: rest) (h : d.compressorClaims) (hr : d.compressor.restSound) :
    (granted d c rest).compressorClaims ∧ (granted d c rest).compressor.restSound := by
  by_cases hc : c.who = .compressor
  · obtain ⟨one, waits, -⟩ := h
    obtain ⟨-, noWaiter⟩ := head_is_only hw hc one
    have waiting := waits c (by simp [hw]) hc
    obtain ⟨hs, he⟩ := onGrant_compressorState { d with load := d.load.grantHead c rest }
    have st : (granted d c rest).compressor.state = .starting := by simp only [granted, hc]; exact hs
    refine ⟨⟨?_, ?_, fun _ _ _ => st⟩, ?_⟩
    · rw [granted_load]; simpa [LoadBudget.claimsOf, LoadBudget.grantHead, hw] using one
    · rw [granted_load]; exact fun x hx e => absurd e (noWaiter x hx)
    · intro _ _
      simp only [granted, hc]
      exact he.trans (hr (by simp [waiting]) (by simp [waiting]))
  · refine ⟨compressorClaims_of_sub ?_ (granted_load ▸ claimsSub_grantHead hw hc) h, ?_⟩
    · rw [granted, onGrant_compressor hc]
    · rw [granted, onGrant_compressor hc]; exact hr

theorem granted_units (hw : d.load.waiters = c :: rest) (hcl : d.driveClaims) (h : d.unitsSound) :
    (granted d c rest).unitsSound := by
  by_cases hc : c.who = .drive
  · obtain ⟨j, hj, wait⟩ := hcl.2.1 c (by simp [hw]) hc
    obtain ⟨k, hk, kj, -, -, kp, -, -, -, jobs⟩ :=
      driveGranted_some (d := { d with load := d.load.grantHead c rest }) hj
    have active : (granted d c rest).drive.active = some k := by simp only [granted, hc]; exact hk
    have list : (granted d c rest).drive.jobs = d.drive.jobs := by simp only [granted, hc]; exact jobs
    have units : (granted d c rest).drive.units = d.drive.units := by
      simp only [Drive.units, active, list, hj, Option.filter_some, wait]
      rcases kp with ⟨kp, -⟩ | ⟨kp, -⟩ <;> simp [kp, kj]
    obtain ⟨one, -, each⟩ := h
    refine ⟨by rw [units]; exact one, ?_, ?_⟩
    · intro k' hk' pulse
      obtain rfl : k = k' := Option.some.inj (active.symm.trans hk')
      rcases kp with ⟨kp, -⟩ | ⟨-, kt⟩
      · simp [kp] at pulse
      · rw [kj]; exact kt
    · intro job hjob
      rw [units] at hjob
      obtain ⟨o, ho, jo, pos, st⟩ := each job hjob
      rw [granted_queue]
      refine ⟨o, ho, jo, pos, Or.inl (st.resolve_right ?_)⟩
      rintro ⟨j', hj', -, ph⟩
      obtain rfl : j = j' := Option.some.inj (hj.symm.trans hj')
      simp [wait] at ph
  · refine unitsSound_of_core ?_ granted_queue h
    rw [granted, onGrant_drive hc]

/-- A grant keeps every invariant. -/
theorem granted_keeps (hw : d.load.waiters = c :: rest) : Keeps d (granted d c rest) where
  list _ := granted_list
  claims := granted_claims hw
  matrix _ := granted_matrix
  rest _ := granted_rest hw
  tubes _ h := onGrant_tubes c.who _ h
  motors := motorsSound_of_core fun n => by rw [lane?_of_table granted_table]
  sale hc q u l := ⟨by rw [granted_queue]; exact q, granted_units hw hc u,
    lanesSound_of_core granted_queue (fun n => by rw [lane?_of_table granted_table]) l⟩

end grant

/-- What a relation must satisfy to hold of a grant test: every grant to the head of the waiters. -/
theorem grantLoop_induct {R : Device → Device → Prop} (refl : ∀ d, R d d) (trans : ∀ {a b c}, R a b → R b c → R a c)
    (grant : ∀ {d c rest}, d.load.waiters = c :: rest → d.load.band = .normal → c.units ≤ d.load.free →
      R d (granted d c rest)) (fuel : Nat) : ∀ d, R d (d.grantLoop fuel) := by
  induction fuel with
  | zero => exact refl
  | succ fuel ih =>
    intro d
    simp only [Device.grantLoop]
    split
    next c rest hb hw =>
      split
      next fits => exact trans (grant hw hb fits) (ih _)
      · exact refl d
    · exact refl d

theorem grantTest_keeps (d : Device) : Keeps d d.grantTest :=
  grantLoop_induct Keeps.refl Keeps.trans (fun hw _ _ => granted_keeps hw) _ d

/-- A claim of the payout engine or a heater keeps every invariant. -/
theorem claim_keeps {c : Claim} (hd : c.who ≠ .drive) (hc : c.who ≠ .compressor) (d : Device) : Keeps d (d.claim c) :=
  (keeps_of_load (claimsSub_join d.load hd) (claimsSub_join d.load hc)).trans (grantTest_keeps _)

theorem giveBack_keeps (who : Claimant) (d : Device) : Keeps d (d.giveBack who) := by
  unfold Device.giveBack
  split
  · exact (keeps_of_load (claimsSub_grants _ d.load _) (claimsSub_grants _ d.load _)).trans (grantTest_keeps _)
  · exact Keeps.refl d

theorem withdraw_keeps (who : Claimant) (d : Device) : Keeps d (d.withdraw who) := by
  have left : Keeps d { d with load := { d.load with waiters := d.load.waiters.filter (·.who ≠ who) } } :=
    keeps_of_load (claimsSub_waiters _ d.load _) (claimsSub_waiters _ d.load _)
  simp only [Device.withdraw]
  split
  · exact left.trans (grantTest_keeps _)
  · exact left

theorem dropLoad_keeps (who : Claimant) (d : Device) : Keeps d (d.dropLoad who) := by
  unfold Device.dropLoad
  split
  · exact giveBack_keeps who d
  · exact withdraw_keeps who d

end Sys2Proof.Proofs
end

section
/-! SUPPORT. The requests that write a lane's record: a fit check that joins a list in order, and what ENROL LANE,
AMEND LANE, RESTOCK LANE and CHECK LANE make of the lane table. -/
namespace Sys2Proof.Proofs

open Sys2Proof.Machine Sys2Proof.Laws

-- One proof at a time: together they wait for the kernel in a thread each, and the memory limit is met.
set_option Elab.async false

/-! ### A fit check joins the list -/

/-- The list is empty behind lane n's fit check, which waits for load or pulses. -/
def Checking (n : Fin 64) (d : Device) : Prop :=
  d.drive.jobs = [] ∧ ∃ j, d.drive.active = some j ∧ j.job = .fitCheck n ∧ (j.phase = .waitLoad ∨ j.phase = .pulse)

theorem granted_checking {n : Fin 64} {d : Device} {c : Claim} {rest : List Claim} (h : Checking n d) :
    Checking n (granted d c rest) := by
  obtain ⟨jobs, j, hj, job, phase⟩ := h
  by_cases hc : c.who = .drive
  · obtain ⟨k, hk, kj, -, -, kp, -, -, -, kjobs⟩ :=
      driveGranted_some (d := { d with load := d.load.grantHead c rest }) hj
    simp only [granted, hc, Device.onGrant]
    refine ⟨kjobs.trans jobs, k, hk, kj.trans job, Or.inr ?_⟩
    rcases kp with ⟨-, unit⟩ | ⟨pulse, -⟩
    · simp [job, Job.tag?] at unit
    · exact pulse
  · have same : (granted d c rest).drive = d.drive := onGrant_drive hc _
    exact ⟨by rw [same]; exact jobs, j, by rw [same]; exact hj, job, phase⟩

theorem claim_checking {n : Fin 64} {d : Device} (c : Claim) (h : Checking n d) : Checking n (d.claim c) :=
  grantLoop_induct (R := fun d e => Checking n d → Checking n e) (fun _ => id) (fun f g => g ∘ f)
    (fun _ _ _ => granted_checking) _ _ h

theorem activate_frame (job : Job) (l : Lane) (units : Nat) (d : Device) :
    d.changesOnly grantParts (d.activate job l units) := by
  refine changesOnly_trans ?_ (claim_frame _ _)
  intro p hp
  cases p <;> first | rfl | simp [grantParts] at hp

/-- A fit check of a CHECKING lane that becomes the active job. -/
theorem activate_fitCheck (n : Fin 64) (l : Lane) {d : Device} (jobs : d.drive.jobs = []) :
    Checking n (d.activate (.fitCheck n) l 1) ∧
    driveClaim 1 (.fitCheck n) ∈ (d.activate (.fitCheck n) l 1).load.grants ++
      (d.activate (.fitCheck n) l 1).load.waiters := by
  refine ⟨claim_checking _ ⟨jobs, newJob (.fitCheck n) l, rfl, rfl, Or.inl rfl⟩, ?_⟩
  rw [Device.activate, claim_entries]
  simp

theorem takeLoop_active {d : Device} {j : ActiveJob} (ha : d.drive.active = some j) (q : OrderQueue) (asked : Bool) :
    ∀ fuel, d.takeLoop q fuel asked = d
  | 0 => rfl
  | _ + 1 => by simp only [Device.takeLoop, ha]

/-- A job joins behind an active one. -/
theorem joinJobs_active {d : Device} {j : ActiveJob} (ha : d.drive.active = some j) (job : Job) :
    d.joinJobs job = { d with drive := { d.drive with jobs := d.drive.jobs ++ [job] } } :=
  takeLoop_active (d := { d with drive := { d.drive with jobs := d.drive.jobs ++ [job] } }) ha _ _ _

/-- A round of the taking of jobs that makes its job active is the last. -/
theorem takeLoop_takes {d e : Device} {job : Job} {rest : List Job} {j : ActiveJob} (ha : d.drive.active = none)
    (hj : d.drive.jobs = job :: rest) (taken : Device.takeJob job { d with drive := { d.drive with jobs := rest } } = e)
    (active : e.drive.active = some j) (q : OrderQueue) (fuel : Nat) (asked : Bool) :
    d.takeLoop q (fuel + 1) asked = e := by
  rw [Device.takeLoop]
  split
  · next job' rest' _ hj' =>
    obtain ⟨rfl, rfl⟩ := List.cons.inj (hj.symm.trans hj')
    simp only [taken, active, Option.isSome_some, if_true, takeLoop_active active]
  · next h => exact absurd hj (h job rest ha)

/-- A fit check of a CHECKING lane joins an idle drive: it is taken at once, with nothing left to take. -/
theorem joinJobs_idle {d : Device} {n : Fin 64} {l : Lane} (ha : d.drive.active = none) (hj : d.drive.jobs = [])
    (hl : d.lane? n = some l) (hb : l.base = .checking) : d.joinJobs (.fitCheck n) = d.activate (.fitCheck n) l 1 := by
  have emptied : ({ d with drive := { d.drive with jobs := [] } } : Device) = d := by rw [← hj]
  obtain ⟨⟨-, k, hk, -⟩, -⟩ := activate_fitCheck n l hj
  have taken : d.takeJob (.fitCheck n) = d.activate (.fitCheck n) l 1 := by simp only [Device.takeJob, hl, hb, if_true]
  refine takeLoop_takes (d := { d with drive := { d.drive with jobs := d.drive.jobs ++ [.fitCheck n] } }) (rest := [])
    ha (by rw [hj]; rfl) ?_ hk _ _ _
  exact (congrArg (Device.takeJob _) emptied).trans taken

/-- A fit check joins a list in order, when its lane is CHECKING. -/
theorem joinJobs_joins {d : Device} {n : Fin 64} {l : Lane} (list : d.drive.listSound) (hl : d.lane? n = some l)
    (hb : l.base = .checking) :
    d.fitCheckJoins n (d.joinJobs (.fitCheck n)) ∧ d.changesOnly grantParts (d.joinJobs (.fitCheck n)) := by
  cases ha : d.drive.active with
  | none =>
    obtain ⟨⟨jobs, active⟩, claim⟩ := activate_fitCheck n l (list ha)
    rw [joinJobs_idle ha (list ha) hl hb]
    exact ⟨⟨by simp [ha], fun _ => ⟨jobs, active, claim⟩⟩, activate_frame _ _ _ d⟩
  | some j =>
    rw [joinJobs_active ha]
    refine ⟨⟨fun _ _ => ⟨rfl, rfl⟩, by simp [ha]⟩, ?_⟩
    intro p hp
    cases p <;> first | rfl | simp [grantParts] at hp

/-- Only the drive and the load budget before matter to a fit check's joining. -/
theorem fitCheckJoins_of {d d' e : Device} {n : Fin 64} (hd : d'.drive = d.drive) (hl : d'.load = d.load)
    (h : d'.fitCheckJoins n e) : d.fitCheckJoins n e := by
  rw [Device.fitCheckJoins, hd, hl] at h
  exact h

/-- A frame that leaves the lane table. -/
theorem table_of_grantParts {d e : Device} (h : d.changesOnly grantParts e) : e.table = d.table :=
  h .table (by simp [grantParts])

/-! ### ENROL LANE -/

theorem positionHeld_eq_false {d : Device} {n p : Fin 64}
    (h : ∀ m l, m ≠ n → d.lane? m = some l → m ≠ p ∧ l.companion ≠ some p) : d.positionHeld n p = false := by
  rw [Device.positionHeld, List.any_eq_false]
  intro m _ held
  simp only [Bool.and_eq_true, decide_eq_true_eq, Option.any_eq_true, Bool.or_eq_true] at held
  obtain ⟨other, l, hl, own | companion⟩ := held
  · exact (h m l other hl).1 own
  · exact (h m l other hl).2 companion

theorem position_eq_some {c : Option Nat} {p : Fin 64} : position c = some p ↔ c = some p.val := by
  cases c <;> simp [position, index_eq_some]

/-- The settings R9 admits are in range. -/
theorem enrol_inRange {g : LaneSettings} {n : Fin 64} {zone : Fin 2} {k : LaneClass} {c : DropCheck}
    (product : 1 ≤ g.product ∧ g.product ≤ 65535) (price : g.price ≤ 65535)
    (capacity : 1 ≤ g.capacity ∧ g.capacity ≤ 99) (stock : g.stock ≤ g.capacity) (hz : g.zone = zone.val)
    (hk : laneClassOf g.laneClass = some k) (hc : dropCheckOf g.dropCheck = some c)
    (companion : ∀ p, g.companion = some p → p < 64 ∧ p ≠ n.val ∧ (p / 8 = n.val / 8 ∨ p % 8 = n.val % 8))
    (turns : 1 ≤ g.turns ∧ g.turns ≤ 3) (extra : g.extraTurns ≤ 2) : LaneSettings.inRange g n = true := by
  have fits : companionOk n g.companion = true := by
    rw [companionOk, Option.all_eq_true]
    intro p hp
    simpa [companionFits, and_assoc] using companion p hp
  have zoned : g.zone ≤ 1 := by omega
  simp [LaneSettings.inRange, within, coded, product, price, capacity, stock, zoned, hk, hc, fits, turns, extra]

/-- Settles O19: the record is written into the vacant slot, and the fit check of the lane, CHECKING now, joins. -/
theorem enrolLaneFillsTheSlot : Obligations.EnrolLaneFillsTheSlot := by
  intro s n g zone k c h list vacant p1 p2 price c1 c2 stock hz hk hc companion t1 t2 extra motors stamp z
  have inRange : LaneSettings.inRange g n = true :=
    enrol_inRange ⟨p1, p2⟩ price ⟨c1, c2⟩ stock hz hk hc companion ⟨t1, t2⟩ extra
  have free : s.dev.motorTaken n (position g.companion) = false := by
    rw [Device.motorTaken, Bool.or_eq_false_iff, Option.any_eq_false]
    refine ⟨positionHeld_eq_false fun m l hm hl => ⟨hm, (motors m l hm hl).1⟩, fun p hp => ?_⟩
    have named := position_eq_some.1 hp
    refine positionHeld_eq_false fun m l hm hl => ⟨?_, (motors m l hm hl).2.2 p named⟩
    rintro rfl
    exact (motors m l hm hl).2.1 named
  have hzone : Fin.ofNat 2 g.zone = zone := by
    rw [hz]
    exact Fin.ext (Nat.mod_eq_of_lt zone.isLt)
  let record := LaneSettings.record g stamp zone k (z.holds k) z.exposure
  let d := s.dev.giveStamp.setSlot n (some record)
  have lane : d.lane? n = some record := by rw [lane?_setSlot, if_pos rfl]
  obtain ⟨joins, frame⟩ := joinJobs_joins (d := d) list lane rfl
  have filled : enrol n g s.dev = d.joinJobs (.fitCheck n) := by simp only [enrol, hzone, hk]; rfl
  have table := table_of_grantParts frame
  refine ⟨(s.withDev (d.joinJobs (.fitCheck n))).replied .ok (u16 stamp.toNat), ?_, rfl,
    congrArg LaneTable.stampCounter table, (congrArg LaneTable.changed table :), ?_, fun m hm => ?_, joins, ?_⟩
  · show Host.Outcome.next (s.request (enrolLane n.val g)) = _
    rw [request_taken h]
    simp only [enrolLane, index_val, inRange, vacant, free, Bool.not_true, Bool.false_eq_true, if_false,
      Option.isSome_none, filled]
    rfl
  · show (d.joinJobs (.fitCheck n)).lane? n = _
    rw [lane?_of_table table, lane]
    simp only [record, LaneSettings.record, hc, Option.getD_some]
  · show (d.joinJobs (.fitCheck n)).lane? m = _
    rw [lane?_of_table table, lane?_setSlot, if_neg hm]
    rfl
  · refine changesOnly_trans (b := d) ?_ (changesOnly_mono frame fun p hp => List.mem_cons_of_mem _ hp)
    intro p hp
    cases p <;> first | rfl | simp at hp

/-! ### RESTOCK LANE and CHECK LANE -/

theorem currentOn_eq_false {q : OrderQueue} {n : Fin 64}
    (h : ∀ o ∈ q.orders, o.lane = n → o.state.current = false) : q.currentOn n = false := by
  rw [OrderQueue.currentOn, List.any_eq_false]
  intro o ho busy
  rw [Bool.and_eq_true, decide_eq_true_eq] at busy
  exact Bool.false_ne_true ((h o ho busy.2).symm.trans busy.1)

/-- A lane that is not CHECKING and has no current order is not busy. -/
theorem laneBusy_eq_false {d : Device} {n : Fin 64} {l : Lane} (hb : l.base ≠ .checking)
    (h : ∀ o ∈ d.queue.orders, o.lane = n → o.state.current = false) : laneBusy n l d = false := by
  simp only [laneBusy, hb, decide_false, Bool.false_or]
  exact currentOn_eq_false h

/-- Settles O21: a restock is one write of the record, and a check one write of its base state before the fit check
joins. -/
theorem restockAndCheckLane : Obligations.RestockAndCheckLane := by
  constructor
  · intro s n l stock h hl most capacity reserved stamp
    show Host.Outcome.next (s.request (restockLane n.val stock)) = _
    have inRange : (decide (64 ≤ n.val) || decide (99 < stock)) = false := by
      simp only [Bool.or_eq_false_iff, decide_eq_false_iff_not]
      omega
    have fits : (decide (l.capacity < stock) || decide (stock < l.reserved)) = false := by
      simp only [Bool.or_eq_false_iff, decide_eq_false_iff_not]
      omega
    have lane : s.dev.giveStamp.lane? n = some l := hl
    rw [request_taken h]
    simp only [restockLane, inRange, Bool.false_eq_true, if_false, onLane_enrolled hl, fits, updateLane_some lane]
    rfl
  · intro s n l h list hl hb idle
    let checked := s.dev.updateLane n fun l => { l with base := .checking }
    have written : checked = s.dev.setSlot n (some { l with base := .checking }) := updateLane_some hl _
    have lane : checked.lane? n = some { l with base := .checking } := by rw [written, lane?_setSlot, if_pos rfl]
    obtain ⟨joins, frame⟩ := joinJobs_joins (d := checked) (by rw [written]; exact list) lane rfl
    refine ⟨(s.withDev (checked.joinJobs (.fitCheck n))).replied .accepted [], ?_, rfl, ?_, ?_, ?_⟩
    · show Host.Outcome.next (s.request (checkLane n.val)) = _
      rw [request_taken h]
      simp only [checkLane, onLane_enrolled hl, laneBusy_eq_false hb idle, Bool.false_eq_true, if_false]
      rfl
    · exact (table_of_grantParts frame).trans (by rw [written]; rfl)
    · exact fitCheckJoins_of (by rw [written]; rfl) (by rw [written]; rfl) joins
    · refine changesOnly_trans (b := checked) ?_ (changesOnly_mono frame fun p hp => List.mem_cons_of_mem _ hp)
      rw [written]
      intro p hp
      cases p <;> first | rfl | simp at hp

end Sys2Proof.Proofs
end

section
/-! SUPPORT. AMEND LANE: the record written, the hold decision of a new zone or class, and the fit check a new
companion asks for. -/
namespace Sys2Proof.Proofs

open Sys2Proof.Machine Sys2Proof.Laws

-- One proof at a time: together they wait for the kernel in a thread each, and the memory limit is met.
set_option Elab.async false

/-- What a change of lane n's record by the device may change besides that record: lane n's place in the changed-lanes
set, and the conditions. -/
structure LaneOnly (n : Fin 64) (d e : Device) : Prop where
  frame : d.changesOnly [.table, .conditions] e
  stamp : e.table.stampCounter = d.table.stampCounter
  others : ∀ m, m ≠ n → e.lane? m = d.lane? m ∧ e.table.changed[m] = d.table.changed[m]

theorem LaneOnly.refl (n : Fin 64) (d : Device) : LaneOnly n d d :=
  ⟨changesOnly_refl _ d, rfl, fun _ _ => ⟨rfl, rfl⟩⟩

theorem LaneOnly.trans {n : Fin 64} {a b c : Device} (h : LaneOnly n a b) (k : LaneOnly n b c) : LaneOnly n a c :=
  ⟨changesOnly_trans h.frame k.frame, k.stamp.trans h.stamp, fun m hm =>
    ⟨(k.others m hm).1.trans (h.others m hm).1, (k.others m hm).2.trans (h.others m hm).2⟩⟩

theorem setSlot_laneOnly (n : Fin 64) (l : Option Lane) (d : Device) : LaneOnly n d (d.setSlot n l) where
  frame p hp := by cases p <;> first | rfl | simp at hp
  stamp := rfl
  others m hm := ⟨by rw [lane?_setSlot, if_neg hm], rfl⟩

theorem joinChanged_laneOnly (n : Fin 64) (d : Device) : LaneOnly n d (d.joinChanged n) where
  frame p hp := by
    rw [joinChanged_eq]
    cases p <;> first | rfl | simp at hp
  stamp := by rw [joinChanged_eq]
  others m hm := ⟨lane?_joinChanged n m d, by rw [changed_joinChanged, decide_eq_false hm, Bool.false_or]⟩

/-- What a hold decision makes of an enrolled lane: the decision written, and the lane in the changed-lanes set when it
differs. -/
theorem decideHold_spec {n : Fin 64} {d : Device} {l : Lane} (hl : d.lane? n = some l) (v : Bool) :
    LaneOnly n d (d.decideHold n v) ∧ (d.decideHold n v).lane? n = some { l with held := v } ∧
      (l.held ≠ v → (d.decideHold n v).table.changed[n] = true) ∧
      (l.held = v → (d.decideHold n v).table.changed = d.table.changed) := by
  by_cases hv : l.held = v
  · have same : d.decideHold n v = d := by simp [Device.decideHold, hl, hv]
    rw [same, hl]
    subst hv
    exact ⟨LaneOnly.refl n d, rfl, fun h => absurd rfl h, fun _ => rfl⟩
  · have written : d.decideHold n v = (d.setSlot n (some { l with held := v })).joinChanged n := by
      simp [Device.decideHold, Device.changeLane, hl, hv]
    rw [written]
    exact ⟨(setSlot_laneOnly n _ d).trans (joinChanged_laneOnly n _), by simp,
      fun _ => by rw [changed_joinChanged, decide_eq_true rfl, Bool.true_or], fun h => absurd h hv⟩

/-- The record after AMEND LANE, its new zone's hold decision with it. -/
def amendedLane (a : LaneAmend) (l : Lane) (z : Zone) : Lane :=
  { LaneAmend.applied a z.exposure l with
    held := if LaneAmend.rezones a l then z.holds (LaneAmend.classAfter a l) else l.held }

/-- AMEND LANE's writes, before the fit check joins. -/
def amendWrites (a : LaneAmend) (n : Fin 64) (l : Lane) (d : Device) : Device :=
  let z := d.zones[LaneAmend.zoneAfter a l]
  let e := d.updateLane n (LaneAmend.applied a z.exposure)
  if LaneAmend.rezones a l then e.decideHold n (z.holds (LaneAmend.classAfter a l)) else e

theorem amendEnrolled_eq (a : LaneAmend) (n : Fin 64) (l : Lane) (d : Device) :
    amendEnrolled a n l d =
      if LaneAmend.moves a l then (amendWrites a n l d).joinJobs (.fitCheck n) else amendWrites a n l d := rfl

theorem amendWrites_spec {a : LaneAmend} {n : Fin 64} {l : Lane} {d : Device} (hl : d.lane? n = some l) :
    let l' := amendedLane a l d.zones[LaneAmend.zoneAfter a l]
    LaneOnly n d (amendWrites a n l d) ∧ (amendWrites a n l d).lane? n = some l' ∧
      (l'.held ≠ l.held → (amendWrites a n l d).table.changed[n] = true) ∧
      (l'.held = l.held → (amendWrites a n l d).table.changed = d.table.changed) := by
  intro l'
  have slot : LaneOnly n d (d.setSlot n (some (LaneAmend.applied a d.zones[LaneAmend.zoneAfter a l].exposure l))) :=
    setSlot_laneOnly n _ d
  have lane : (d.setSlot n (some (LaneAmend.applied a d.zones[LaneAmend.zoneAfter a l].exposure l))).lane? n =
      some (LaneAmend.applied a d.zones[LaneAmend.zoneAfter a l].exposure l) := by rw [lane?_setSlot, if_pos rfl]
  simp only [amendWrites, updateLane_some hl, l', amendedLane]
  split
  · obtain ⟨only, held, differs, agrees⟩ :=
      decideHold_spec lane (d.zones[LaneAmend.zoneAfter a l].holds (LaneAmend.classAfter a l))
    exact ⟨slot.trans only, held, fun h => differs (Ne.symm h), fun h => agrees h.symm⟩
  · exact ⟨slot, lane, fun h => absurd rfl h, fun _ => rfl⟩

theorem moves_iff {a : LaneAmend} {l : Lane} : LaneAmend.moves a l = true ↔ LaneAmend.companionAfter a l ≠ l.companion :=
  bne_iff_ne

theorem rezones_iff {a : LaneAmend} {l : Lane} :
    LaneAmend.rezones a l = true ↔ LaneAmend.zoneAfter a l ≠ l.zone ∨ LaneAmend.classAfter a l ≠ l.laneClass := by
  simp [LaneAmend.rezones]

/-- The amended record of a lane that keeps its companion. -/
theorem amendedLane_still {a : LaneAmend} {l : Lane} (z : Zone) (h : LaneAmend.moves a l = false) :
    (amendedLane a l z).base = (if a.base.isSome then .offline else l.base) ∧
      (amendedLane a l z).offHome = l.offHome ∧ (amendedLane a l z).lastTurn = l.lastTurn := by
  refine ⟨?_, by simp [amendedLane, LaneAmend.applied, h], by simp [amendedLane, LaneAmend.applied, h]⟩
  by_cases off : l.base = .offline <;> simp [amendedLane, LaneAmend.applied, LaneAmend.offlines, h, off]

/-- The amended record of a lane with a new companion. -/
theorem amendedLane_moved {a : LaneAmend} {l : Lane} (z : Zone) (h : LaneAmend.moves a l = true) :
    (amendedLane a l z).base = .checking ∧ (amendedLane a l z).offHome = false ∧
      (amendedLane a l z).lastTurn = none := by
  simp [amendedLane, LaneAmend.applied, h]

theorem amendLane_taken {s : State} {n : Fin 64} {l : Lane} {a : LaneAmend} (h : s.taking)
    (hl : s.dev.lane? n = some l) (range : LaneAmend.inRange a n l = true) (taken : LaneAmend.refusal a n l s.dev = none) :
    exec (.amendLane n.val a) s = .next ((s.withDev (amendEnrolled a n l s.dev)).replied .ok []) := by
  show Host.Outcome.next (s.request (amendLane n.val a)) = _
  rw [request_taken h]
  simp only [amendLane, onLane_enrolled hl, range, taken, Bool.not_true, Bool.false_eq_true, if_false]
  rfl

/-- What AMEND LANE leaves of the device: its writes, and with a new companion the fit check that joins. -/
theorem amendEnrolled_spec {a : LaneAmend} {n : Fin 64} {l : Lane} {d : Device} (list : d.drive.listSound)
    (hl : d.lane? n = some l) :
    (amendEnrolled a n l d).table = (amendWrites a n l d).table ∧
      (LaneAmend.moves a l = true → d.fitCheckJoins n (amendEnrolled a n l d)) ∧
      (LaneAmend.moves a l = false →
        (amendEnrolled a n l d).drive = d.drive ∧ (amendEnrolled a n l d).load = d.load) ∧
      d.changesOnly (.table :: .conditions :: grantParts) (amendEnrolled a n l d) := by
  obtain ⟨only, lane, -⟩ := amendWrites_spec (a := a) hl
  have writes : d.changesOnly (.table :: .conditions :: grantParts) (amendWrites a n l d) :=
    changesOnly_mono only.frame fun p hp => by
      rcases List.mem_cons.1 hp with rfl | hp
      · exact List.mem_cons_self
      · rw [List.mem_singleton.1 hp]
        exact List.mem_cons_of_mem _ List.mem_cons_self
  have drive : (amendWrites a n l d).drive = d.drive := only.frame .drive (by simp)
  have load : (amendWrites a n l d).load = d.load := only.frame .load (by simp)
  rw [amendEnrolled_eq]
  cases moves : LaneAmend.moves a l with
  | false => exact ⟨rfl, fun h => absurd h (by simp), fun _ => ⟨drive, load⟩, writes⟩
  | true =>
    obtain ⟨joins, frame⟩ := joinJobs_joins (by rw [drive]; exact list) lane (amendedLane_moved _ moves).1
    rw [if_pos rfl]
    exact ⟨table_of_grantParts frame, fun _ => fitCheckJoins_of drive load joins, fun h => absurd h (by simp),
      changesOnly_trans writes
        (changesOnly_mono frame fun p hp => List.mem_cons_of_mem _ (List.mem_cons_of_mem _ hp))⟩

/-- Settles O20: the record written is `amendedLane`, and the rest is what the writes and the joining leave. -/
theorem amendLaneWritesTheNamedFields : Obligations.AmendLaneWritesTheNamedFields := by
  intro s n l a h list hl range taken zone k comp rezoned z
  obtain ⟨only, lane, differs, agrees⟩ := amendWrites_spec (a := a) hl
  obtain ⟨table, joins, still, frame⟩ := amendEnrolled_spec (a := a) (n := n) list hl
  refine ⟨_, amendedLane a l z, amendLane_taken h hl range taken, rfl, (lane?_of_table table n).trans lane, rfl,
    fun moved => ?_, fun same => ?_, fun moved => ?_, fun same => ?_, fun hd => ?_, fun he => ?_, fun m hm => ?_, ?_, frame⟩
  · have moves := moves_iff.2 moved
    obtain ⟨base, home, turn⟩ := amendedLane_moved z moves
    exact ⟨base, home, turn, joins moves⟩
  · have stays : LaneAmend.moves a l = false := Bool.eq_false_iff.2 fun moves => moves_iff.1 moves same
    obtain ⟨base, home, turn⟩ := amendedLane_still z stays
    exact ⟨base, home, turn, still stays⟩
  · have rezones := rezones_iff.2 moved
    exact ⟨if_pos rezones, if_pos rezones⟩
  · have stays : ¬ LaneAmend.rezones a l = true := fun rezones => same (rezones_iff.1 rezones)
    exact ⟨if_neg stays, if_neg stays⟩
  · show (amendEnrolled a n l s.dev).table.changed[n] = true
    rw [table]
    exact differs hd
  · exact (congrArg LaneTable.changed table).trans (agrees he)
  · refine ⟨(lane?_of_table table m).trans (only.others m hm).1, ?_⟩
    show (amendEnrolled a n l s.dev).table.changed[m] = _
    rw [table]
    exact (only.others m hm).2
  · exact (congrArg LaneTable.stampCounter table).trans only.stamp

end Sys2Proof.Proofs
end

section
/-! SUPPORT. Change plans and the payout engine: a plan never asks a tube for more than its free coins, and every
operation of the credit record and the payout engine keeps every invariant. -/
namespace Sys2Proof.Proofs

open Sys2Proof.Machine Sys2Proof.Laws

-- One proof at a time: together they wait for the kernel in a thread each, and the memory limit is met.
set_option Elab.async false

/-! ### The coins a plan takes from a tube -/

/-- The coins of a plan's lines from one tube. -/
def coinsFor (lines : List (Fin 6 × Nat)) (t : Fin 6) : Nat := (lines.map fun l => if l.1 = t then l.2 else 0).sum

@[simp] theorem coinsFor_nil (t : Fin 6) : coinsFor [] t = 0 := rfl

@[simp] theorem coinsFor_cons (l : Fin 6 × Nat) (lines : List (Fin 6 × Nat)) (t : Fin 6) :
    coinsFor (l :: lines) t = (if l.1 = t then l.2 else 0) + coinsFor lines t := rfl

/-- R79: the lines take no more from a tube than its coins not yet planned. -/
def planFits (d : Device) (lines : List (Fin 6 × Nat)) : Prop :=
  ∀ t : Fin 6, coinsFor lines t ≤ d.payout.tubes[t].count - d.payout.tubes[t].planned

/-- What a calculation keeps: each tube has one line, and no line takes more than the tube's free coins. -/
def calculates (d : Device) (lines : List (Fin 6 × Nat)) : Prop := (lines.map (·.1)).Nodup ∧ planFits d lines

theorem coinsFor_take (lines : List (Fin 6 × Nat)) (t : Fin 6) (k : Nat) : coinsFor (lines.take k) t ≤ coinsFor lines t := by
  induction lines generalizing k with
  | nil => simp
  | cons l rest ih =>
    cases k with
    | zero => simp
    | succ k => simpa using ih k

theorem coinsFor_absent {lines : List (Fin 6 × Nat)} {t : Fin 6} (h : t ∉ lines.map (·.1)) : coinsFor lines t = 0 := by
  induction lines with
  | nil => rfl
  | cons l rest ih =>
    simp only [List.map_cons, List.mem_cons, not_or] at h
    simp [Ne.symm h.1, ih h.2]

theorem givenFrom_eq {lines : List (Fin 6 × Nat)} (h : (lines.map (·.1)).Nodup) (t : Fin 6) :
    givenFrom lines t = coinsFor lines t := by
  induction lines with
  | nil => rfl
  | cons l rest ih =>
    simp only [List.map_cons, List.nodup_cons] at h
    by_cases e : l.1 = t
    · have absent : coinsFor rest t = 0 := coinsFor_absent (e ▸ h.1)
      simp [givenFrom, e, absent]
    · simpa [givenFrom, List.find?_cons, e] using ih h.2

theorem coinsFor_raise (t u : Fin 6) (n : Nat) {lines : List (Fin 6 × Nat)} (h : (lines.map (·.1)).Nodup)
    (ht : t ∈ lines.map (·.1)) :
    coinsFor (lines.map fun l => if l.1 = t then (t, l.2 + n) else l) u = coinsFor lines u + if t = u then n else 0 := by
  induction lines with
  | nil => simp at ht
  | cons l rest ih =>
    simp only [List.map_cons, List.nodup_cons] at h
    simp only [List.map_cons, coinsFor_cons]
    by_cases e : l.1 = t
    · have same : (rest.map fun l => if l.1 = t then (t, l.2 + n) else l) = rest := by
        refine (List.map_congr_left fun x hx => ?_).trans (List.map_id rest)
        rw [if_neg fun ex : x.1 = t => h.1 (e ▸ ex ▸ List.mem_map_of_mem hx)]
        rfl
      rw [same]
      subst e
      by_cases hu : l.1 = u <;> simp [hu]; omega
    · have ht' : t ∈ rest.map (·.1) := by
        rcases List.mem_cons.mp ht with rfl | h'
        · exact absurd rfl e
        · exact h'
      rw [ih h.2 ht']
      simp [e]; omega

theorem coinsFor_append (xs ys : List (Fin 6 × Nat)) (t : Fin 6) : coinsFor (xs ++ ys) t = coinsFor xs t + coinsFor ys t := by
  simp [coinsFor]

/-- R79: coins given from a tube are counted for it alone. -/
theorem coinsFor_giveFrom {lines : List (Fin 6 × Nat)} (h : (lines.map (·.1)).Nodup) (t u : Fin 6) (n : Nat) :
    coinsFor (giveFrom lines t n) u = coinsFor lines u + if t = u then n else 0 := by
  unfold giveFrom
  split
  · simp_all
  split
  next ht =>
    refine coinsFor_raise t u n h ?_
    simpa [List.any_eq_true] using ht
  · rw [coinsFor_append]; simp

theorem nodup_giveFrom {lines : List (Fin 6 × Nat)} (h : (lines.map (·.1)).Nodup) (t : Fin 6) (n : Nat) :
    ((giveFrom lines t n).map (·.1)).Nodup := by
  unfold giveFrom
  split
  · exact h
  split
  · have : (lines.map fun l => if l.1 = t then (t, l.2 + n) else l).map (·.1) = lines.map (·.1) := by
      rw [List.map_map]
      refine List.map_congr_left fun l _ => ?_
      simp only [Function.comp]
      split <;> simp_all
    rw [this]; exact h
  next ht =>
    simp only [List.map_append, List.map_cons, List.map_nil]
    refine List.nodup_append.mpr ⟨h, by simp, ?_⟩
    intro a ha b hb e
    obtain rfl := List.mem_singleton.mp hb
    subst e
    apply ht
    simpa [List.any_eq_true] using ha

theorem calculates_giveFrom {d : Device} {lines : List (Fin 6 × Nat)} (h : calculates d lines) {t : Fin 6} {n : Nat}
    (hn : n ≤ d.coinsFree lines t) : calculates d (giveFrom lines t n) := by
  refine ⟨nodup_giveFrom h.1 t n, fun u => ?_⟩
  have hu := h.2 u
  rw [coinsFor_giveFrom h.1]
  split
  next e =>
    subst e
    simp only [Device.coinsFree, givenFrom_eq h.1] at hn
    split at hn <;> omega
  · simpa using hu

theorem calculates_likeStep {d : Device} {acc : List (Fin 6 × Nat) × Nat} (h : calculates d acc.1) (c : Fin 8) :
    calculates d (d.likeStep acc c).1 := by
  simp only [Device.likeStep]
  split
  · exact h
  · split
    next hc =>
      simp only [Bool.and_eq_true, decide_eq_true_eq] at hc
      exact calculates_giveFrom h hc.1
    · exact h

theorem calculates_greedyStep {d : Device} {acc : List (Fin 6 × Nat) × Nat} (h : calculates d acc.1) (t : Fin 6) :
    calculates d (d.greedyStep acc t).1 := calculates_giveFrom h (Nat.min_le_left _ _)

theorem foldl_keeps {α β : Type} {P : β → Prop} {f : β → α → β} (step : ∀ b a, P b → P (f b a)) (xs : List α) :
    ∀ b, P b → P (xs.foldl f b) := by
  induction xs with
  | nil => exact fun _ h => h
  | cons x rest ih => exact fun b h => ih _ (step b x h)

/-- R79: a change plan takes no more from a tube than its free coins. -/
theorem changePlan_fits (d : Device) (like : Bool) (amount : Nat) : planFits d (d.changePlan like amount).1 := by
  have start : calculates d ([] : List (Fin 6 × Nat)) := ⟨by simp, fun t => by simp⟩
  have likes : ∀ acc : List (Fin 6 × Nat) × Nat, calculates d acc.1 → calculates d (d.likePass acc).1 := fun acc h =>
    foldl_keeps (P := fun a => calculates d a.1) (fun _ c h => calculates_likeStep h c) _ acc h
  have greedy : ∀ acc : List (Fin 6 × Nat) × Nat, calculates d acc.1 → calculates d (d.greedyPass acc).1 := fun acc h =>
    foldl_keeps (P := fun a => calculates d a.1) (fun _ t h => calculates_greedyStep h t) _ acc h
  unfold Device.changePlan
  split
  · exact (greedy _ (likes _ start)).2
  · exact (greedy _ start).2

theorem planFits_take {d : Device} {lines : List (Fin 6 × Nat)} (h : planFits d lines) (k : Nat) :
    planFits d (lines.take k) := fun t => (coinsFor_take lines t k).trans (h t)

/-! ### Planned coins -/

theorem raisePlanned_eq (lines : List (Fin 6 × Nat)) : ∀ d : Device,
    d.raisePlanned lines = { d with payout := { d.payout with tubes := (d.raisePlanned lines).payout.tubes } } := by
  induction lines with
  | nil => intro d; rfl
  | cons l rest ih =>
    intro d
    have := ih (d.updateTube l.1 fun t => { t with planned := t.planned + l.2 })
    exact this

/-- R115, R119: each tube's planned count rises by its coins in the lines. -/
theorem raisePlanned_tube (lines : List (Fin 6 × Nat)) (t : Fin 6) : ∀ d : Device,
    (d.raisePlanned lines).payout.tubes[t] =
      { d.payout.tubes[t] with planned := d.payout.tubes[t].planned + coinsFor lines t } := by
  induction lines with
  | nil => intro d; rfl
  | cons l rest ih =>
    intro d
    refine (ih (d.updateTube l.1 fun t => { t with planned := t.planned + l.2 })).trans ?_
    simp only [Device.updateTube, get_put, coinsFor_cons]
    by_cases e : t = l.1
    · subst e; simp [Nat.add_assoc]
    · simp [e, Ne.symm e]

/-- Planned counts that rise within the tubes' coins, while the engine is not idle or by nothing. -/
theorem raisePlanned_tubes {d : Device} {lines : List (Fin 6 × Nat)} (fits : planFits d lines)
    (busy : d.payout.idle = true → lines = []) (h : d.payout.tubesSound) : (d.raisePlanned lines).payout.tubesSound := by
  obtain ⟨bounds, bound, closed⟩ := h
  have idle : (d.raisePlanned lines).payout.idle = d.payout.idle := by rw [raisePlanned_eq]; rfl
  have window : (d.raisePlanned lines).payout.windowOpen = d.payout.windowOpen := by rw [raisePlanned_eq]; rfl
  refine ⟨fun t => ?_, fun t u c ht hu => ?_, by rw [idle, window]; exact closed⟩
  · obtain ⟨h1, h2, h3⟩ := bounds t
    have := fits t
    rw [raisePlanned_tube, idle]
    refine ⟨by simp only; omega, h2, fun hi => ?_⟩
    rw [busy hi]
    exact h3 hi
  · rw [raisePlanned_tube] at ht hu
    exact bound t u c ht hu

end Sys2Proof.Proofs
end

section
/-! SUPPORT. The credit record, the coin link and the payout engine keep every invariant. -/
namespace Sys2Proof.Proofs

open Sys2Proof.Machine Sys2Proof.Laws

-- One proof at a time: together they wait for the kernel in a thread each, and the memory limit is met.
set_option Elab.async false

/-! ### Money -/

theorem recomputeMask_quiet (d : Device) : Quiet d d.recomputeMask := {}

theorem recomputeIf_quiet (b : Bool) (d : Device) : Quiet d (d.recomputeIf b) := by
  cases b
  · exact Quiet.refl d
  · exact recomputeMask_quiet d

theorem raise_quiet (c : Condition) (d : Device) : Quiet d (d.raise c) := {}

theorem setBalance_quiet (n : Nat) (d : Device) : Quiet d (d.setBalance n) := by
  unfold Device.setBalance
  split
  · exact Quiet.refl d
  · exact {}

theorem markRefund_quiet (k : RefundPending) (d : Device) : Quiet d (d.markRefund k) := by
  unfold Device.markRefund
  split
  · exact Quiet.refl d
  · exact {}

/-! ### Making a plan -/

/-- R115: the records with the new plan and its planned coins, the plan's claim not yet made. -/
def planned (kind : PlanKind) (req : Requested) (lines : List (Fin 6 × Nat)) (d : Device) : Device :=
  (d.setPlan (newPlan kind req lines)).raisePlanned lines

theorem planned_eq (kind : PlanKind) (req : Requested) (lines : List (Fin 6 × Nat)) (d : Device) :
    planned kind req lines d = { d with payout := (planned kind req lines d).payout } := by
  simp only [planned]; rw [raisePlanned_eq]; rfl

theorem planned_tubes {d : Device} {lines : List (Fin 6 × Nat)} (kind : PlanKind) (req : Requested)
    (idle : d.payout.idle = true) (fits : planFits d lines) (h : d.payout.tubesSound) :
    (planned kind req lines d).payout.tubesSound := by
  refine raisePlanned_tubes fits (fun hi => ?_) (tubesSound_of (p := d.payout) rfl (fun _ => ⟨idle, fun _ => rfl⟩) h)
  cases lines with
  | nil => rfl
  | cons l rest => simp [Payout.idle, Device.setPlan, newPlan] at hi

theorem planned_quiet {d : Device} {lines : List (Fin 6 × Nat)} (kind : PlanKind) (req : Requested)
    (idle : d.payout.idle = true) (fits : planFits d lines) : Quiet d (planned kind req lines d) := by
  have h := planned_tubes kind req idle fits
  rw [planned_eq] at h ⊢
  exact { tubes := h }

theorem makePlan_keeps {d : Device} {lines : List (Fin 6 × Nat)} (kind : PlanKind) (req : Requested)
    (idle : d.payout.idle = true) (fits : planFits d lines) : Keeps d (d.makePlan kind req lines) := by
  refine (planned_quiet kind req idle fits).keeps.trans ?_
  simp only [Device.makePlan]
  split
  · exact (raise_quiet _ _).keeps
  · exact (claim_keeps (by simp [payoutClaim]) (by simp [payoutClaim]) _).trans (recomputeMask_quiet _).keeps

theorem payBack_keeps (kind : PlanKind) (amount : Nat) {d : Device} (idle : d.payout.idle = true) :
    Keeps d (d.payBack kind amount) := makePlan_keeps _ _ idle (changePlan_fits d _ amount)

theorem markRefund_payout (k : RefundPending) (d : Device) : (d.markRefund k).payout = d.payout := by
  unfold Device.markRefund; split <;> rfl

theorem moneyStill_idle {d : Device} (h : d.moneyStill = true) : d.payout.idle = true := by
  simp only [Device.moneyStill, Bool.and_eq_true] at h
  exact h.1

theorem servePayback_keeps (d : Device) : Keeps d d.servePayback := by
  unfold Device.servePayback
  split
  · exact Keeps.refl d
  split
  next still =>
    refine (markRefund_quiet .no d).keeps.trans ?_
    dsimp only
    split
    · exact Keeps.refl _
    · exact payBack_keeps _ _ (by rw [markRefund_payout]; exact moneyStill_idle still)
  · exact Keeps.refl d

theorem askPayback_keeps (k : RefundPending) (d : Device) : Keeps d (d.askPayback k) :=
  (markRefund_quiet _ d).keeps.trans (servePayback_keeps _)

/-! ### Tubes -/

/-- A change of one tube that keeps its bounds, its class and an idle tube's planned count at 0. -/
theorem updateTube_tubes {d : Device} {t : Fin 6} {f : Tube → Tube} (h : d.payout.tubesSound)
    (class_ : ∀ c, (f d.payout.tubes[t]).boundClass = some c → d.payout.tubes[t].boundClass = some c ∨
      ∀ u : Fin 6, u ≠ t → d.payout.tubes[u].boundClass ≠ some c)
    (bounds : d.payout.tubes[t].planned ≤ d.payout.tubes[t].count → d.payout.tubes[t].count ≤ d.payout.tubes[t].capacity →
      (d.payout.idle = true → d.payout.tubes[t].planned = 0) →
      (f d.payout.tubes[t]).planned ≤ (f d.payout.tubes[t]).count ∧
        (f d.payout.tubes[t]).count ≤ (f d.payout.tubes[t]).capacity ∧
        (d.payout.idle = true → (f d.payout.tubes[t]).planned = 0)) :
    (d.updateTube t f).payout.tubesSound := by
  obtain ⟨hb, hc, hw⟩ := h
  refine ⟨fun u => ?_, fun u v c hu hv => ?_, hw⟩
  · show _ ∧ _ ∧ (d.payout.idle = true → _)
    simp only [updateTube_payout, get_put]
    split
    next e => subst e; obtain ⟨h1, h2, h3⟩ := hb u; exact bounds h1 h2 h3
    · exact hb u
  · simp only [updateTube_payout, get_put] at hu hv
    split at hu <;> split at hv
    · simp_all
    next eu ev =>
      subst eu
      rcases class_ c hu with h | h
      · exact hc u v c h hv
      · exact absurd hv (h v ev)
    next eu ev =>
      subst ev
      rcases class_ c hv with h | h
      · exact hc u v c hu h
      · exact absurd hu (h u eu)
    · exact hc u v c hu hv

/-- A change of the payout records alone, which keeps the tubes. -/
theorem quiet_of_payout {d : Device} {p : Payout} (h : d.payout.tubesSound → p.tubesSound) :
    Quiet d { d with payout := p } := { tubes := h }

theorem updateTube_quiet {d : Device} {t : Fin 6} {f : Tube → Tube}
    (h : d.payout.tubesSound → (d.updateTube t f).payout.tubesSound) : Quiet d (d.updateTube t f) := { tubes := h }

theorem coinIn_quiet (t : Fin 6) (d : Device) : Quiet d (d.coinIn t) := by
  unfold Device.coinIn
  split
  · exact (updateTube_quiet fun h => updateTube_tubes h (fun c hc => Or.inl hc) fun h1 h2 h3 => ⟨h1, h2, h3⟩).trans
      (raise_quiet _ _)
  next full =>
    refine updateTube_quiet fun h => updateTube_tubes h (fun c hc => Or.inl hc) fun h1 h2 h3 => ?_
    simp only [Tube.full, decide_eq_true_eq] at full
    exact ⟨Nat.le_succ_of_le h1, by simp only; omega, h3⟩

theorem coinOut_quiet (t : Fin 6) (d : Device) : Quiet d (d.coinOut t) := by
  have out : Quiet d (d.updateTube t Tube.coinOut) := by
    refine updateTube_quiet fun h => updateTube_tubes h (fun c hc => Or.inl hc) fun h1 h2 h3 => ?_
    simp only [Tube.coinOut]
    exact ⟨Nat.min_le_right _ _, by omega, fun hi => by have := h3 hi; omega⟩
  simp only [Device.coinOut]
  split
  · exact out.trans (raise_quiet _ _)
  · exact out

/-! ### The plan and its windows -/

/-- A change of the plan that keeps whether it has ended. -/
theorem updatePlan_quiet {f : Plan → Plan} (h : ∀ p, ((f p).state = .ended) = (p.state = .ended)) (d : Device) :
    Quiet d (d.updatePlan f) := by
  refine quiet_of_payout fun hs => tubesSound_of (p := d.payout) rfl (fun hq => ⟨?_, id⟩) hs
  unfold Payout.idle at hq ⊢
  cases hp : d.payout.plan <;> simp_all

/-- The pending coin replaced by none, or by one whose window is closed. -/
theorem setCoin_quiet {c : Option PendingCoin} (h : c.any (·.windowOpen) = false) (d : Device) : Quiet d (d.setCoin c) :=
  quiet_of_payout fun hs => tubesSound_of (p := d.payout) rfl (fun hq => ⟨hq, fun _ => h⟩) hs

theorem tryPulse_quiet (d : Device) : Quiet d d.tryPulse := by
  have frame := tryPulse_frame d
  have eq : d.tryPulse = { d with payout := d.tryPulse.payout } := by
    unfold Device.tryPulse
    split
    · rfl
    split
    · split <;> rfl
    · rfl
  rw [eq]
  exact quiet_of_payout (tryPulse_tubes d)

/-- A change of the payout records alone keeps the tubes' invariant on the condition that the new records meet it. -/
theorem keepsIf_of_payout {P : Prop} {d : Device} {p : Payout} (h : P → d.payout.tubesSound → p.tubesSound) :
    KeepsIf P True True d { d with payout := p } :=
  ⟨fun _ => id, id, fun _ => id, fun _ h k => ⟨h, k⟩, h, id, fun _ q u l => ⟨q, u, l⟩⟩

/-- R119: the plan with lines appended. -/
def withLines (lines : List (Fin 6 × Nat)) (p : Plan) : Plan := { p with lines := p.lines ++ lines.map openLine }

theorem updatePlan_idle {f : Plan → Plan} (h : ∀ p, ((f p).state = .ended) = (p.state = .ended)) (d : Device) :
    (d.updatePlan f).payout.idle = d.payout.idle := by
  unfold Payout.idle
  rw [updatePlan_payout]
  cases d.payout.plan <;> simp [h]

theorem replan_payout (d : Device) : d.replan = { d with payout := d.replan.payout } := by
  simp only [Device.replan]
  split
  · rfl
  split
  · rfl
  · rw [raisePlanned_eq]; rfl

theorem replan_idle (d : Device) : d.replan.payout.idle = d.payout.idle := by
  simp only [Device.replan]
  split
  · rfl
  split
  · rfl
  next p _ _ =>
    rw [raisePlanned_eq]
    exact updatePlan_idle (f := withLines _) (fun _ => rfl) d

theorem replan_coin (d : Device) : d.replan.payout.coin = d.payout.coin := by
  simp only [Device.replan]
  split
  · rfl
  split
  · rfl
  · rw [raisePlanned_eq]; rfl

/-- R119: a running plan's remainder is replanned within the tubes' free coins. -/
theorem replan_tubes {d : Device} (busy : d.payout.idle = false) (h : d.payout.tubesSound) :
    d.replan.payout.tubesSound := by
  simp only [Device.replan]
  split
  · exact h
  split
  · exact h
  next p _ _ =>
    refine raisePlanned_tubes (d := d.updatePlan (withLines ((d.changePlan false (d.unpaid p)).1.take
      (Config.maxPlanLines - p.lines.length)))) (planFits_take (changePlan_fits d false (d.unpaid p)) _)
      (fun hi => ?_) ((updatePlan_quiet (f := withLines _) (fun _ => rfl) d).tubes h)
    rw [updatePlan_idle (f := withLines _) (fun _ => rfl) d, busy] at hi
    exact absurd hi (by simp)

theorem replan_keepsIf {P : Prop} {d : Device} (busy : P → d.payout.idle = false) : KeepsIf P True True d d.replan := by
  rw [replan_payout]
  exact keepsIf_of_payout fun hP => replan_tubes (busy hP)

/-- R119: the end of a plan leaves nothing planned; its last window has closed. -/
theorem closePlan_tubes {d : Device} (closed : d.payout.windowOpen = false) (h : d.payout.tubesSound) :
    d.closePlan.payout.tubesSound := by
  obtain ⟨bounds, bound, -⟩ := h
  refine ⟨fun t => ?_, fun t u c ht hu => ?_, fun _ => closed⟩
  · obtain ⟨-, h2, -⟩ := bounds t
    simp only [Device.closePlan, get_mapAll]
    exact ⟨Nat.zero_le _, h2, fun _ => trivial⟩
  · simp only [Device.closePlan, get_mapAll] at ht hu
    exact bound t u c ht hu

theorem endPlan_keepsIf {P : Prop} {d : Device} (closed : P → d.payout.windowOpen = false) : KeepsIf P True True d d.endPlan := by
  have close : KeepsIf P True True d d.closePlan := keepsIf_of_payout (p := d.closePlan.payout) fun hP => closePlan_tubes (closed hP)
  refine close.trans (KeepsIf.when ?_ P True True)
  exact (((dropLoad_keeps _ _).trans (raise_quiet _ _).keeps).trans (recomputeMask_quiet _).keeps).trans
    (servePayback_keeps _)

/-- R116, R119: what follows a window that has closed, while the plan runs. -/
theorem afterWindow_keepsIf {P : Prop} {d : Device} (busy : P → d.payout.idle = false)
    (closed : d.payout.windowOpen = false) : KeepsIf P True True d d.afterWindow := by
  simp only [Device.afterWindow]
  split
  · exact (tryPulse_quiet d).keeps.when P True True
  split
  · exact (replan_keepsIf busy).trans ((tryPulse_quiet _).keeps.when P True True)
  · refine (replan_keepsIf busy).trans (endPlan_keepsIf fun _ => ?_)
    rw [Payout.windowOpen, replan_coin]
    exact closed

/-- R118: the OPEN lines of a jammed tube. -/
def jamLines (t : Fin 6) (p : Plan) : Plan :=
  { p with lines := p.lines.map fun l => if l.tube = t && l.state = .opened then { l with state := .jammed } else l }

theorem jamTube_quiet (t : Fin 6) (d : Device) : Quiet d (d.jamTube t) := by
  have jam : Quiet d (d.updateTube t fun r => { r with state := .jammed, lastFault := some .jam, planned := 0 }) :=
    updateTube_quiet fun h => updateTube_tubes h (fun c hc => Or.inl hc) fun h1 h2 _ => ⟨Nat.zero_le _, h2, fun _ => rfl⟩
  refine ((jam.trans (updatePlan_quiet (f := jamLines t) (fun _ => rfl) _)).trans (raise_quiet .tubeFault _)).trans ?_
  exact recomputeMask_quiet _

theorem jamTube_idle (t : Fin 6) (d : Device) : (d.jamTube t).payout.idle = d.payout.idle := by
  unfold Payout.idle Device.jamTube
  cases h : d.payout.plan <;> simp [Device.recomputeMask, Device.updatePlan, Device.updateTube, h]

/-- R116 to R120: the close of an open chute window. -/
theorem closeWindow_keeps {d : Device} {c : PendingCoin} (hc : d.payout.coin = some c) (hopen : c.windowOpen = true) :
    Keeps d (d.closeWindow c) := by
  have busy : d.payout.tubesSound → d.payout.idle = false := by
    rintro ⟨-, -, closed⟩
    by_contra hi
    have := closed (by simpa using hi)
    simp [Payout.windowOpen, hc, hopen] at this
  have main : KeepsIf d.payout.tubesSound True True d (d.closeWindow c) := by
    unfold Device.closeWindow
    split
    · exact ((setCoin_quiet rfl d).keeps.when _ True True).trans (afterWindow_keepsIf (d := d.setCoin none) busy rfl)
    split
    · exact ((setCoin_quiet rfl d).keeps.when _ True True).trans (afterWindow_keepsIf (d := d.setCoin (some _)) busy rfl)
    split
    · exact ((setCoin_quiet rfl d).keeps.when _ True True).trans (afterWindow_keepsIf (d := d.setCoin (some _)) busy rfl)
    · have jam := ((setCoin_quiet (c := none) rfl d).trans (jamTube_quiet c.tube _)).keeps.when d.payout.tubesSound True True
      have stillBusy : d.payout.tubesSound → ((d.setCoin none).jamTube c.tube).payout.idle = false := fun h => by
        rw [jamTube_idle]; exact busy h
      refine (jam.trans (replan_keepsIf stillBusy)).trans (afterWindow_keepsIf (fun h => ?_) ?_)
      · rw [replan_idle]; exact stillBusy h
      · rw [Payout.windowOpen, replan_coin]; rfl
  exact { main with tubes := fun _ h => main.tubes h h }

/-! ### Coins counted, revocation, the engine's events -/

/-- R117: what of a paid coin the balance did not cover. -/
def overpay (k : Nat) (p : Plan) : Plan := { p with overpaid := satAdd 65535 p.overpaid k }

theorem debitCoin_quiet (v : Nat) (d : Device) : Quiet d (d.debitCoin v) := by
  simp only [Device.debitCoin]
  split
  · exact (setBalance_quiet _ d).trans (updatePlan_quiet (f := overpay _) (fun _ => rfl) _)
  · exact Quiet.refl d

/-- R117: a count in an open window. -/
theorem payCoin_keeps {d : Device} {c : PendingCoin} (hc : d.payout.coin = some c) : Keeps d (d.payCoin c) := by
  have seen : Quiet d (d.setCoin (some { c with seen := c.seen + 1 })) :=
    quiet_of_payout fun h => tubesSound_of (p := d.payout) rfl
      (fun hq => ⟨hq, fun hw => by simpa [Payout.windowOpen, hc] using hw⟩) h
  exact ((((seen.trans (coinOut_quiet _ _)).trans (updatePlan_quiet (f := Plan.payCoin _ _) (fun _ => rfl) _)).trans
    (debitCoin_quiet _ _)).trans (recomputeIf_quiet _ _)).keeps

theorem waitAgain_ended (p : Plan) : (p.waitAgain.state = .ended) = (p.state = .ended) := by
  unfold Plan.waitAgain
  split <;> simp_all

/-- R120: the engine's pulse stopped, an open window marked as cut. -/
def cutPulse (p : Payout) : Payout :=
  { p with solenoid := none, onTimer := none, gapTimer := none
           coin := p.coin.map fun c => { c with cut := c.windowOpen } }

theorem payoutRevoked_keeps (d : Device) : Keeps d d.payoutRevoked := by
  have cut : Quiet d { d with payout := cutPulse d.payout } :=
    quiet_of_payout fun h => tubesSound_of (p := d.payout) rfl (fun hq => ⟨hq, fun hw => by
      simpa [cutPulse, Payout.windowOpen, Option.any_map, Function.comp_def] using hw⟩) h
  exact (cut.trans (updatePlan_quiet waitAgain_ended _)).keeps.trans
    (claim_keeps (by simp [payoutClaim]) (by simp [payoutClaim]) _)

theorem reach_quiet (t : Nat) (d : Device) : Quiet d (d.reach t) := {}

/-- An expiry keeps what its effect keeps. -/
theorem onExpiry_keeps {t : Timer} {f : Nat → Device → Device} {d : Device}
    (h : ∀ due, t = some due → Keeps (d.reach due) (f due (d.reach due))) : Keeps d (d.onExpiry t f) := by
  unfold Device.onExpiry
  split
  · exact Keeps.refl d
  next due => exact (reach_quiet due d).keeps.trans (h due rfl)

theorem pulseOnEnd_keeps (d : Device) : Keeps d d.pulseOnEnd :=
  onExpiry_keeps fun _ _ => Quiet.keeps {}

theorem pulseGapEnd_keeps (d : Device) : Keeps d d.pulseGapEnd :=
  onExpiry_keeps fun _ _ => (Quiet.trans (b := { d.reach _ with payout := { d.payout with gapTimer := none } }) {}
    (tryPulse_quiet _)).keeps

theorem chuteWindowClose_keeps (d : Device) : Keeps d d.chuteWindowClose := by
  unfold Device.chuteWindowClose
  split
  · exact Keeps.refl d
  next c hc =>
    split
    next hopen => exact (reach_quiet c.windowEnd d).keeps.trans (closeWindow_keeps hc hopen)
    · exact Keeps.refl d

theorem strayChute_quiet (d : Device) : Quiet d d.strayChute := {}

theorem chuteCount_keeps (d : Device) : Keeps d d.chuteCount := by
  unfold Device.chuteCount
  split
  · exact (strayChute_quiet d).keeps
  next c hc =>
    split
    · exact payCoin_keeps hc
    · exact (strayChute_quiet d).keeps

/-! ### The payout engine's requests -/

theorem amendPayout_quiet (a : PayoutAmend) (d : Device) : Quiet d (amendPayout a d).1 := by
  unfold amendPayout
  split
  · exact {}
  · exact Quiet.refl d

theorem setTubeCount_keeps (tube count : Nat) (d : Device) : Keeps d (setTubeCount tube count d).1 := by
  unfold setTubeCount
  split
  · exact Keeps.refl d
  next t _ =>
    dsimp only
    split
    · exact Keeps.refl d
    split
    · exact Keeps.refl d
    next fits idle =>
      have idle : d.payout.idle = true := by simpa using idle
      refine (Quiet.trans (updateTube_quiet fun h => updateTube_tubes h (fun c hc => Or.inl hc) fun _ _ h3 => ?_)
        (recomputeIf_quiet _ _)).keeps
      exact ⟨by simp only [h3 idle]; exact Nat.zero_le _, by simp only; omega, h3⟩

theorem dispense_keeps (tube n : Nat) (d : Device) : Keeps d (dispense tube n d).1 := by
  unfold dispense
  split
  · exact Keeps.refl d
  next t _ =>
    dsimp only
    split
    · exact Keeps.refl d
    split
    · exact Keeps.refl d
    split
    · exact Keeps.refl d
    split
    · exact Keeps.refl d
    next still _ enough =>
      have still : d.moneyStill = true := by
        by_contra h
        simp [h] at still
      refine makePlan_keeps (lines := [(t, n)]) _ _ (moneyStill_idle still) fun u => ?_
      by_cases e : t = u
      · subst e; simp only [coinsFor_cons, if_pos, coinsFor_nil]; omega
      · rw [coinsFor_cons, if_neg e]; exact Nat.zero_le _

theorem takeRefund_keeps (d : Device) : Keeps d (takeRefund d).1 := by
  simp only [takeRefund]
  split
  · exact Keeps.refl d
  split
  · exact Keeps.refl d
  next still =>
    refine (markRefund_quiet _ d).keeps.trans (payBack_keeps _ _ ?_)
    rw [markRefund_payout]
    exact moneyStill_idle (by simpa using still)

theorem amendCreditLimit_quiet (m : Nat) (d : Device) : Quiet d (amendCreditLimit m d).1 := by
  simp only [amendCreditLimit]
  split
  · exact Quiet.refl d
  split
  · exact Quiet.refl d
  · exact Quiet.trans {} (recomputeIf_quiet _ _)

/-- R112: a class new to a tube is bound to no other. -/
theorem boundElsewhere_false {d : Device} {t : Fin 6} {b : Option (Fin 8)} (h : boundElsewhere d t b = false) {c : Fin 8}
    (hb : b = some c) (u : Fin 6) (hu : u ≠ t) : d.payout.tubes[u].boundClass ≠ some c := by
  intro e
  have : boundElsewhere d t b = true := by
    refine List.any_eq_true.mpr ⟨u, mem_allTubes u, ?_⟩
    simp only [hb, Bool.and_eq_true, decide_eq_true_eq, Option.isSome_some]
    exact ⟨⟨hu, trivial⟩, e⟩
  simp [h] at this

theorem amendTube_keeps (tube : Nat) (a : TubeAmend) (d : Device) : Keeps d (amendTube tube a d).1 := by
  unfold amendTube
  split
  · exact Keeps.refl d
  next t _ =>
    dsimp only
    split
    · exact Keeps.refl d
    split
    · exact Keeps.refl d
    split
    · exact Keeps.refl d
    split
    · exact Keeps.refl d
    next range _ bound _ =>
      refine (Quiet.trans (updateTube_quiet fun h => updateTube_tubes h (fun c hc => ?_) fun h1 h2 h3 => ?_)
        (recomputeIf_quiet _ _)).keeps
      · by_cases same : TubeAmend.binding a d.payout.tubes[t].boundClass = d.payout.tubes[t].boundClass
        · exact Or.inl (same ▸ hc)
        · refine Or.inr fun u hu => boundElsewhere_false (t := t) ?_ hc u hu
          simp only [bne_iff_ne, ne_eq, same, not_false_eq_true, Bool.and_eq_true, true_and, Bool.not_eq_true] at bound
          exact bound
      · refine ⟨h1, ?_, h3⟩
        simp only [TubeAmend.applied]
        cases hcap : a.capacity with
        | none => exact h2
        | some k =>
          simp only [TubeAmend.inRange, hcap, Option.all_some, Bool.not_eq_true', Bool.not_eq_false,
            Bool.and_eq_true, decide_eq_true_eq] at range
          exact range.1.2

end Sys2Proof.Proofs
end

section
/-! SUPPORT. The coin link, the compressor and the cooling zones keep every invariant. -/
namespace Sys2Proof.Proofs

open Sys2Proof.Machine Sys2Proof.Laws

-- One proof at a time: together they wait for the kernel in a thread each, and the memory limit is met.
set_option Elab.async false

/-! ### The coin link -/

theorem updateCoins_quiet (f : CoinAcceptance → CoinAcceptance) (d : Device) : Quiet d (d.updateCoins f) := {}

theorem send_quiet (m : Message) (d : Device) : Quiet d (d.send m) := {}

theorem openSlot_quiet (d : Device) : Quiet d d.openSlot := by
  unfold Device.openSlot
  split
  · exact send_quiet _ d
  · exact Quiet.refl d

theorem afterExchange_quiet (d : Device) : Quiet d d.afterExchange := by
  unfold Device.afterExchange
  split
  · split
    · exact openSlot_quiet d
    · exact updateCoins_quiet _ d
  · exact Quiet.refl d

theorem endHandshake_keeps (d : Device) : Keeps d d.endHandshake :=
  ((updateCoins_quiet _ d).trans (raise_quiet _ _)).keeps.trans (servePayback_keeps _)

theorem endUncertain_keeps (coin : CoinInFlight) (cause : UncertainCause) (d : Device) :
    Keeps d (d.endUncertain coin cause) :=
  ((updateCoins_quiet _ d).keeps.trans (endHandshake_keeps _)).trans (raise_quiet _ _).keeps

theorem offer_quiet (c : Fin 8) (d : Device) : Quiet d (d.offer c) := {}

theorem setRouteState_quiet (r : RouteState) (d : Device) : Quiet d (d.setRouteState r) := {}

theorem coinReady_keeps (c : Fin 8) (d : Device) : Keeps d (d.coinReady c) := by
  unfold Device.coinReady
  split
  · exact (offer_quiet c d).keeps
  split
  · exact (setRouteState_quiet _ d).keeps
  · exact (endUncertain_keeps _ _ d).trans (offer_quiet c _).keeps

theorem countCoin_quiet (coin : CoinInFlight) (d : Device) : Quiet d (d.countCoin coin) := by
  unfold Device.countCoin
  split
  · exact coinIn_quiet _ d
  · exact updateCoins_quiet _ d
  · exact Quiet.refl d

theorem creditCoin_quiet (c : Fin 8) (value : Nat) (d : Device) : Quiet d (d.creditCoin c value) := {}

theorem coinDone_keeps (c : Fin 8) (d : Device) : Keeps d (d.coinDone c) := by
  unfold Device.coinDone
  split
  · exact Keeps.refl d
  split
  · exact endUncertain_keeps _ _ d
  · exact (((countCoin_quiet _ d).trans (creditCoin_quiet _ _ _)).keeps.trans (endHandshake_keeps _)).trans
      (recomputeMask_quiet _).keeps

theorem coinReturned_keeps (d : Device) : Keeps d d.coinReturned := by
  unfold Device.coinReturned
  split
  · exact endHandshake_keeps d
  · exact Keeps.refl d

theorem linkPresent_quiet (bytes : List Byte) (d : Device) : Quiet d (d.linkPresent bytes) := {}

theorem handleReport_keeps (r : Report) (d : Device) : Keeps d (d.handleReport r) := by
  cases r with
  | idle => exact Keeps.refl d
  | coinReady c => exact coinReady_keeps c d
  | coinDone c => exact coinDone_keeps c d
  | coinReturned c => exact coinReturned_keeps d
  | returnLever => exact askPayback_keeps _ d
  | fault code => exact Quiet.keeps {}
  | ident bytes => exact (linkPresent_quiet bytes d).keeps

theorem acknowledge_quiet (m : Message) (d : Device) : Quiet d (d.acknowledge m) := by
  cases m <;> exact {}

theorem replied_keeps (m : Message) (r : Report) (d : Device) : Keeps d (d.replied m r) := by
  have closed : Quiet d (d.closeExchange.updateCoins fun c => { c with missCount := 0 }) := {}
  exact ((closed.trans (acknowledge_quiet m _)).keeps.trans (handleReport_keeps r _)).trans (afterExchange_quiet _).keeps

theorem loseCoin_keeps (d : Device) : Keeps d d.loseCoin := by
  unfold Device.loseCoin
  split
  · exact Keeps.refl d
  · exact endUncertain_keeps _ _ d

theorem linkLost_keeps (d : Device) : Keeps d d.linkLost :=
  ((((updateCoins_quiet _ d).trans (recomputeMask_quiet _)).keeps.trans (loseCoin_keeps _)).trans
    (raise_quiet .linkChanged _).keeps).trans (send_quiet .identify _).keeps

theorem missed_keeps (m : Message) (d : Device) : Keeps d (d.missed m) := by
  simp only [Device.missed]
  generalize hb : Device.updateCoins _ d.closeExchange = b
  have marked : Quiet d b := hb ▸ {}
  split
  · exact marked.keeps
  · have counted := marked.trans (updateCoins_quiet (fun c => { c with missCount := c.missCount + 1 }) b)
    split
    · exact counted.keeps.trans (linkLost_keeps _)
    · exact (counted.trans (afterExchange_quiet _)).keeps

theorem linkSlot_keeps (d : Device) : Keeps d d.linkSlot :=
  onExpiry_keeps fun _ _ => ((updateCoins_quiet _ _).trans (openSlot_quiet _)).keeps

theorem identifyExpiry_keeps (d : Device) : Keeps d d.identifyExpiry :=
  onExpiry_keeps fun _ _ => by
    split
    · exact (send_quiet _ _).keeps
    · exact Keeps.refl _

theorem linkFrame_keeps (bytes : List Byte) (framingError : Bool) (d : Device) :
    Keeps d (d.linkFrame bytes framingError) := by
  unfold Device.linkFrame
  split
  · exact Keeps.refl d
  split
  · split
    · exact replied_keeps _ _ d
    · exact missed_keeps _ d
  · exact Keeps.refl d

theorem linkReplyTimeout_keeps (d : Device) : Keeps d d.linkReplyTimeout := by
  unfold Device.linkReplyTimeout
  split
  · exact Keeps.refl d
  · exact onExpiry_keeps fun _ _ => missed_keeps _ _

theorem coinTimeout_keeps (d : Device) : Keeps d d.coinTimeout := by
  unfold Device.coinTimeout
  split
  · exact Keeps.refl d
  · exact (reach_quiet _ d).keeps.trans (endUncertain_keeps _ _ _)

theorem findCoinMarker_keeps (d : Device) : Keeps d d.findCoinMarker := by
  unfold Device.findCoinMarker
  split
  · exact Keeps.refl d
  · exact ((updateCoins_quiet _ d).keeps.trans (endHandshake_keeps _)).trans (raise_quiet _ _).keeps

theorem amendClass_quiet (coinClass : Nat) (a : ClassAmend) (d : Device) : Quiet d (amendClass coinClass a d).1 := by
  unfold amendClass
  split
  · exact Quiet.refl d
  · dsimp only
    split
    · exact Quiet.refl d
    split
    · exact Quiet.refl d
    · exact (updateCoins_quiet _ d).trans (recomputeMask_quiet _)

theorem amendLink_quiet (a : LinkAmend) (d : Device) : Quiet d (amendLink a d).1 := by
  unfold amendLink
  split
  · exact {}
  · exact Quiet.refl d

/-! ### The compressor -/

/-- A change of the compressor that keeps its state and whether its rest has elapsed. -/
theorem updateCompressor_quiet {f : Compressor → Compressor} {d : Device}
    (hs : (f d.compressor).state = d.compressor.state := by rfl)
    (he : (f d.compressor).restElapsed = d.compressor.restElapsed := by rfl) :
    Quiet d (d.updateCompressor f) := { state := hs, elapsed := he }

/-- A change of the compressor and of its claims alone, on the condition that it keeps their invariants. -/
theorem keepsIf_of_compressor {P Q : Prop} {d : Device} {c : Compressor} {b : LoadBudget}
    (hb : ClaimsSub .drive b d.load)
    (h : Q → d.compressorClaims → d.compressor.restSound →
      Device.compressorClaims { d with compressor := c, load := b } ∧ c.restSound) :
    KeepsIf P Q True d { d with compressor := c, load := b } where
  list _ := id
  claims hc := driveClaims_of_sub (d := d) rfl hb hc
  matrix _ := id
  rest := h
  tubes _ := id
  motors := id
  sale _ q u l := ⟨q, u, l⟩

theorem claimsSub_refl (who : Claimant) (b : LoadBudget) : ClaimsSub who b b := ⟨Nat.le_refl _, fun _ h _ => h, fun _ h _ => h⟩

/-- With neither WAITING nor STARTING the compressor has no claim. -/
theorem no_compressorClaim {d : Device} (h : d.compressorClaims) (hw : d.compressor.state ≠ .waiting)
    (hs : d.compressor.state ≠ .starting) : d.load.claimsOf .compressor = 0 := by
  rw [LoadBudget.claimsOf, List.length_eq_zero_iff, List.filter_eq_nil_iff]
  intro c hc e
  have e : c.who = .compressor := by simpa using e
  rcases List.mem_append.mp hc with m | m
  · exact hs (h.2.2 c m e)
  · exact hw (h.2.1 c m e)

/-- Without a claim the compressor's claims are in order in every state. -/
theorem compressorClaims_of_none {d : Device} (h : d.load.claimsOf .compressor = 0) : d.compressorClaims := by
  rw [LoadBudget.claimsOf, List.length_eq_zero_iff, List.filter_eq_nil_iff] at h
  refine ⟨?_, fun c hc e => ?_, fun c hc e => ?_⟩
  · rw [LoadBudget.claimsOf, List.filter_eq_nil_iff.mpr h]; exact Nat.zero_le _
  · exact absurd (by simpa using e) (h c (List.mem_append_right _ hc))
  · exact absurd (by simpa using e) (h c (List.mem_append_left _ hc))

/-- A compressor without a claim takes a state; its rest has elapsed unless it rests or is locked out. -/
theorem updateCompressor_keepsIf {P Q : Prop} {f : Compressor → Compressor} {d : Device}
    (idle : Q → d.compressor.state ≠ .waiting ∧ d.compressor.state ≠ .starting)
    (h : d.compressor.restSound → (f d.compressor).restSound) : KeepsIf P Q True d (d.updateCompressor f) :=
  keepsIf_of_compressor (d := d) (b := d.load) (claimsSub_refl _ _) fun hQ hc hr =>
    ⟨compressorClaims_of_none (no_compressorClaim (d := d) hc (idle hQ).1 (idle hQ).2), h hr⟩

theorem tryStart_keeps (d : Device) : Keeps d d.tryStart := by
  unfold Device.tryStart
  split
  next hc =>
    simp only [Bool.and_eq_true, decide_eq_true_eq] at hc
    have idle : d.compressor.state = .idle := hc.1.1
    have waiting : Keeps d { d with compressor := { d.compressor with state := .waiting },
                                    load := { d.load with waiters := d.load.waiters ++ [compressorClaim] } } := by
      refine keepsIf_of_compressor (claimsSub_join d.load (by simp [compressorClaim])) fun _ hcl hr => ⟨?_, fun _ _ => ?_⟩
      · have none := no_compressorClaim hcl (by simp [idle]) (by simp [idle])
        refine ⟨?_, fun _ _ _ => rfl, fun c hm e => ?_⟩
        · simp only [LoadBudget.claimsOf, ← List.append_assoc, List.filter_append, List.length_append] at none ⊢
          simp [none, compressorClaim]
        · exact absurd (hcl.2.2 c hm e) (by simp [idle])
      · exact hr (by simp [idle]) (by simp [idle])
    exact waiting.trans (grantTest_keeps _)
  · exact Keeps.refl d

theorem leaveRest_keeps (d : Device) : Keeps d d.leaveRest := by
  unfold Device.leaveRest
  split
  next hc =>
    simp only [Bool.and_eq_true, decide_eq_true_eq] at hc
    exact (updateCompressor_keepsIf (fun _ => by simp [hc.1]) fun _ _ _ => hc.2).trans (tryStart_keeps _)
  · exact Keeps.refl d

theorem mem_filter_ne {who : Claimant} {xs : List Claim} {c : Claim} (h : c ∈ xs.filter (·.who ≠ who)) : c.who ≠ who := by
  simpa using (List.mem_filter.mp h).2

/-- The compressor's entries filtered from a list of claims leave none. -/
theorem claimsOf_filter {who : Claimant} {b : LoadBudget} {f g : List Claim}
    (hf : ∀ c ∈ f, c.who ≠ who) (hg : ∀ c ∈ g, c.who ≠ who) :
    LoadBudget.claimsOf who { b with grants := f, waiters := g } = 0 := by
  rw [LoadBudget.claimsOf, List.length_eq_zero_iff, List.filter_eq_nil_iff]
  intro c hc e
  rcases List.mem_append.mp hc with m | m
  · exact hf c m (by simpa using e)
  · exact hg c m (by simpa using e)

theorem leaveWaiting_keeps {d : Device} (hw : d.compressor.state = .waiting) : Keeps d d.leaveWaiting := by
  have left : Keeps d { d with compressor := { d.compressor with state := .idle },
                               load := { d.load with waiters := d.load.waiters.filter (·.who ≠ .compressor) } } := by
    refine keepsIf_of_compressor (claimsSub_waiters _ d.load _) fun _ hc hr => ⟨compressorClaims_of_none ?_, fun _ _ => ?_⟩
    · exact claimsOf_filter (fun c hm e => absurd (hc.2.2 c hm e) (by simp [hw])) fun c hm => mem_filter_ne hm
    · exact hr (by simp [hw]) (by simp [hw])
  simp only [Device.leaveWaiting, Device.withdraw]
  split
  · exact left.trans (grantTest_keeps _)
  · exact left

/-- A compressor that is not WAITING leaves the state its grant stands for, and gives the grant back. -/
theorem leaveGrant_keeps {f : Compressor → Compressor} {d : Device} (hw : d.compressor.state ≠ .waiting)
    (h : d.compressor.restSound → (f d.compressor).restSound) :
    Keeps d ((d.updateCompressor f).giveBack .compressor) := by
  unfold Device.giveBack
  split
  · have left : Keeps d { d with compressor := f d.compressor,
                                 load := { d.load with grants := d.load.grants.filter (·.who ≠ .compressor) } } := by
      refine keepsIf_of_compressor (claimsSub_grants _ d.load _) fun _ hc hr => ⟨compressorClaims_of_none ?_, h hr⟩
      exact claimsOf_filter (fun c hm => mem_filter_ne hm) fun c hm e => hw (hc.2.1 c hm e)
    exact left.trans (grantTest_keeps _)
  next hn =>
    refine keepsIf_of_compressor (d := d) (b := d.load) (claimsSub_refl _ _) fun _ hc hr =>
      ⟨compressorClaims_of_none ?_, h hr⟩
    refine claimsOf_filter (b := d.load) (fun c hm e => hn ?_) fun c hm e => hw (hc.2.1 c hm e)
    exact List.any_eq_true.mpr ⟨c, hm, by simpa using e⟩

/-- A grant test that has no claim of the compressor to grant leaves it as it is. -/
theorem grantTest_compressor {d : Device} (h : ∀ c ∈ d.load.waiters, c.who ≠ .compressor) :
    d.grantTest.compressor = d.compressor := (grantLoop_spec _ d).2.2.2.2.2.2.2.2.1 h

theorem stopCompressor_keeps {d : Device} (why : LastStop) (hw : d.compressor.state ≠ .waiting) :
    Keeps d (d.stopCompressor why) :=
  leaveGrant_keeps hw fun _ h => absurd rfl h

/-- A stopped compressor rests: its one claim was the grant it gave back. -/
theorem stopCompressor_resting {d : Device} (why : LastStop) (hw : d.compressor.state ≠ .waiting)
    (hc : d.compressorClaims) : (d.stopCompressor why).compressor.state = .resting := by
  simp only [Device.stopCompressor, Device.giveBack]
  split
  · refine (congrArg Compressor.state (grantTest_compressor ?_)).trans rfl
    exact fun c hm e => hw (hc.2.1 c hm e)
  · rfl

theorem compressorAlarm_quiet (a : CompressorAlarm) (d : Device) : Quiet d (d.compressorAlarm a) := {}

theorem failCompressor_keeps {d : Device} (why : LastStop) (hw : d.compressor.state ≠ .waiting) :
    Keeps d (d.failCompressor why) := by
  have main : KeepsIf True d.compressorClaims True d (d.failCompressor why) := by
    simp only [Device.failCompressor]
    have stopped := (stopCompressor_keeps why hw).when True d.compressorClaims True
    have counted : Keeps (d.stopCompressor why) ((d.stopCompressor why).updateCompressor fun c =>
      { c with failures := c.failures + 1 }) := (updateCompressor_quiet).keeps
    split
    · refine ((stopped.trans (counted.when _ _ _)).trans (updateCompressor_keepsIf (fun hc => ?_) fun _ _ h => ?_)).trans
        ((compressorAlarm_quiet _ _).keeps.when _ _ _)
      · have rests := stopCompressor_resting why hw hc
        exact ⟨fun e => by simp [rests] at e, fun e => by simp [rests] at e⟩
      · exact absurd rfl h
    · exact stopped.trans (counted.when _ _ _)
  exact { main with rest := fun _ hc => main.rest hc hc }

theorem hotStop_keeps {d : Device} (hw : d.compressor.state ≠ .waiting) : Keeps d d.hotStop :=
  (stopCompressor_keeps _ hw).trans (compressorAlarm_quiet _ _).keeps

theorem stopIfMet_keeps (d : Device) : Keeps d d.stopIfMet := by
  unfold Device.stopIfMet
  split
  next hc =>
    simp only [Bool.and_eq_true, decide_eq_true_eq] at hc
    exact stopCompressor_keeps _ (by simp [hc.1.1])
  · exact Keeps.refl d

theorem reportValves_keeps (d : Device) : Keeps d d.reportValves := by
  simp only [Device.reportValves]
  split
  · exact Keeps.refl d
  · have told : Keeps d (d.updateCompressor fun c => { c with demand := d.zones.toList.any Zone.valve }) :=
      (updateCompressor_quiet).keeps
    split
    · exact told.trans (tryStart_keeps _)
    split
    next hw => exact told.trans (leaveWaiting_keeps hw)
    · exact told.trans (stopIfMet_keeps _)

theorem confirmStart_keeps {d : Device} (hs : d.compressor.state = .starting) : Keeps d d.confirmStart :=
  leaveGrant_keeps (by simp [hs]) fun h _ _ => h (by simp [hs]) (by simp [hs])

theorem condenserSample_keeps (sample : Sample) (d : Device) : Keeps d (d.condenserSample sample) := by
  simp only [Device.condenserSample]
  have judged : Keeps d (d.updateCompressor fun c => { c with condenser := some sample, judgedLimit := c.set.hotLimit }) :=
    (updateCompressor_quiet).keeps
  generalize hb : (if sample.bad && !d.compressor.condenser.any Sample.bad then _ else _) = b
  have alarmed : Keeps d b := by
    rw [← hb]
    split
    · exact judged.trans (compressorAlarm_quiet _ _).keeps
    · exact judged
  refine alarmed.trans ?_
  split
  next hs =>
    split
    · exact hotStop_keeps (by simp [hs])
    · exact Keeps.refl b
  next hs =>
    split
    · exact hotStop_keeps (by simp [hs])
    · exact Keeps.refl b
  next hs =>
    split
    · exact leaveWaiting_keeps hs
    · exact Keeps.refl b
  · exact tryStart_keeps b
  · exact Keeps.refl b
  · exact Keeps.refl b

theorem compressorRevoked_keeps (d : Device) : Keeps d d.compressorRevoked := by
  unfold Device.compressorRevoked
  split
  next hs => exact stopCompressor_keeps _ (by simp [hs])
  · exact Keeps.refl d

theorem restTimer_keeps (d : Device) : Keeps d d.restTimer :=
  onExpiry_keeps fun _ _ => Keeps.trans (b := Device.updateCompressor (fun c => { c with restTimer := none, restElapsed := true })
      (d.reach _)) (keepsIf_of_compressor (d := d.reach _) (b := d.load) (claimsSub_refl _ _)
        fun _ hc _ => ⟨compressorClaims_of_sub (d := d.reach _) rfl (claimsSub_refl _ _) hc, fun _ _ => rfl⟩)
    (leaveRest_keeps _)

theorem startTimer_keeps (d : Device) : Keeps d d.startTimer :=
  onExpiry_keeps fun due hd => by
    have hs : d.compressor.state = .starting := by
      by_contra h
      simp [h] at hd
    split
    · exact failCompressor_keeps _ (by simp [hs])
    · exact confirmStart_keeps (d := d.reach due) hs

theorem confirmLineEdge_quiet (level : Level) (d : Device) : Quiet d (d.confirmLineEdge level) := by
  unfold Device.confirmLineEdge
  split
  · exact Quiet.refl d
  · exact updateCompressor_quiet

theorem confirmActs_keeps (before : Option Level) (level : Level) (d : Device) : Keeps d (d.confirmActs before level) := by
  unfold Device.confirmActs
  split
  · exact Keeps.refl d
  split
  · split
    next hs =>
      split
      · exact confirmStart_keeps hs
      · exact Keeps.refl d
    next hs =>
      split
      · exact failCompressor_keeps _ (by simp [hs])
      · exact Keeps.refl d
    · exact Keeps.refl d
  · exact Keeps.refl d

theorem confirmChange_keeps (d : Device) : Keeps d d.confirmChange :=
  onExpiry_keeps fun _ _ => (updateCompressor_quiet).keeps.trans (confirmActs_keeps _ _ _)

theorem runTimer_keeps (d : Device) : Keeps d d.runTimer :=
  onExpiry_keeps fun _ _ => (updateCompressor_quiet).keeps.trans (stopIfMet_keeps _)

theorem fanRunon_keeps (d : Device) : Keeps d d.fanRunon :=
  onExpiry_keeps fun _ _ => (updateCompressor_quiet).keeps

theorem amendCompressor_quiet (a : CompressorAmend) (d : Device) : Quiet d (amendCompressor a d).1 := by
  unfold amendCompressor
  split
  · exact {}
  · exact Quiet.refl d

theorem clearLockout_keeps (d : Device) : Keeps d (clearLockout d).1 := by
  unfold clearLockout
  split
  next hs =>
    exact (updateCompressor_keepsIf (fun _ => by simp [hs]) fun _ h => absurd rfl h).trans (leaveRest_keeps _)
  · exact Keeps.refl d

/-! ### Lane records changed in passing -/

/-- A change of a lane's record that keeps what the invariants read of it. -/
theorem updateLane_quiet {f : Lane → Lane} (n : Fin 64) (d : Device)
    (h : ∀ l, laneCore (f l) = laneCore l := by exact fun _ => rfl) :
    Quiet d (d.updateLane n f) := by
  have lanes : ∀ m, ((d.updateLane n f).lane? m).map laneCore = (d.lane? m).map laneCore := fun m => by
    rw [lane?_updateLane]
    split
    next e => subst e; cases d.lane? m <;> simp [h]
    · rfl
  rw [updateLane_eq] at lanes ⊢
  exact { lanes := lanes }

theorem changeLane_quiet {f : Lane → Lane} (n : Fin 64) (d : Device)
    (h : ∀ l, laneCore (f l) = laneCore l := by exact fun _ => rfl) :
    Quiet d (d.changeLane n f) := by
  have lanes : ∀ m, ((d.changeLane n f).lane? m).map laneCore = (d.lane? m).map laneCore := fun m => by
    rw [lane?_changeLane]
    split
    next e => subst e; cases d.lane? m <;> simp [h]
    · rfl
  rw [changeLane_eq] at lanes ⊢
  exact { lanes := lanes }

/-! ### The zones -/

theorem updateZone_quiet (z : Fin 2) (f : Zone → Zone) (d : Device) : Quiet d (d.updateZone z f) := {}

theorem decideHold_quiet (n : Fin 64) (v : Bool) (d : Device) : Quiet d (d.decideHold n v) := by
  unfold Device.decideHold
  split
  · exact changeLane_quiet n d
  · exact Quiet.refl d

/-- A sweep keeps what each of its steps keeps. -/
theorem foldl_rel {α β : Type} {R : β → β → Prop} (refl : ∀ b, R b b) (trans : ∀ {a b c}, R a b → R b c → R a c)
    {f : β → α → β} (step : ∀ b a, R b (f b a)) (xs : List α) : ∀ b, R b (xs.foldl f b) := by
  induction xs with
  | nil => exact refl
  | cons x rest ih => exact fun b => trans (step b x) (ih _)

theorem holdSweep_quiet (z : Fin 2) (d : Device) : Quiet d (d.holdSweep z) := by
  refine foldl_rel Quiet.refl Quiet.trans (fun e n => ?_) allLanes d
  unfold Device.sweepLane
  split
  · exact Quiet.refl e
  split
  · exact decideHold_quiet n _ e
  · exact Quiet.refl e

theorem spoilCheck_quiet (z : Fin 2) (d : Device) : Quiet d (d.spoilCheck z) := by
  refine foldl_rel Quiet.refl Quiet.trans (fun e n => ?_) allLanes d
  unfold Device.spoilLane
  split
  · exact Quiet.refl e
  split
  · exact changeLane_quiet n e
  · exact Quiet.refl e

theorem zoneAlarm_quiet (z : Fin 2) (a : ZoneAlarm) (d : Device) : Quiet d (d.zoneAlarm z a) := {}

theorem setZoneState_keeps (z : Fin 2) (st : ZoneState) (d : Device) : Keeps d (d.setZoneState z st) := by
  simp only [Device.setZoneState]
  split
  · exact (updateZone_quiet z _ d).keeps
  · exact (updateZone_quiet z _ d).keeps.trans (reportValves_keeps _)

theorem claimHeater_keeps (z : Fin 2) (d : Device) : Keeps d (d.claim (heaterClaim z)) :=
  claim_keeps (by simp [heaterClaim]) (by simp [heaterClaim]) d

theorem enterDefrost_keeps (z : Fin 2) (d : Device) : Keeps d (d.enterDefrost z) :=
  ((updateZone_quiet z _ d).keeps.trans (setZoneState_keeps z _ _)).trans (claimHeater_keeps z _)

theorem checkDue_keeps (z : Fin 2) (d : Device) : Keeps d (d.checkDue z) := by
  simp only [Device.checkDue]
  split
  · exact enterDefrost_keeps z d
  · exact Keeps.refl d

theorem endDefrost_keeps (z : Fin 2) (st : ZoneState) (d : Device) : Keeps d (d.endDefrost z st) :=
  ((updateZone_quiet z _ d).keeps.trans (setZoneState_keeps z _ _)).trans (dropLoad_keeps _ _)

theorem checkInterval_keeps (z : Fin 2) (d : Device) : Keeps d (d.checkInterval z) :=
  (updateZone_quiet z _ d).keeps.trans (checkDue_keeps z _)

theorem probeFault_keeps (z : Fin 2) (d : Device) : Keeps d (d.probeFault z) := by
  simp only [Device.probeFault]
  split
  · exact (endDefrost_keeps z _ d).trans (zoneAlarm_quiet z _ _).keeps
  · exact ((updateZone_quiet z _ d).keeps.trans (setZoneState_keeps z _ _)).trans (zoneAlarm_quiet z _ _).keeps

theorem judgeAir_keeps (z : Fin 2) (sample : Sample) (d : Device) : Keeps d (d.judgeAir z sample) := by
  unfold Device.judgeAir
  split
  · exact Keeps.refl d
  · exact Keeps.refl d
  · exact Keeps.refl d
  · exact setZoneState_keeps z _ d
  · exact setZoneState_keeps z _ d
  · exact setZoneState_keeps z _ d
  · exact Keeps.refl d
  · exact probeFault_keeps z d

theorem judgeWarm_quiet (z : Fin 2) (sample : Sample) (d : Device) : Quiet d (d.judgeWarm z sample) := by
  simp only [Device.judgeWarm]
  split
  · exact (updateZone_quiet z _ d).trans (zoneAlarm_quiet z _ _)
  · exact updateZone_quiet z _ d

theorem airSample_keeps (z : Fin 2) (sample : Sample) (d : Device) : Keeps d (d.airSample z sample) := by
  simp only [Device.airSample]
  have judged := ((updateZone_quiet z (fun r => { r with air := some sample }) d).keeps.trans
    (judgeAir_keeps z sample _)).trans (judgeWarm_quiet z sample _).keeps
  split
  · exact (judged.trans (holdSweep_quiet z _).keeps).trans (checkDue_keeps z _)
  · exact judged.trans (checkDue_keeps z _)

theorem evaporatorSample_keeps (z : Fin 2) (sample : Sample) (d : Device) : Keeps d (d.evaporatorSample z sample) := by
  simp only [Device.evaporatorSample]
  split
  · exact (updateZone_quiet z _ d).keeps.trans (endDefrost_keeps z _ _)
  · exact (updateZone_quiet z _ d).keeps

theorem sinceExpiry_keeps (z : Fin 2) (d : Device) : Keeps d (d.sinceExpiry z) :=
  onExpiry_keeps fun _ _ => (updateZone_quiet z _ _).keeps.trans (checkInterval_keeps z _)

theorem defrostExpiry_keeps (z : Fin 2) (d : Device) : Keeps d (d.defrostExpiry z) :=
  onExpiry_keeps fun _ _ => endDefrost_keeps z _ _

theorem dripExpiry_keeps (z : Fin 2) (d : Device) : Keeps d (d.dripExpiry z) :=
  onExpiry_keeps fun _ _ => ((updateZone_quiet z _ _).keeps.trans (setZoneState_keeps z _ _)).trans (checkDue_keeps z _)

theorem exposeMinute_quiet (z : Fin 2) (d : Device) : Quiet d (d.exposeMinute z) := by
  simp only [Device.exposeMinute]
  split
  · exact ((updateZone_quiet z _ d).trans (spoilCheck_quiet z _)).trans (zoneAlarm_quiet z _ _)
  · exact (updateZone_quiet z _ d).trans (spoilCheck_quiet z _)

theorem minuteExpiry_keeps (z : Fin 2) (d : Device) : Keeps d (d.minuteExpiry z) :=
  onExpiry_keeps fun _ _ => by
    dsimp only
    split
    · exact ((updateZone_quiet z _ _).trans (exposeMinute_quiet z _)).keeps
    · exact (updateZone_quiet z _ _).keeps

theorem disableZone_keeps (z : Fin 2) (d : Device) : Keeps d (d.disableZone z) := by
  simp only [Device.disableZone]
  split
  · exact (((endDefrost_keeps z _ d).trans (updateZone_quiet z _ _).keeps).trans (setZoneState_keeps z _ _)).trans
      (holdSweep_quiet z _).keeps
  · exact ((updateZone_quiet z _ d).keeps.trans (setZoneState_keeps z _ _)).trans (holdSweep_quiet z _).keeps

theorem enableZone_keeps (z : Fin 2) (d : Device) : Keeps d (d.enableZone z) := by
  simp only [Device.enableZone]
  exact ((setZoneState_keeps z _ d).trans (holdSweep_quiet z _).keeps).trans (updateZone_quiet z _ _).keeps

theorem switchZone_keeps (z : Fin 2) (before : Bool) (d : Device) : Keeps d (d.switchZone z before) := by
  unfold Device.switchZone
  split
  · exact Keeps.refl d
  split
  · exact disableZone_keeps z d
  · exact enableZone_keeps z d

theorem zoneEffects_keeps (z : Fin 2) (old : ZoneSettings) (d : Device) : Keeps d (d.zoneEffects z old) := by
  simp only [Device.zoneEffects]
  have hold : ∀ (p : Prop) [Decidable p] (e : Device), Keeps e (if p then e else e.holdSweep z) := fun p _ e => by
    split
    · exact Keeps.refl e
    · exact (holdSweep_quiet z e).keeps
  have spoil : ∀ (p : Prop) [Decidable p] (e : Device), Keeps e (if p then e else e.spoilCheck z) := fun p _ e => by
    split
    · exact Keeps.refl e
    · exact (spoilCheck_quiet z e).keeps
  have interval : ∀ (p : Prop) [Decidable p] (e : Device), Keeps e (if p then e else e.checkInterval z) := fun p _ e => by
    split
    · exact Keeps.refl e
    · exact checkInterval_keeps z e
  exact (((switchZone_keeps z _ d).trans (hold _ _)).trans (spoil _ _)).trans (interval _ _)

theorem amendZone_keeps (zone : Nat) (a : ZoneAmend) (d : Device) : Keeps d (amendZone zone a d).1 := by
  unfold amendZone
  split
  · exact Keeps.refl d
  · dsimp only
    split
    · exact Keeps.refl d
    · exact Keeps.trans (Quiet.keeps {}) (zoneEffects_keeps _ _ _)

theorem startDefrost_keeps (zone : Nat) (d : Device) : Keeps d (startDefrost zone d).1 := by
  unfold startDefrost
  split
  · exact Keeps.refl d
  next z _ =>
    dsimp only
    split
    · exact Keeps.refl d
    · have enter : Keeps d ((d.updateZone z fun r => { r with defrostDue := true }).checkDue z) :=
        (updateZone_quiet z _ d).keeps.trans (checkDue_keeps z _)
      split
      · exact Keeps.refl d
      · exact Keeps.refl d
      · exact Keeps.refl d
      · exact enter
      · exact enter
      · exact enter

end Sys2Proof.Proofs
end

section
/-! SUPPORT. The order queue: what a change of one order does to a sum over the orders, to the current order and to the
units owed on a lane. -/
namespace Sys2Proof.Proofs

open Sys2Proof.Machine Sys2Proof.Laws

-- One proof at a time: together they wait for the kernel in a thread each, and the memory limit is met.
set_option Elab.async false

/-- No two held orders have one tag (R47). -/
def tagsDistinct (q : OrderQueue) : Prop := (q.orders.map (·.tag)).Nodup

/-- The orders with the one of a tag changed. -/
def changeTag (tag : Nat) (f : Order → Order) (orders : List Order) : List Order :=
  orders.map fun o => if o.tag = tag then f o else o

theorem update_eq (q : OrderQueue) (tag : Nat) (f : Order → Order) :
    q.update tag f = { q with orders := changeTag tag f q.orders } := rfl

section one_order
variable {orders : List Order} {o : Order} {f : Order → Order}

/-- Distinct tags: an order is known by its tag. -/
theorem eq_of_tag (h : (orders.map (·.tag)).Nodup) {a b : Order} (ha : a ∈ orders) (hb : b ∈ orders) (e : a.tag = b.tag) :
    a = b := List.inj_on_of_nodup_map h ha hb e

/-- A change of tag that no order has changes nothing. -/
theorem changeTag_absent {tag : Nat} (h : ∀ x ∈ orders, x.tag ≠ tag) : changeTag tag f orders = orders := by
  refine (List.map_congr_left fun x hx => ?_).trans (List.map_id orders)
  rw [if_neg (h x hx)]; rfl

/-- A sum over the orders when one of them changes. -/
theorem sum_changeTag (φ : Order → Nat) (h : (orders.map (·.tag)).Nodup) (ho : o ∈ orders) :
    ((changeTag o.tag f orders).map φ).sum + φ o = (orders.map φ).sum + φ (f o) := by
  induction orders with
  | nil => cases ho
  | cons x rest ih =>
    simp only [List.map_cons, List.nodup_cons] at h
    by_cases e : x.tag = o.tag
    · obtain rfl : x = o := by
        rcases List.mem_cons.mp ho with rfl | ho
        · rfl
        · exact absurd (e ▸ List.mem_map_of_mem ho) h.1
      have same : changeTag x.tag f rest = rest := changeTag_absent fun y hy ey => h.1 (ey ▸ List.mem_map_of_mem hy)
      simp only [changeTag, List.map_cons, if_pos, List.sum_cons] at same ⊢
      rw [same]; omega
    · have ho : o ∈ rest := by
        rcases List.mem_cons.mp ho with rfl | ho
        · exact absurd rfl e
        · exact ho
      have := ih h.2 ho
      simp only [changeTag, List.map_cons, if_neg e, List.sum_cons] at this ⊢
      omega

theorem mem_changeTag {tag : Nat} {x : Order} :
    x ∈ changeTag tag f orders ↔ (x ∈ orders ∧ x.tag ≠ tag) ∨ ∃ y ∈ orders, y.tag = tag ∧ x = f y := by
  simp only [changeTag, List.mem_map]
  constructor
  · rintro ⟨y, hy, rfl⟩
    split
    next e => exact Or.inr ⟨y, hy, e, rfl⟩
    next e => exact Or.inl ⟨hy, e⟩
  · rintro (⟨hx, e⟩ | ⟨y, hy, e, rfl⟩)
    · exact ⟨x, hx, if_neg e⟩
    · exact ⟨y, hy, if_pos e⟩

theorem tags_changeTag (tag : Nat) (hf : ∀ x, (f x).tag = x.tag) :
    (changeTag tag f orders).map (·.tag) = orders.map (·.tag) := by
  simp only [changeTag, List.map_map]
  refine List.map_congr_left fun x _ => ?_
  simp only [Function.comp]
  split
  · exact hf x
  · rfl

end one_order

section queue
variable {q : OrderQueue} {o : Order}

theorem find?_mem {tag : Nat} (h : q.find? tag = some o) : o ∈ q.orders ∧ o.tag = tag :=
  ⟨List.mem_of_find?_eq_some h, by simpa using List.find?_some h⟩

theorem find?_of_mem (h : tagsDistinct q) (ho : o ∈ q.orders) : q.find? o.tag = some o := by
  cases e : q.find? o.tag with
  | none => exact absurd (List.find?_eq_none.mp e o ho) (by simp)
  | some x =>
    obtain ⟨hx, ex⟩ := find?_mem e
    rw [eq_of_tag h hx ho ex]

theorem liveOrder?_mem {tag : Nat} (h : q.liveOrder? tag = some o) :
    o ∈ q.orders ∧ o.tag = tag ∧ o.state.live = true := by
  obtain ⟨hf, hl⟩ := Option.filter_eq_some_iff.mp h
  obtain ⟨ho, ht⟩ := find?_mem hf
  exact ⟨ho, ht, hl⟩

theorem current?_mem (h : q.current? = some o) : o ∈ q.orders ∧ o.state.current = true :=
  ⟨List.mem_of_find?_eq_some h, List.find?_some (p := fun o : Order => o.state.current) h⟩

theorem head?_mem (h : q.head? = some o) : o ∈ q.orders ∧ o.state = .queued :=
  ⟨List.mem_of_find?_eq_some h, by simpa using List.find?_some h⟩

theorem currentWith_mem {tag : Nat} (h : q.currentWith tag = some o) :
    q.current? = some o ∧ o.tag = tag := by
  obtain ⟨hc, ht⟩ := Option.filter_eq_some_iff.mp h
  exact ⟨hc, by simpa using ht⟩

/-- 1 for a current order. -/
def currentMark (o : Order) : Nat := if o.state.current then 1 else 0

theorem currentCount_eq (orders : List Order) :
    (orders.filter fun o => o.state.current).length = (orders.map currentMark).sum := by
  induction orders with
  | nil => rfl
  | cons x rest ih =>
    simp only [List.filter_cons, List.map_cons, List.sum_cons, currentMark]
    split
    · rw [List.length_cons, ih, Nat.add_comm]
    · rw [ih, Nat.zero_add]

theorem eq_of_length_le_one {α : Type} {xs : List α} (h : xs.length ≤ 1) {a b : α} (ha : a ∈ xs) (hb : b ∈ xs) : a = b := by
  match xs, h with
  | [x], _ => rw [List.mem_singleton.mp ha, List.mem_singleton.mp hb]

/-- One current order at most: a current order is the current one. -/
theorem current?_of_mem (h : q.sound) (ho : o ∈ q.orders) (hc : o.state.current = true) : q.current? = some o := by
  cases e : q.current? with
  | none => exact absurd hc (by simpa using List.find?_eq_none.mp e o ho)
  | some x =>
    obtain ⟨hx, cx⟩ := current?_mem e
    rw [eq_of_length_le_one h.2.2 (List.mem_filter.mpr ⟨hx, cx⟩) (List.mem_filter.mpr ⟨ho, hc⟩)]

theorem current_live {s : OrderState} (h : s.current = true) : s.live = true := by
  cases s <;> simp_all [OrderState.current, OrderState.live]

/-- The units an order is owed on a lane. -/
def owedBy (n : Fin 64) (o : Order) : Nat := if o.state.live && o.lane = n then o.quantity - o.delivered else 0

theorem owed_eq (q : OrderQueue) (n : Fin 64) : q.owed n = (q.orders.map (owedBy n)).sum := by
  unfold OrderQueue.owed
  induction q.orders with
  | nil => rfl
  | cons x rest ih =>
    simp only [List.filter_cons, List.map_cons, List.sum_cons, owedBy]
    split
    · simp only [List.map_cons, List.sum_cons]; rw [ih]
    · rw [ih, Nat.zero_add]

/-- A change of one order that keeps its tag and makes no second current order keeps the queue sound. -/
theorem sound_update {f : Order → Order} (h : q.sound) (ho : o ∈ q.orders) (hf : ∀ x, (f x).tag = x.tag)
    (hc : (f o).state.current = true → q.current? = none ∨ o.state.current = true) : (q.update o.tag f).sound := by
  obtain ⟨len, tags, one⟩ := h
  refine ⟨by simpa [update_eq, changeTag] using len, ?_, ?_⟩
  · rw [update_eq, tags_changeTag o.tag hf]; exact tags
  · have sum := sum_changeTag (f := f) currentMark tags ho
    rw [currentCount_eq] at one ⊢
    rw [update_eq]
    by_cases hcur : (f o).state.current = true
    · rcases hc hcur with none | cur
      · have zero : (q.orders.map currentMark).sum = 0 := by
          rw [← currentCount_eq, List.length_eq_zero_iff, List.filter_eq_nil_iff]
          exact fun x hx => by simpa using List.find?_eq_none.mp none x hx
        simp [currentMark, hcur] at sum zero ⊢; omega
      · simp [currentMark, hcur, cur] at sum one ⊢; omega
    · simp [currentMark, hcur] at sum one ⊢; omega

/-- The units owed on a lane when one order changes. -/
theorem owed_update {f : Order → Order} (h : tagsDistinct q) (ho : o ∈ q.orders) (n : Fin 64) :
    (q.update o.tag f).owed n + owedBy n o = q.owed n + owedBy n (f o) := by
  rw [owed_eq, owed_eq]
  exact sum_changeTag (owedBy n) h ho

theorem owedBy_le (h : o ∈ q.orders) (n : Fin 64) : owedBy n o ≤ q.owed n := by
  rw [owed_eq]
  exact List.single_le_sum (by simp) _ (List.mem_map_of_mem h)

end queue

end Sys2Proof.Proofs
end

section
/-! SUPPORT. Orders that start, are credited and end: what each does to the sale's invariants. -/
namespace Sys2Proof.Proofs

open Sys2Proof.Machine Sys2Proof.Laws

-- One proof at a time: together they wait for the kernel in a thread each, and the memory limit is met.
set_option Elab.async false

/-- The lanes' counts in order (R5), but for the stock of a lane that a NO_DROP has emptied (R6). -/
def lanesSoundBut (x : Option (Fin 64)) (d : Device) : Prop :=
  (∀ n l, d.lane? n = some l → (x ≠ some n → l.reserved ≤ l.stock) ∧ l.stock ≤ l.capacity ∧
    l.reserved = d.queue.owed n) ∧
  ∀ o ∈ d.queue.orders, o.state.live = true → o.delivered < o.quantity ∧ (d.lane? o.lane).isSome = true

theorem lanesSoundBut_none {d : Device} : lanesSoundBut none d ↔ d.lanesSound := by
  simp [lanesSoundBut, Device.lanesSound]

/-- The sale's invariants, but for the stock of an emptied lane. -/
structure SaleBut (x : Option (Fin 64)) (d : Device) : Prop where
  queue : d.queue.sound
  units : d.unitsSound
  lanes : lanesSoundBut x d

theorem SaleBut.tags {x : Option (Fin 64)} {d : Device} (h : SaleBut x d) : tagsDistinct d.queue := h.queue.2.1

/-- A change of the lane table, the queue, the money and the conditions keeps the other invariants when it keeps the
companions. -/
theorem keeps_of_sale {d e : Device} (frame : d.changesOnly [.conditions, .table, .queue, .credit, .coins] e)
    (motors : ∀ n, (e.lane? n).map (·.companion) = (d.lane? n).map (·.companion))
    (sale : d.driveClaims → SaleBut none d → SaleBut none e) : Keeps d e := by
  have drive : e.drive = d.drive := frame .drive (by simp)
  have load : e.load = d.load := frame .load (by simp)
  have payout : e.payout = d.payout := frame .payout (by simp)
  have compressor : e.compressor = d.compressor := frame .compressor (by simp)
  exact {
    list := fun _ => by rw [drive]; exact id
    claims := driveClaims_of_core (by rw [drive]) (by rw [load]) (by rw [load])
    matrix := fun _ => matrixSound_of_core (by rw [drive])
    rest := fun _ hc hr => ⟨compressorClaims_of_core (by rw [compressor]) (by rw [load]) (by rw [load]) hc,
      by rw [compressor]; exact hr⟩
    tubes := fun _ => by rw [payout]; exact id
    motors := motorsSound_of_companions motors
    sale := fun hc q u l => by
      obtain ⟨q', u', l'⟩ := sale hc ⟨q, u, lanesSoundBut_none.mpr l⟩
      exact ⟨q', u', lanesSoundBut_none.mp l'⟩ }

/-! ### Lanes and the units owed -/

/-- The lanes stay in order when one order changes and its lane's record with it. -/
theorem lanesSoundBut_update {x : Option (Fin 64)} {d e : Device} {o : Order} {f : Order → Order} {g : Lane → Lane}
    (h : SaleBut x d) (ho : o ∈ d.queue.orders)
    (orders : e.queue.orders = changeTag o.tag f d.queue.orders)
    (lanes : ∀ n, e.lane? n = if n = o.lane then (d.lane? n).map g else d.lane? n)
    (lane : (f o).lane = o.lane) (owes : (f o).state.live = true → (f o).delivered < (f o).quantity ∧ o.state.live = true)
    (counts : ∀ l, d.lane? o.lane = some l → owedBy o.lane o ≤ l.reserved → (g l).capacity = l.capacity ∧ (g l).stock ≤ l.stock ∧
      ((x ≠ some o.lane → l.reserved ≤ l.stock) → (x ≠ some o.lane → (g l).reserved ≤ (g l).stock)) ∧
      (g l).reserved + owedBy o.lane o = l.reserved + owedBy o.lane (f o)) : lanesSoundBut x e := by
  obtain ⟨fits, owed⟩ := h.lanes
  have sum : ∀ n, e.queue.owed n + owedBy n o = d.queue.owed n + owedBy n (f o) := by
    intro n
    have := owed_update (f := f) h.tags ho n
    rw [owed_eq] at this ⊢
    rw [orders]; exact this
  refine ⟨?_, ?_⟩
  · intro n l' hl'
    rw [lanes] at hl'
    split at hl'
    next e =>
      subst e
      obtain ⟨l, hl, rfl⟩ := Option.map_eq_some_iff.mp hl'
      obtain ⟨h1, h2, h3⟩ := fits _ l hl
      obtain ⟨c1, c2, c3, c4⟩ := counts l hl (h3 ▸ owedBy_le ho _)
      refine ⟨c3 h1, by omega, ?_⟩
      have := sum o.lane
      omega
    next e =>
      obtain ⟨h1, h2, h3⟩ := fits n l' hl'
      refine ⟨h1, h2, ?_⟩
      have elsewhere : ∀ y : Order, y.lane = o.lane → owedBy n y = 0 := fun y hy => by
        rw [owedBy, if_neg]; simp only [Bool.and_eq_true, decide_eq_true_eq, not_and]
        intro _ e'; exact e (e' ▸ hy)
      have := sum n
      rw [elsewhere o rfl, elsewhere (f o) lane] at this
      omega
  · have there : ∀ m : Fin 64, (e.lane? m).isSome = (d.lane? m).isSome := fun m => by
      rw [lanes]; split <;> simp
    intro y hy live
    rw [orders] at hy
    rcases mem_changeTag.mp hy with ⟨hy, -⟩ | ⟨z, hz, tag, rfl⟩
    · rw [there]; exact owed y hy live
    · obtain rfl := eq_of_tag h.tags hz ho tag
      obtain ⟨lt, wasLive⟩ := owes live
      rw [there, lane]
      exact ⟨lt, (owed z hz wasLive).2⟩

/-! ### The ending of an order -/

theorem close_live (o : Order) (cause : EndCause) : (o.close cause).state.live = false := by
  simp only [Order.close, Order.endState]
  split
  · rfl
  split
  · rfl
  split <;> rfl

theorem close_current (o : Order) (cause : EndCause) : (o.close cause).state.current = false := by
  cases h : (o.close cause).state.current
  · rfl
  · have := current_live h
    rw [close_live] at this
    exact absurd this (by simp)

/-- The companions stay in a change of one lane's counts. -/
theorem companions_updateLane {f : Lane → Lane} {d e : Device} {n : Fin 64}
    (lanes : ∀ m, e.lane? m = if m = n then (d.lane? m).map f else d.lane? m) (hf : ∀ l, (f l).companion = l.companion)
    (m : Fin 64) : (e.lane? m).map (·.companion) = (d.lane? m).map (·.companion) := by
  rw [lanes]
  split
  · cases d.lane? m <;> simp [hf]
  · rfl

/-- What the ending of an order changes: its record, its lane's reservation, the unit position of a current one. -/
structure Ends (o : Order) (cause : EndCause) (units : Nat) (d e : Device) : Prop where
  frame : d.changesOnly [.conditions, .table, .queue, .credit] e
  orders : e.queue.orders = changeTag o.tag (Order.close cause) d.queue.orders
  pos : e.queue.unitPos = if o.state.current then .none else d.queue.unitPos
  state : e.queue.state = if o.holdAfter then .held else d.queue.state
  lanes : ∀ n, e.lane? n = if n = o.lane then (d.lane? n).map fun l => { l with reserved := l.reserved - units }
    else d.lane? n
  table : e.table.changed = d.table.changed ∧ e.table.stampCounter = d.table.stampCounter
  credit : e.credit.balance = d.credit.balance ∧
    e.credit.committed = d.credit.committed - if o.payment = .credit then o.price * units else 0
  raised : e.conditions = d.conditions.raise .orderEnded

theorem releaseUnits_lane (o : Order) (m : Nat) (d : Device) (n : Fin 64) :
    (d.releaseUnits o m).lane? n =
      if n = o.lane then (d.lane? n).map fun l => { l with reserved := l.reserved - m } else d.lane? n := by
  have : (d.releaseUnits o m).lane? n = (d.release o.lane m).lane? n := by
    simp only [Device.releaseUnits]; split <;> rfl
  rw [this, Device.release, lane?_updateLane]
  split
  next e => rw [e]
  · rfl

theorem updateLane_changed (n : Fin 64) (f : Lane → Lane) (d : Device) :
    (d.updateLane n f).table.changed = d.table.changed ∧
      (d.updateLane n f).table.stampCounter = d.table.stampCounter := by
  rw [updateLane_eq]; exact ⟨rfl, rfl⟩

theorem updateLane_frame (n : Fin 64) (f : Lane → Lane) (d : Device) : d.changesOnly [.table] (d.updateLane n f) := by
  rw [updateLane_eq]
  intro p hp
  cases p <;> first | rfl | simp at hp

theorem releaseUnits_eq (o : Order) (m : Nat) (d : Device) :
    d.releaseUnits o m = { d with table := (d.release o.lane m).table,
                                  credit := { d.credit with committed := d.credit.committed -
                                    if o.payment = .credit then o.price * m else 0 } } := by
  simp only [Device.releaseUnits, Device.release]
  rw [updateLane_eq]
  split
  · rfl
  · rfl

theorem releaseUnits_frame (o : Order) (m : Nat) (d : Device) : d.changesOnly [.table, .credit] (d.releaseUnits o m) := by
  rw [releaseUnits_eq]
  intro p hp
  cases p <;> first | rfl | simp at hp

/-- R49: the ending of a live order, its units released. -/
theorem endLive_eq (o : Order) (cause : EndCause) (failed : Nat) (d : Device) :
    d.endLive o cause failed =
      { d.releaseUnits o (o.quantity - o.delivered - failed) with
        conditions := d.conditions.raise .orderEnded
        queue := { orders := changeTag o.tag (Order.close cause) d.queue.orders
                   state := if o.holdAfter then .held else d.queue.state
                   unitPos := if o.state.current then .none else d.queue.unitPos } } := by
  have queue := releaseUnits_frame o (o.quantity - o.delivered - failed) d .queue (by simp)
  have conditions := releaseUnits_frame o (o.quantity - o.delivered - failed) d .conditions (by simp)
  simp only [Device.agrees] at queue conditions
  rw [← queue, ← conditions]
  unfold Device.endLive Device.holdAfter
  dsimp only
  cases o.holdAfter <;> cases o.state.current <;> rfl

theorem endLive_ends (o : Order) (cause : EndCause) (failed : Nat) (d : Device) :
    Ends o cause (o.quantity - o.delivered - failed) d (d.endLive o cause failed) := by
  have frame := releaseUnits_frame o (o.quantity - o.delivered - failed) d
  have lanes := releaseUnits_lane o (o.quantity - o.delivered - failed) d
  have eq := releaseUnits_eq o (o.quantity - o.delivered - failed) d
  have table := updateLane_changed o.lane (fun l => { l with reserved := l.reserved - (o.quantity - o.delivered - failed) }) d
  rw [endLive_eq]
  refine ⟨fun p hp => ?_, rfl, rfl, rfl, lanes, ?_, ?_, rfl⟩
  · have := frame p (fun h => hp (by simp at h ⊢; rcases h with h | h <;> simp [h]))
    cases p <;> first | exact this | simp at hp
  · rw [eq]; exact table
  · rw [eq]; exact ⟨rfl, rfl⟩

/-- Drives that stand the same, one job list and one current order: the unit drives stay in order. -/
theorem unitsSound_of_current {d e : Device} (hd : e.drive = d.drive) (hc : e.queue.current? = d.queue.current?)
    (hp : e.queue.unitPos = d.queue.unitPos) (h : d.unitsSound) : e.unitsSound := by
  obtain ⟨one, pulse, each⟩ := h
  exact ⟨by rw [hd]; exact one, by rw [hd]; exact pulse, by rw [hd, hc, hp]; exact each⟩

/-- Without a unit drive in the drive there is none out of order. -/
theorem unitsSound_of_nil {d e : Device} (hd : e.drive = d.drive) (hn : d.drive.units = []) (h : d.unitsSound) :
    e.unitsSound := by
  refine ⟨by rw [hd]; exact h.1, by rw [hd]; exact h.2.1, ?_⟩
  rw [hd, hn]
  intro job hj
  cases hj

/-- A change of an order that is not current before or after leaves the current order. -/
theorem current?_update {q : OrderQueue} {o : Order} {f : Order → Order} (h : q.sound) (h' : (q.update o.tag f).sound)
    (ho : o ∈ q.orders) (before : o.state.current = false)
    (after : (f o).state.current = false) : (q.update o.tag f).current? = q.current? := by
  cases e : q.current? with
  | some c =>
    obtain ⟨hc, cc⟩ := current?_mem e
    refine current?_of_mem h' (mem_changeTag.mpr (Or.inl ⟨hc, fun et => ?_⟩)) cc
    rw [eq_of_tag h.2.1 hc ho et, before] at cc
    exact absurd cc (by simp)
  | none =>
    cases e' : (q.update o.tag f).current? with
    | none => rfl
    | some c =>
      obtain ⟨hc, cc⟩ := current?_mem e'
      rcases mem_changeTag.mp hc with ⟨hc, -⟩ | ⟨y, hy, ty, rfl⟩
      · exact absurd cc (by simpa using List.find?_eq_none.mp e c hc)
      · rw [eq_of_tag h.2.1 hy ho ty, after] at cc
        exact absurd cc (by simp)

/-- The queue's soundness and its current order rest on the orders alone. -/
theorem sound_of_orders {q r : OrderQueue} (h : r.orders = q.orders) : (r.sound ↔ q.sound) ∧ r.current? = q.current? := by
  simp only [OrderQueue.sound, OrderQueue.current?, h, and_true]

/-- The ending of a live order, whose every owed unit is released, keeps the sale's invariants; a current one has no unit
drive in the drive. -/
theorem ends_sale {x : Option (Fin 64)} {d e : Device} {o : Order} {cause : EndCause}
    (ho : o ∈ d.queue.orders) (live : o.state.live = true) (free : o.state.current = true → d.drive.units = [])
    (h : SaleBut x d) {units : Nat} (hu : units = o.quantity - o.delivered) (hE : Ends o cause units d e) : SaleBut x e := by
  have hq : (d.queue.update o.tag (Order.close cause)).sound :=
    sound_update h.queue ho (fun _ => rfl) fun hc => absurd hc (by simp [close_current])
  have same := sound_of_orders (q := d.queue.update o.tag (Order.close cause)) (r := e.queue) hE.orders
  have drive : e.drive = d.drive := hE.frame .drive (by simp)
  refine ⟨same.1.mpr hq, ?_, ?_⟩
  · by_cases hc : o.state.current = true
    · exact unitsSound_of_nil drive (free hc) h.units
    · refine unitsSound_of_current drive ?_ (by rw [hE.pos, if_neg hc]) h.units
      rw [same.2]
      exact current?_update h.queue hq ho (by simpa using hc) (close_current o cause)
  · refine lanesSoundBut_update h ho hE.orders hE.lanes rfl (fun hl => ?_) fun l hl le => ?_
    · rw [close_live] at hl; exact absurd hl (by simp)
    · have owed : owedBy o.lane o = o.quantity - o.delivered := by simp [owedBy, live]
      have none : owedBy o.lane (o.close cause) = 0 := by simp [owedBy, close_live]
      refine ⟨rfl, Nat.le_refl _, fun hs hx => ?_, ?_⟩
      · have := hs hx; simp only; omega
      · simp only [none]; omega

theorem endOrder_cases (tag : Nat) (cause : EndCause) (d : Device) :
    (d.queue.liveOrder? tag = none ∧ d.endOrder tag cause = d) ∨
    ∃ o, o ∈ d.queue.orders ∧ o.tag = tag ∧ o.state.live = true ∧ d.queue.liveOrder? tag = some o ∧
      Ends o cause (o.quantity - o.delivered) d (d.endOrder tag cause) := by
  unfold Device.endOrder
  cases h : d.queue.liveOrder? tag with
  | none => exact Or.inl ⟨rfl, rfl⟩
  | some o =>
    obtain ⟨ho, ht, hl⟩ := liveOrder?_mem h
    exact Or.inr ⟨o, ho, ht, hl, rfl, endLive_ends o cause 0 d⟩

/-- An order that ends, with no unit drive in the drive while it is the current one. -/
theorem endOrder_sale {x : Option (Fin 64)} {d : Device} (tag : Nat) (cause : EndCause) (h : SaleBut x d)
    (free : ∀ o ∈ d.queue.orders, o.tag = tag → o.state.current = true → d.drive.units = []) :
    SaleBut x (d.endOrder tag cause) := by
  rcases endOrder_cases tag cause d with ⟨-, e⟩ | ⟨o, ho, ht, hl, -, hE⟩
  · rw [e]; exact h
  · exact ends_sale ho hl (free o ho ht) h rfl hE

theorem Ends.frame' {o : Order} {cause : EndCause} {units : Nat} {d e : Device} (h : Ends o cause units d e) :
    d.changesOnly [.conditions, .table, .queue, .credit, .coins] e :=
  changesOnly_mono h.frame (by simp)

theorem endOrder_frame (tag : Nat) (cause : EndCause) (d : Device) :
    d.changesOnly [.conditions, .table, .queue, .credit] (d.endOrder tag cause) := by
  rcases endOrder_cases tag cause d with ⟨-, e⟩ | ⟨o, -, -, -, -, hE⟩
  · rw [e]; exact changesOnly_refl _ d
  · exact hE.frame

theorem endOrder_companions (tag : Nat) (cause : EndCause) (d : Device) (n : Fin 64) :
    ((d.endOrder tag cause).lane? n).map (·.companion) = (d.lane? n).map (·.companion) := by
  rcases endOrder_cases tag cause d with ⟨-, e⟩ | ⟨o, -, -, -, -, hE⟩
  · rw [e]
  · exact companions_updateLane hE.lanes (fun _ => rfl) n

/-! ### A unit that failed, a unit delivered -/

/-- R58: a FAILED unit ends the current order; its units are released, one with the report and the rest at the end. -/
theorem unitFailed_ends {d : Device} {o : Order} {tag : Nat} (cause : EndCause) (h : d.queue.currentWith tag = some o)
    (owes : o.delivered < o.quantity) : Ends o cause (o.quantity - o.delivered) d (d.unitFailed tag cause) := by
  have hE := endLive_ends o cause 1 (d.releaseUnits o 1)
  have lanes := releaseUnits_lane o 1 d
  have table := updateLane_changed o.lane (fun l => { l with reserved := l.reserved - 1 }) d
  have frame := releaseUnits_frame o 1 d
  have eq := releaseUnits_eq o 1 d
  have queue : (d.releaseUnits o 1).queue = d.queue := frame .queue (by simp)
  have conditions : (d.releaseUnits o 1).conditions = d.conditions := frame .conditions (by simp)
  have credit : (d.releaseUnits o 1).credit.balance = d.credit.balance ∧ (d.releaseUnits o 1).credit.committed =
      d.credit.committed - if o.payment = .credit then o.price * 1 else 0 := by rw [eq]; exact ⟨rfl, rfl⟩
  have changed : (d.releaseUnits o 1).table.changed = d.table.changed ∧
      (d.releaseUnits o 1).table.stampCounter = d.table.stampCounter := by rw [eq]; exact table
  simp only [Device.unitFailed, h]
  refine ⟨?_, by rw [← queue]; exact hE.orders, by rw [← queue]; exact hE.pos, by rw [← queue]; exact hE.state,
    fun n => ?_, ?_, ?_, by rw [← conditions]; exact hE.raised⟩
  · exact changesOnly_trans (changesOnly_mono frame (by simp)) hE.frame
  · rw [hE.lanes, lanes]
    split
    · rw [Option.map_map]
      cases d.lane? n <;> simp [Function.comp]
      omega
    · rfl
  · exact ⟨hE.table.1.trans changed.1, hE.table.2.trans changed.2⟩
  · obtain ⟨balance, committed⟩ := hE.credit
    refine ⟨balance.trans credit.1, committed.trans ?_⟩
    rw [credit.2]
    split
    · have : o.quantity - o.delivered = 1 + (o.quantity - o.delivered - 1) := by omega
      rw [this, Nat.mul_add, Nat.add_sub_cancel_left]; omega
    · omega

theorem currentWith_current {q : OrderQueue} {tag : Nat} {o : Order} (h : q.currentWith tag = some o) :
    o ∈ q.orders ∧ o.tag = tag ∧ o.state.current = true ∧ o.state.live = true := by
  obtain ⟨hc, ht⟩ := currentWith_mem h
  obtain ⟨ho, hs⟩ := current?_mem hc
  exact ⟨ho, ht, hs, current_live hs⟩

/-- R58: a FAILED unit, with no unit drive left in the drive. -/
theorem unitFailed_sale {x : Option (Fin 64)} {d : Device} (tag : Nat) (cause : EndCause) (h : SaleBut x d)
    (free : d.drive.units = []) : SaleBut x (d.unitFailed tag cause) := by
  cases hw : d.queue.currentWith tag with
  | none => simp only [Device.unitFailed, hw]; exact h
  | some o =>
    obtain ⟨ho, -, -, live⟩ := currentWith_current hw
    exact ends_sale ho live (fun _ => free) h rfl (unitFailed_ends cause hw (h.lanes.2 o ho live).1)

/-- R57, R60: an order credited with a unit, ended when it was the last. -/
def creditUnit (o : Order) : Order := if o.delivered + 1 = o.quantity then o.credit.close .completed else o.credit

/-- R5: a lane's record after a delivery. -/
def deliverLane (l : Lane) : Lane := { l with stock := l.stock - 1, reserved := l.reserved - 1, sales := bump l.sales }

/-- R57, R60: what a delivered unit of the current order changes. -/
structure Delivers (o : Order) (d e : Device) : Prop where
  frame : d.changesOnly [.conditions, .table, .queue, .credit, .coins] e
  orders : e.queue.orders = changeTag o.tag creditUnit d.queue.orders
  pos : e.queue.unitPos = .none
  state : e.queue.state = if o.delivered + 1 = o.quantity ∧ o.holdAfter then .held else d.queue.state
  lanes : ∀ n, e.lane? n = if n = o.lane then (d.lane? n).map deliverLane else d.lane? n
  table : e.table.changed = d.table.changed ∧ e.table.stampCounter = d.table.stampCounter
  credit : e.credit.balance = d.credit.balance - (if o.payment = .credit then o.price else 0) ∧
    e.credit.committed = d.credit.committed - if o.payment = .credit then o.price else 0

theorem deliverStock_lane (n m : Fin 64) (d : Device) :
    (d.deliverStock n).lane? m = if m = n then (d.lane? m).map deliverLane else d.lane? m := by
  rw [Device.deliverStock, lane?_updateLane]
  split
  next e => rw [e]; rfl
  · rfl

theorem setBalance_frame (n : Nat) (d : Device) : d.changesOnly [.conditions, .credit, .coins] (d.setBalance n) := by
  unfold Device.setBalance
  split
  · exact changesOnly_refl _ d
  · intro p hp; cases p <;> first | rfl | simp at hp

theorem setBalance_credit (n : Nat) (d : Device) :
    (d.setBalance n).credit.balance = n ∧ (d.setBalance n).credit.committed = d.credit.committed := by
  unfold Device.setBalance
  split
  next e => exact ⟨e.symm, rfl⟩
  · exact ⟨rfl, rfl⟩

theorem charge_frame (price : Nat) (d : Device) : d.changesOnly [.conditions, .credit, .coins] (d.charge price) := by
  refine changesOnly_trans ?_ (setBalance_frame _ (d.setCommitted _))
  intro p hp; cases p <;> first | rfl | simp at hp

theorem charge_credit (price : Nat) (d : Device) : (d.charge price).credit.balance = d.credit.balance - price ∧
    (d.charge price).credit.committed = d.credit.committed - price :=
  ⟨(setBalance_credit _ (d.setCommitted _)).1, (setBalance_credit _ (d.setCommitted _)).2⟩

/-- R57, R77: the record credited, the lane's stock delivered and the price charged; the unit position NONE. -/
theorem credited_delivers {d : Device} {o : Order} (e : Device)
    (he : e = Device.setUnitPos .none (if o.payment = .credit then
      Device.charge o.price ((d.updateOrder o.tag Order.credit).deliverStock o.lane)
      else (d.updateOrder o.tag Order.credit).deliverStock o.lane)) :
    d.changesOnly [.conditions, .table, .queue, .credit, .coins] e ∧
    e.queue = { d.queue with orders := changeTag o.tag Order.credit d.queue.orders, unitPos := .none } ∧
    (∀ n, e.lane? n = if n = o.lane then (d.lane? n).map deliverLane else d.lane? n) ∧
    (e.table.changed = d.table.changed ∧ e.table.stampCounter = d.table.stampCounter) ∧
    e.credit.balance = d.credit.balance - (if o.payment = .credit then o.price else 0) ∧
    e.credit.committed = d.credit.committed - if o.payment = .credit then o.price else 0 := by
  generalize hb : (d.updateOrder o.tag Order.credit).deliverStock o.lane = b at he
  have lanes : ∀ n, b.lane? n = if n = o.lane then (d.lane? n).map deliverLane else d.lane? n := fun n => by
    rw [← hb, deliverStock_lane]; rfl
  have beq : b = { d.updateOrder o.tag Order.credit with table := b.table } := by
    rw [← hb, Device.deliverStock, updateLane_eq]
  have table := updateLane_changed o.lane deliverLane (d.updateOrder o.tag Order.credit)
  have table : b.table.changed = d.table.changed ∧ b.table.stampCounter = d.table.stampCounter := hb ▸ table
  have frame : d.changesOnly [.conditions, .table, .queue, .credit, .coins] b := by
    rw [beq]; intro p hp; cases p <;> first | rfl | simp at hp
  have queue : b.queue = { d.queue with orders := changeTag o.tag Order.credit d.queue.orders } := by rw [beq]; rfl
  have credit : b.credit = d.credit := by rw [beq]; rfl
  split at he
  next pays =>
    have cf := charge_frame o.price b
    have ct : (b.charge o.price).table = b.table := cf .table (by simp)
    have cq : (b.charge o.price).queue = b.queue := cf .queue (by simp)
    have cc := charge_credit o.price b
    subst he
    refine ⟨changesOnly_trans (changesOnly_trans frame (changesOnly_mono cf (by simp))) ?_, ?_, fun n => ?_, ?_, ?_⟩
    · intro p hp; cases p <;> first | rfl | simp at hp
    · rw [setUnitPos_queue, cq, queue]
    · rw [← lanes, ← lane?_of_table (d := b) ct]; rfl
    · rw [setUnitPos_table, ct]; exact table
    · rw [setUnitPos_credit, if_pos pays, ← credit]; exact cc
  next pays =>
    subst he
    refine ⟨changesOnly_trans frame ?_, ?_, lanes, table, ?_⟩
    · intro p hp; cases p <;> first | rfl | simp at hp
    · rw [setUnitPos_queue, queue]
    · rw [setUnitPos_credit, if_neg pays, credit]; exact ⟨rfl, rfl⟩

theorem changeTag_congr {tag : Nat} {f g : Order → Order} {orders : List Order}
    (h : ∀ x ∈ orders, x.tag = tag → f x = g x) : changeTag tag f orders = changeTag tag g orders := by
  refine List.map_congr_left fun x hx => ?_
  split
  next e => exact h x hx e
  · rfl

theorem changeTag_changeTag {tag : Nat} {f g : Order → Order} (hf : ∀ x, (f x).tag = x.tag) (orders : List Order) :
    changeTag tag g (changeTag tag f orders) = changeTag tag (g ∘ f) orders := by
  simp only [changeTag, List.map_map]
  refine List.map_congr_left fun x _ => ?_
  simp only [Function.comp]
  by_cases e : x.tag = tag
  · rw [if_pos e, if_pos ((hf x).trans e)]; simp [e]
  · simp [e]

theorem credit_tag (x : Order) : x.credit.tag = x.tag := rfl

theorem tagsDistinct_changeTag {q : OrderQueue} {tag : Nat} {f : Order → Order} (hf : ∀ x, (f x).tag = x.tag)
    (h : tagsDistinct q) : ((changeTag tag f q.orders).map (·.tag)).Nodup := by
  rw [tags_changeTag tag hf]; exact h

/-- R57, R60: a DELIVERED report of the current order. -/
theorem unitDelivered_delivers {d : Device} {o : Order} {tag : Nat} (tags : tagsDistinct d.queue)
    (h : d.queue.currentWith tag = some o) : Delivers o d (d.unitDelivered tag) := by
  obtain ⟨ho, rfl, cur, live⟩ := currentWith_current h
  simp only [Device.unitDelivered, h]
  generalize he : Device.setUnitPos .none _ = e
  obtain ⟨frame, queue, lanes, table, credit⟩ := credited_delivers e he.symm
  have only : ∀ y ∈ d.queue.orders, y.tag = o.tag → y = o := fun y hy ty => eq_of_tag tags hy ho ty
  split
  next done =>
    have mem : o.credit ∈ e.queue.orders := by
      rw [queue]; exact mem_changeTag.mpr (Or.inr ⟨o, ho, rfl, rfl⟩)
    have found : e.queue.liveOrder? o.tag = some o.credit := by
      have tags' : tagsDistinct e.queue := by rw [tagsDistinct, queue]; exact tagsDistinct_changeTag credit_tag tags
      rw [OrderQueue.liveOrder?, ← credit_tag, find?_of_mem tags' mem, Option.filter_some]
      rw [if_pos (by exact live)]
    have hE : Ends o.credit .completed 0 e (e.endOrder o.tag .completed) := by
      have := endLive_ends o.credit .completed 0 e
      rw [show o.credit.quantity - o.credit.delivered - 0 = 0 by simp only [Order.credit]; omega] at this
      simp only [Device.endOrder, found]
      exact this
    refine ⟨changesOnly_trans frame hE.frame', ?_, ?_, ?_, fun n => ?_, ?_, ?_⟩
    · rw [hE.orders, queue, credit_tag, changeTag_changeTag credit_tag]
      refine changeTag_congr fun y hy ty => ?_
      rw [only y hy ty]
      simp [creditUnit, done]
    · rw [hE.pos, queue]; simp
    · rw [hE.state, queue]; simp [done, Order.credit]
    · rw [hE.lanes, lanes]
      have same : o.credit.lane = o.lane := rfl
      rw [same]
      split
      · cases d.lane? n <;> simp
      · rfl
    · exact ⟨hE.table.1.trans table.1, hE.table.2.trans table.2⟩
    · refine ⟨hE.credit.1.trans credit.1, hE.credit.2.trans ?_⟩
      rw [credit.2]; simp
  next more =>
    refine ⟨frame, ?_, by rw [queue], by rw [queue]; simp [more], lanes, table, credit⟩
    rw [queue]
    refine changeTag_congr fun y hy ty => ?_
    rw [only y hy ty]
    simp [creditUnit, more]

theorem creditUnit_tag (x : Order) : (creditUnit x).tag = x.tag := by
  unfold creditUnit; split <;> rfl

/-- R57: a delivered unit keeps the sale's invariants, with no unit drive left in the drive. -/
theorem delivers_sale {x : Option (Fin 64)} {d e : Device} {o : Order} (h : SaleBut x d) (free : d.drive.units = [])
    (ho : o ∈ d.queue.orders) (cur : o.state.current = true) (hD : Delivers o d e) : SaleBut x e := by
  have live := current_live cur
  obtain ⟨owes, -⟩ := h.lanes.2 o ho live
  have hq : (d.queue.update o.tag creditUnit).sound := sound_update h.queue ho creditUnit_tag fun _ => Or.inr cur
  have same := sound_of_orders (q := d.queue.update o.tag creditUnit) (r := e.queue) hD.orders
  refine ⟨same.1.mpr hq, unitsSound_of_nil (hD.frame .drive (by simp)) free h.units, ?_⟩
  have less : owedBy o.lane (creditUnit o) = o.quantity - o.delivered - 1 := by
    unfold creditUnit
    split
    next done => simp only [owedBy, close_live, Bool.false_and, Bool.false_eq_true, if_false]; omega
    · simp [owedBy, Order.credit, live]; omega
  have owed : owedBy o.lane o = o.quantity - o.delivered := by simp [owedBy, live]
  refine lanesSoundBut_update h ho hD.orders hD.lanes ?_ (fun hl => ?_) fun l hl le => ?_
  · unfold creditUnit; split <;> rfl
  · refine ⟨?_, live⟩
    unfold creditUnit at hl ⊢
    split at hl
    · rw [close_live] at hl; exact absurd hl (by simp)
    next more => rw [if_neg more]; simp only [Order.credit]; omega
  · refine ⟨rfl, Nat.sub_le _ _, fun hs hx => ?_, ?_⟩
    · have := hs hx; simp only [deliverLane]; omega
    · simp only [deliverLane, less, owed] at le ⊢; omega

theorem unitDelivered_sale {x : Option (Fin 64)} {d : Device} (tag : Nat) (h : SaleBut x d) (free : d.drive.units = []) :
    SaleBut x (d.unitDelivered tag) := by
  cases hw : d.queue.currentWith tag with
  | none => simp only [Device.unitDelivered, hw]; exact h
  | some o =>
    obtain ⟨ho, -, cur, -⟩ := currentWith_current hw
    exact delivers_sale h free ho cur (unitDelivered_delivers h.tags hw)

end Sys2Proof.Proofs
end

section
/-! SUPPORT. What the end of an event can do, said once as steps: money asked back, a plan made, a claim made or granted,
a listed job refused, discarded or taken, the head started, a unit posted. -/
namespace Sys2Proof.Proofs

open Sys2Proof.Machine Sys2Proof.Laws

-- One proof at a time: together they wait for the kernel in a thread each, and the memory limit is met.
set_option Elab.async false

/-- R24: the records with another job list. -/
def withJobs (jobs : List Job) (d : Device) : Device := { d with drive := { d.drive with jobs := jobs } }

/-- R24, R25: a job taken from the list is active, its claim among the waiters. -/
def tookJob (job : Job) (rest : List Job) (l : Lane) (units : Nat) (d : Device) : Device :=
  { d with drive := { d.drive with jobs := rest, active := some (newJob job l) }
           load := { d.load with waiters := d.load.waiters ++ [driveClaim units job] } }

/-- R55: the head becomes the current order. -/
def drives (o : Order) : Order := { o with state := .driving }

/-- R56: a unit of the current order is listed. -/
def postUnit (o : Order) (d : Device) : Device :=
  Device.setUnitPos .posted (withJobs (d.drive.jobs ++ [.unitDrive o.lane o.tag]) d)

/-- One step of what follows the endings of an event. -/
inductive SaleStep (d : Device) : Device → Prop
  | money {e : Device} (frame : d.changesOnly [.conditions, .credit, .coins] e)
      (balance : e.credit.balance = d.credit.balance) (committed : e.credit.committed = d.credit.committed)
      (raised : ∀ c, d.conditions.has c = true → e.conditions.has c = true) : SaleStep d e
  | plan (kind : PlanKind) (req : Requested) (lines : List (Fin 6 × Nat)) (idle : d.payout.idle = true)
      (fits : planFits d lines) : SaleStep d (planned kind req lines d)
  | wait : SaleStep d { d with load := { d.load with waiters := d.load.waiters ++ [payoutClaim] } }
  | grant {c : Claim} {rest : List Claim} (hw : d.load.waiters = c :: rest) : SaleStep d (granted d c rest)
  | refuse {n : Fin 64} {tag : Nat} {rest : List Job} (cause : EndCause) (idle : d.drive.active = none)
      (hj : d.drive.jobs = .unitDrive n tag :: rest) : SaleStep d ((withJobs rest d).endOrder tag cause)
  | discard {n : Fin 64} {rest : List Job} (idle : d.drive.active = none) (hj : d.drive.jobs = .fitCheck n :: rest) :
      SaleStep d (withJobs rest d)
  | take {job : Job} {rest : List Job} (l : Lane) (units : Nat) (idle : d.drive.active = none)
      (hj : d.drive.jobs = job :: rest) : SaleStep d (tookJob job rest l units d)
  | head {o : Order} (idle : d.queue.current? = none) (hh : d.queue.head? = some o) : SaleStep d (d.updateOrder o.tag drives)
  | unit {o : Order} (hc : d.queue.current? = some o) (driving : o.state = .driving) (pos : d.queue.unitPos = .none) :
      SaleStep d (postUnit o d)

/-- What follows the endings of an event. -/
abbrev SaleSteps : Device → Device → Prop := Relation.ReflTransGen SaleStep

theorem SaleSteps.refl (d : Device) : SaleSteps d d := Relation.ReflTransGen.refl
theorem SaleSteps.trans {a b c : Device} (h : SaleSteps a b) (k : SaleSteps b c) : SaleSteps a c :=
  Relation.ReflTransGen.trans h k
theorem SaleStep.one {a b : Device} (h : SaleStep a b) : SaleSteps a b := Relation.ReflTransGen.single h

/-- What every step keeps, the steps keep. -/
theorem saleSteps_induct {R : Device → Device → Prop} (refl : ∀ d, R d d) (trans : ∀ {a b c}, R a b → R b c → R a c)
    (step : ∀ {a b}, SaleStep a b → R a b) {d e : Device} (h : SaleSteps d e) : R d e := by
  induction h with
  | refl => exact refl d
  | tail _ s ih => exact trans ih (step s)

/-! ### Which operations are such steps -/

theorem grantTest_steps (d : Device) : SaleSteps d d.grantTest :=
  grantLoop_induct SaleSteps.refl SaleSteps.trans (fun hw _ _ => (SaleStep.grant hw).one) _ d

theorem has_raise (c k : Condition) (s : Conditions) (h : s.has c = true) : (s.raise k).has c = true := by
  simp only [Conditions.has, Conditions.raise, BitVec.getLsbD_or, Bool.or_eq_true] at h ⊢
  exact Or.inl h

theorem raise_steps (c : Condition) (d : Device) : SaleSteps d (d.raise c) :=
  (SaleStep.money (d := d) (e := d.raise c) (fun p hp => by cases p <;> first | rfl | simp at hp) rfl rfl
    fun k hk => has_raise k c _ hk).one

theorem recomputeMask_steps (d : Device) : SaleSteps d d.recomputeMask :=
  (SaleStep.money (d := d) (e := d.recomputeMask) (fun p hp => by cases p <;> first | rfl | simp at hp) rfl rfl
    fun _ hk => hk).one

theorem markRefund_steps (k : RefundPending) (d : Device) : SaleSteps d (d.markRefund k) := by
  unfold Device.markRefund
  split
  · exact SaleSteps.refl d
  · exact (SaleStep.money (d := d) (e := { d with credit := { d.credit with pending := k } })
      (fun p hp => by cases p <;> first | rfl | simp at hp) rfl rfl fun _ hc => hc).one.trans (raise_steps _ _)

theorem makePlan_steps {d : Device} {lines : List (Fin 6 × Nat)} (kind : PlanKind) (req : Requested)
    (idle : d.payout.idle = true) (fits : planFits d lines) : SaleSteps d (d.makePlan kind req lines) := by
  refine (SaleStep.plan kind req lines idle fits).one.trans ?_
  simp only [Device.makePlan]
  split
  · exact raise_steps _ _
  · exact (SaleStep.wait.one.trans (grantTest_steps _)).trans (recomputeMask_steps _)

theorem servePayback_steps (d : Device) : SaleSteps d d.servePayback := by
  unfold Device.servePayback
  split
  · exact SaleSteps.refl d
  split
  next still =>
    refine (markRefund_steps .no d).trans ?_
    dsimp only
    split
    · exact SaleSteps.refl _
    · exact makePlan_steps _ _ (by rw [markRefund_payout]; exact moneyStill_idle still) (changePlan_fits _ _ _)
  · exact SaleSteps.refl d

theorem askPayback_steps (k : RefundPending) (d : Device) : SaleSteps d (d.askPayback k) :=
  (markRefund_steps _ d).trans (servePayback_steps _)

theorem startUnit_steps (d : Device) : SaleSteps d d.startUnit := by
  unfold Device.startUnit
  split
  · exact SaleSteps.refl d
  next o hc =>
    split
    next h =>
      simp only [Bool.and_eq_true, decide_eq_true_eq] at h
      exact (SaleStep.unit hc h.1.1.1 h.1.1.2).one
    · exact SaleSteps.refl d

theorem startHead_steps (d : Device) : SaleSteps d d.startHead := by
  unfold Device.startHead
  split
  next o hc hh =>
    split
    · exact (SaleStep.head hc hh).one.trans (startUnit_steps _)
    · exact SaleSteps.refl d
  · exact SaleSteps.refl d

theorem afterEndings_steps (q0 : OrderQueue) (asked : Bool) (d : Device) : SaleSteps d (d.afterEndings q0 asked).1 := by
  unfold Device.afterEndings
  split
  · exact SaleSteps.refl d
  split
  · exact (askPayback_steps _ d).trans (startHead_steps _)
  · exact startHead_steps d

theorem takeJob_steps {d : Device} {job : Job} {rest : List Job} (idle : d.drive.active = none)
    (hj : d.drive.jobs = job :: rest) : SaleSteps d (Device.takeJob job (withJobs rest d)) := by
  cases job with
  | fitCheck n =>
    simp only [Device.takeJob]
    split
    · exact (SaleStep.discard idle hj).one
    next l hl =>
      split
      · exact (SaleStep.take l 1 idle hj).one.trans (grantTest_steps _)
      · exact (SaleStep.discard idle hj).one
  | unitDrive n tag =>
    simp only [Device.takeJob]
    split
    next r _ => exact (SaleStep.refuse r.cause idle hj).one
    next refusal =>
      split
      next vacant => simp [Device.unitRefusal, vacant] at refusal
      next l hl => exact (SaleStep.take l _ idle hj).one.trans (grantTest_steps _)

theorem takeLoop_steps (q0 : OrderQueue) (fuel : Nat) : ∀ (asked : Bool) (d : Device),
    SaleSteps d (d.takeLoop q0 fuel asked) := by
  induction fuel with
  | zero => exact fun _ d => SaleSteps.refl d
  | succ fuel ih =>
    intro asked d
    simp only [Device.takeLoop]
    split
    next job rest idle hj =>
      have taken : SaleSteps d (Device.takeJob job { d with drive := { d.drive with jobs := rest } }) :=
        takeJob_steps idle hj
      split
      · exact taken.trans (ih _ _)
      · exact (taken.trans (afterEndings_steps q0 asked _)).trans (ih _ _)
    · exact SaleSteps.refl d

theorem takeFrom_steps (q0 : OrderQueue) (d : Device) : SaleSteps d (d.takeFrom q0) := takeLoop_steps _ _ _ _

theorem conclude_steps (q0 : OrderQueue) (d : Device) : SaleSteps d (d.conclude q0) :=
  (afterEndings_steps q0 false d).trans (takeLoop_steps _ _ _ _)

/-! ### The steps keep every invariant -/

theorem saleBut_of_parts {d e : Device} (sale : d.driveClaims → SaleBut none d → SaleBut none e)
    (hc : d.driveClaims) (q : d.queue.sound) (u : d.unitsSound) (l : d.lanesSound) :
    e.queue.sound ∧ e.unitsSound ∧ e.lanesSound := by
  obtain ⟨q', u', l'⟩ := sale hc ⟨q, u, lanesSoundBut_none.mpr l⟩
  exact ⟨q', u', lanesSoundBut_none.mp l'⟩

/-- The unit drives of a drive with no active job are those listed. -/
theorem units_idle {v : Drive} (h : v.active = none) : v.units = v.jobs.filter (·.tag?.isSome) := by
  simp [Drive.units, h]

/-- Without a drive claim a change of the drive alone keeps the drive's invariants. -/
theorem keeps_of_jobs {d : Device} {jobs : List Job}
    (sale : d.driveClaims → SaleBut none d → SaleBut none (withJobs jobs d)) : Holds d (withJobs jobs d) where
  list no := no.elim
  claims h := h
  matrix _ := id
  rest _ h r := ⟨h, r⟩
  tubes _ := id
  motors := id
  sale := saleBut_of_parts sale

/-- With no active job the popped list's unit drives are among those there were. -/
theorem pop_sale {x : Option (Fin 64)} {d : Device} {job : Job} {rest : List Job} (idle : d.drive.active = none)
    (hj : d.drive.jobs = job :: rest) (h : SaleBut x d) : SaleBut x (withJobs rest d) := by
  obtain ⟨one, -, each⟩ := h.units
  rw [units_idle idle, hj] at one each
  have units : (withJobs rest d).drive.units = rest.filter (·.tag?.isSome) := units_idle idle
  refine ⟨h.queue, ⟨?_, fun j hj' => absurd (idle.symm.trans hj') (by simp), ?_⟩, h.lanes⟩
  · rw [units]
    exact ((List.sublist_cons_self job rest).filter _).length_le.trans one
  · rw [units]
    exact fun y hy => each y (((List.sublist_cons_self job rest).filter _).subset hy)

/-- A popped unit drive was the only one. -/
theorem pop_unit_units {d : Device} {n : Fin 64} {tag : Nat} {rest : List Job} (idle : d.drive.active = none)
    (hj : d.drive.jobs = .unitDrive n tag :: rest) (h : d.unitsSound) : (withJobs rest d).drive.units = [] := by
  have one := h.1
  rw [units_idle idle, hj] at one
  rw [units_idle (v := (withJobs rest d).drive) idle]
  rw [List.filter_cons_of_pos (by rfl), List.length_cons] at one
  exact List.length_eq_zero_iff.mp (Nat.le_zero.mp (Nat.le_of_succ_le_succ one))

theorem refuse_keeps {d : Device} {n : Fin 64} {tag : Nat} {rest : List Job} (cause : EndCause)
    (idle : d.drive.active = none) (hj : d.drive.jobs = .unitDrive n tag :: rest) :
    Holds d ((withJobs rest d).endOrder tag cause) := by
  have popped : Holds d (withJobs rest d) := keeps_of_jobs fun _ => pop_sale idle hj
  have ended := changesOnly_mono (endOrder_frame tag cause (withJobs rest d))
    (qs := [.conditions, .table, .queue, .credit, .coins]) (by simp)
  have drive : ((withJobs rest d).endOrder tag cause).drive = (withJobs rest d).drive := ended .drive (by simp)
  have load : ((withJobs rest d).endOrder tag cause).load = d.load := ended .load (by simp)
  have payout : ((withJobs rest d).endOrder tag cause).payout = d.payout := ended .payout (by simp)
  have compressor : ((withJobs rest d).endOrder tag cause).compressor = d.compressor := ended .compressor (by simp)
  exact {
    list := fun no => no.elim
    claims := fun h => driveClaims_of_core (d := withJobs rest d) (by rw [drive]) (by rw [load]; rfl) (by rw [load]; rfl) h
    matrix := fun _ h => matrixSound_of_core (d := withJobs rest d) (by rw [drive]) h
    rest := fun _ hc hr => ⟨compressorClaims_of_core (by rw [compressor]) (by rw [load]) (by rw [load]) hc,
      by rw [compressor]; exact hr⟩
    tubes := fun _ => by rw [payout]; exact id
    motors := motorsSound_of_companions fun m => endOrder_companions tag cause (withJobs rest d) m
    sale := saleBut_of_parts fun _ h =>
      endOrder_sale tag cause (pop_sale idle hj h) fun _ _ _ _ => pop_unit_units idle hj h.units }

/-- With no active job the drive has no claim. -/
theorem no_driveClaim {d : Device} (h : d.driveClaims) (idle : d.drive.active = none) : d.load.claimsOf .drive = 0 := by
  rw [LoadBudget.claimsOf, List.length_eq_zero_iff, List.filter_eq_nil_iff]
  intro c hc e
  have e : c.who = .drive := by simpa using e
  rcases List.mem_append.mp hc with m | m
  · obtain ⟨j, hj, -⟩ := h.2.2 c m e
    exact absurd (idle.symm.trans hj) (by simp)
  · obtain ⟨j, hj, -⟩ := h.2.1 c m e
    exact absurd (idle.symm.trans hj) (by simp)

/-- A drive without a claim whose active job joins the waiters in WAIT_LOAD has one claim, in order. -/
theorem driveClaims_join {d e : Device} {c : Claim} {j : ActiveJob} (none : d.load.claimsOf .drive = 0)
    (hw : e.load.waiters = d.load.waiters ++ [c]) (hg : e.load.grants = d.load.grants) (who : c.who = .drive)
    (hj : e.drive.active = some j) (wait : j.phase = .waitLoad) : e.driveClaims := by
  have absent : ∀ x ∈ d.load.grants ++ d.load.waiters, x.who ≠ .drive := by
    rw [LoadBudget.claimsOf, List.length_eq_zero_iff, List.filter_eq_nil_iff] at none
    exact fun x hx e => none x hx (by simpa using e)
  refine ⟨?_, fun _ _ _ => ⟨j, hj, wait⟩, fun x hx e => ?_⟩
  · simp only [LoadBudget.claimsOf] at none ⊢
    rw [hw, hg, ← List.append_assoc, List.filter_append, List.length_append, none]
    simp [who]
  · rw [hg] at hx
    exact absurd e (absent x (List.mem_append_left _ hx))

theorem take_keeps {d : Device} {job : Job} {rest : List Job} (l : Lane) (units : Nat) (idle : d.drive.active = none)
    (hj : d.drive.jobs = job :: rest) : Holds d (tookJob job rest l units d) where
  list no := no.elim
  claims h := driveClaims_join (no_driveClaim h idle) rfl rfl rfl rfl rfl
  matrix _ h := by
    refine ⟨h.1, fun n hn => ?_⟩
    obtain ⟨j, hj, -⟩ := h.2 n hn
    exact absurd (idle.symm.trans hj) (by simp)
  rest _ hc hr := ⟨compressorClaims_of_sub (d := d) rfl (claimsSub_join d.load (by simp [driveClaim])) hc, hr⟩
  tubes _ := id
  motors := id
  sale := saleBut_of_parts fun _ h => by
    obtain ⟨one, -, each⟩ := h.units
    have same : (tookJob job rest l units d).drive.units = d.drive.units := by
      rw [units_idle idle, hj, Drive.units, tookJob, Option.filter_some, if_pos (by rfl)]
      rfl
    refine ⟨h.queue, ⟨by rw [same]; exact one, ?_, ?_⟩, h.lanes⟩
    · intro j hj' pulse
      obtain rfl : newJob job l = j := Option.some.inj hj'
      simp [newJob] at pulse
    · rw [same]
      intro y hy
      obtain ⟨o, ho, jo, pos, st⟩ := each y hy
      refine ⟨o, ho, jo, pos, Or.inl (st.resolve_right ?_)⟩
      rintro ⟨j, hj', -⟩
      exact absurd (idle.symm.trans hj') (by simp)

/-- With no current order, or no unit under way, there is no unit drive. -/
theorem units_nil_of_current {d : Device} (h : d.unitsSound)
    (hn : d.queue.current? = none ∨ d.queue.unitPos = .none) : d.drive.units = [] := by
  refine List.eq_nil_iff_forall_not_mem.mpr fun job hj => ?_
  obtain ⟨o, ho, -, pos, -⟩ := h.2.2 job hj
  rcases hn with hn | hn
  · exact absurd (hn.symm.trans ho) (by simp)
  · exact pos hn

theorem head_keeps {d : Device} {o : Order} (idle : d.queue.current? = none) (hh : d.queue.head? = some o) :
    Keeps d (d.updateOrder o.tag drives) := by
  obtain ⟨ho, queued⟩ := head?_mem hh
  refine keeps_of_sale (fun p hp => by cases p <;> first | rfl | simp at hp) (fun _ => rfl) fun _ h => ⟨?_, ?_, ?_⟩
  · exact sound_update h.queue ho (fun _ => rfl) fun _ => Or.inl idle
  · exact unitsSound_of_nil (d := d) rfl (units_nil_of_current h.units (Or.inl idle)) h.units
  · have lanes (n : Fin 64) : (d.updateOrder o.tag drives).lane? n = if n = o.lane then (d.lane? n).map id else d.lane? n := by
      simp only [Option.map_id_fun, id_eq, ite_self]
      rfl
    refine lanesSoundBut_update (g := id) h ho rfl lanes rfl (fun _ => ?_) fun l _ _ => ?_
    · have live : o.state.live = true := by rw [queued]; rfl
      exact ⟨(h.lanes.2 o ho live).1, live⟩
    · refine ⟨rfl, Nat.le_refl _, id, ?_⟩
      simp [owedBy, drives, queued, OrderState.live]

theorem unit_keeps {d : Device} {o : Order} (hc : d.queue.current? = some o) (driving : o.state = .driving)
    (pos : d.queue.unitPos = .none) : Holds d (postUnit o d) where
  list no := no.elim
  claims h := h
  matrix _ h := h
  rest _ hc hr := ⟨hc, hr⟩
  tubes _ := id
  motors := id
  sale := saleBut_of_parts fun _ h => by
    have nil := units_nil_of_current h.units (Or.inr pos)
    have units : (postUnit o d).drive.units = [.unitDrive o.lane o.tag] := by
      have : (postUnit o d).drive.units = d.drive.units ++ [.unitDrive o.lane o.tag] := by
        simp only [Drive.units, postUnit, withJobs, setUnitPos_drive, List.filter_append, List.append_assoc]
        rfl
      rw [this, nil]; rfl
    refine ⟨h.queue, ⟨by rw [units]; simp, h.units.2.1, ?_⟩, h.lanes⟩
    rw [units]
    intro job hj
    exact ⟨o, hc, List.mem_singleton.mp hj, by simp [postUnit], Or.inl driving⟩

/-- What follows the endings of an event keeps every invariant, but that the list is still to be taken from. -/
theorem saleSteps_holds {d e : Device} (h : SaleSteps d e) : Holds d e := by
  refine saleSteps_induct Holds.refl Holds.trans (fun {a b} s => ?_) h
  cases s with
  | money frame => exact (Quiet.of_frame frame (by simp)).keeps.holds
  | plan kind req lines idle fits => exact (planned_quiet kind req idle fits).keeps.holds
  | wait =>
    exact (keeps_of_load (claimsSub_join _ (by simp [payoutClaim])) (claimsSub_join _ (by simp [payoutClaim]))).holds
  | grant hw => exact (granted_keeps hw).holds
  | refuse cause idle hj => exact refuse_keeps cause idle hj
  | discard idle hj => exact keeps_of_jobs fun _ => pop_sale idle hj
  | take l units idle hj => exact take_keeps l units idle hj
  | head idle hh => exact (head_keeps idle hh).holds
  | unit hc driving pos => exact unit_keeps hc driving pos

theorem startUnit_holds (d : Device) : Holds d d.startUnit := saleSteps_holds (startUnit_steps d)
theorem startHead_holds (d : Device) : Holds d d.startHead := saleSteps_holds (startHead_steps d)

/-! ### The list is taken from to its end -/

/-- R46: the number of QUEUED orders. -/
def OrderQueue.waiting (q : OrderQueue) : Nat := q.orders.countP (·.state = .queued)

/-- What the taking of jobs may still go through: each listed job, and a unit for each QUEUED order that may start. -/
def workLeft (d : Device) : Nat := d.drive.jobs.length + OrderQueue.waiting d.queue

/-- A change of one tag's orders that makes none QUEUED leaves no more of them. -/
theorem waiting_changeTag {orders : List Order} {tag : Nat} {f : Order → Order}
    (h : ∀ o ∈ orders, o.tag = tag → (f o).state = .queued → o.state = .queued) :
    (changeTag tag f orders).countP (·.state = .queued) ≤ orders.countP (·.state = .queued) := by
  rw [changeTag, List.countP_map]
  refine List.countP_mono_left fun o ho => ?_
  simp only [Function.comp, decide_eq_true_eq]
  split
  next e => exact h o ho e
  · exact id

/-- The start of a QUEUED order leaves fewer of them. -/
theorem waiting_drives {orders : List Order} {o : Order} (ho : o ∈ orders) (queued : o.state = .queued) :
    (changeTag o.tag drives orders).countP (·.state = .queued) < orders.countP (·.state = .queued) := by
  induction orders with
  | nil => cases ho
  | cons x rest ih =>
    have never (y : Order) : decide ((drives y).state = .queued) = false := rfl
    have fewer : (changeTag o.tag drives rest).countP (·.state = .queued) ≤ rest.countP (·.state = .queued) :=
      waiting_changeTag fun y _ _ h => absurd h (by simp [drives])
    rw [changeTag] at fewer ih ⊢
    rcases List.mem_cons.1 ho with rfl | ho
    · rw [List.map_cons, if_pos rfl, List.countP_cons, List.countP_cons, never, if_neg (by simp), if_pos (by simp [queued])]
      omega
    · have := ih ho
      rw [List.map_cons, List.countP_cons, List.countP_cons]
      split
      next e => rw [never, if_neg (by simp)]; split <;> omega
      · omega

theorem startUnit_work (d : Device) : workLeft d.startUnit ≤ workLeft d + 1 ∧ d.startUnit.drive.active = d.drive.active := by
  unfold Device.startUnit
  split
  · exact ⟨Nat.le_succ _, rfl⟩
  · split
    · refine ⟨Nat.le_of_eq ?_, rfl⟩
      simp only [workLeft, setUnitPos_drive, setUnitPos_queue, List.length_append, List.length_singleton]
      show _ + 1 + OrderQueue.waiting d.queue = _
      omega
    · exact ⟨Nat.le_succ _, rfl⟩

theorem startHead_work (d : Device) : workLeft d.startHead ≤ workLeft d ∧ d.startHead.drive.active = d.drive.active := by
  unfold Device.startHead
  split
  next o _ hh =>
    split
    · obtain ⟨ho, queued⟩ := head?_mem hh
      obtain ⟨more, active⟩ := startUnit_work (d.updateOrder o.tag drives)
      have fewer : workLeft (d.updateOrder o.tag drives) < workLeft d :=
        Nat.add_lt_add_left (waiting_drives ho queued) d.drive.jobs.length
      exact ⟨more.trans fewer, active⟩
    · exact ⟨Nat.le_refl _, rfl⟩
  · exact ⟨Nat.le_refl _, rfl⟩

/-- What the money's movements leave: the queue, the lanes, what is committed, and a drive with no active job. -/
structure Idles (d e : Device) : Prop where
  queue : e.queue = d.queue := by rfl
  table : e.table = d.table := by rfl
  committed : e.credit.committed = d.credit.committed := by rfl
  drive : d.drive.active = none → e.drive = d.drive := by exact fun _ => rfl

theorem Idles.refl (d : Device) : Idles d d := {}

theorem Idles.trans {a b c : Device} (h : Idles a b) (k : Idles b c) : Idles a c where
  queue := k.queue.trans h.queue
  table := k.table.trans h.table
  committed := k.committed.trans h.committed
  drive idle := (k.drive (by rw [h.drive idle]; exact idle)).trans (h.drive idle)

theorem granted_idles {d : Device} {c : Claim} {rest : List Claim} : Idles d (granted d c rest) where
  queue := granted_queue
  table := granted_table
  committed := congrArg Credit.committed (onGrant_frame c.who { d with load := d.load.grantHead c rest } .credit (by simp))
  drive idle := by
    by_cases hc : c.who = .drive
    · simp only [granted, hc, Device.onGrant]
      rw [driveGranted_none (by exact idle)]
    · exact onGrant_drive hc _

theorem grantTest_idles (d : Device) : Idles d d.grantTest :=
  grantLoop_induct Idles.refl Idles.trans (fun _ _ _ => granted_idles) _ d

theorem markRefund_idles (k : RefundPending) (d : Device) : Idles d (d.markRefund k) := by
  unfold Device.markRefund
  split
  · exact Idles.refl d
  · exact {}

theorem makePlan_idles (kind : PlanKind) (req : Requested) (lines : List (Fin 6 × Nat)) (d : Device) :
    Idles d (d.makePlan kind req lines) := by
  have made : Idles d (planned kind req lines d) := by
    rw [planned_eq]
    exact {}
  refine made.trans ?_
  simp only [Device.makePlan]
  split
  · exact {}
  · have waits (e : Device) : Idles e { e with load := { e.load with waiters := e.load.waiters ++ [payoutClaim] } } := {}
    have masked (e : Device) : Idles e e.recomputeMask := {}
    exact ((waits _).trans (grantTest_idles _)).trans (masked _)

theorem servePayback_idles (d : Device) : Idles d d.servePayback := by
  unfold Device.servePayback
  split
  · exact Idles.refl d
  split
  · refine (markRefund_idles .no d).trans ?_
    dsimp only
    split
    · exact Idles.refl _
    · exact makePlan_idles _ _ _ _
  · exact Idles.refl d

theorem askPayback_idles (k : RefundPending) (d : Device) : Idles d (d.askPayback k) :=
  (markRefund_idles _ d).trans (servePayback_idles _)

/-- What follows the endings of a round leaves a drive with no active job, and no more work. -/
theorem afterEndings_work (q0 : OrderQueue) (asked : Bool) {d : Device} (idle : d.drive.active = none) :
    workLeft (d.afterEndings q0 asked).1 ≤ workLeft d ∧ (d.afterEndings q0 asked).1.drive.active = none := by
  unfold Device.afterEndings
  split
  · exact ⟨Nat.le_refl _, idle⟩
  split
  · obtain ⟨queue, -, -, drive⟩ := askPayback_idles .change d
    obtain ⟨less, active⟩ := startHead_work (d.askPayback .change)
    have same : workLeft (d.askPayback .change) = workLeft d := by rw [workLeft, workLeft, queue, drive idle]
    exact ⟨less.trans (Nat.le_of_eq same), active.trans (by rw [drive idle]; exact idle)⟩
  · obtain ⟨less, active⟩ := startHead_work d
    exact ⟨less, active.trans idle⟩

theorem grantTest_active {d : Device} (h : d.drive.active.isSome = true) : d.grantTest.drive.active.isSome = true := by
  refine grantLoop_induct (R := fun d e => d.drive.active.isSome = true → e.drive.active.isSome = true) (fun _ => id)
    (fun f g => g ∘ f) (fun {d c rest} _ _ _ h => ?_) _ d h
  obtain ⟨j, hj⟩ := Option.isSome_iff_exists.1 h
  by_cases hc : c.who = .drive
  · obtain ⟨k, hk, -⟩ := driveGranted_some (d := { d with load := d.load.grantHead c rest }) hj
    simp only [granted, hc, Device.onGrant, hk, Option.isSome_some]
  · rw [granted, onGrant_drive hc]
    exact h

theorem endOrder_waiting (tag : Nat) (cause : EndCause) (d : Device) :
    OrderQueue.waiting (d.endOrder tag cause).queue ≤ OrderQueue.waiting d.queue := by
  rcases endOrder_cases tag cause d with ⟨-, e⟩ | ⟨o, -, -, -, -, hE⟩
  · rw [e]
  · rw [OrderQueue.waiting, hE.orders]
    refine waiting_changeTag fun x _ _ closed => ?_
    have ended := close_live x cause
    rw [closed] at ended
    exact absurd ended (by simp [OrderState.live])

/-- A job taken from the list is active, or gone with no more work than before. -/
theorem takeJob_work {d : Device} {job : Job} {rest : List Job} (idle : d.drive.active = none)
    (hj : d.drive.jobs = job :: rest) :
    (Device.takeJob job (withJobs rest d)).drive.active.isSome = true ∨
      ((Device.takeJob job (withJobs rest d)).drive.active = none ∧
        workLeft (Device.takeJob job (withJobs rest d)) < workLeft d) := by
  have popped : workLeft (withJobs rest d) < workLeft d := by
    rw [workLeft, workLeft, hj, List.length_cons]
    show rest.length + OrderQueue.waiting d.queue < _
    omega
  have active (l : Lane) (units : Nat) : ((withJobs rest d).activate job l units).drive.active.isSome = true :=
    grantTest_active rfl
  cases job with
  | fitCheck n =>
    simp only [Device.takeJob]
    split
    · exact Or.inr ⟨idle, popped⟩
    · split
      · exact Or.inl (active _ _)
      · exact Or.inr ⟨idle, popped⟩
  | unitDrive n tag =>
    simp only [Device.takeJob]
    split
    next r _ =>
      have drive : ((withJobs rest d).endOrder tag r.cause).drive = (withJobs rest d).drive :=
        endOrder_frame tag r.cause (withJobs rest d) .drive (by simp)
      refine Or.inr ⟨by rw [drive]; exact idle, Nat.lt_of_le_of_lt ?_ popped⟩
      rw [workLeft, drive]
      exact Nat.add_le_add_left (endOrder_waiting tag _ _) _
    · split
      · exact Or.inr ⟨idle, popped⟩
      · exact Or.inl (active _ _)

/-- R24: with rounds for all the work, the list is taken from until a job is active or none is listed. -/
theorem takeLoop_list (q0 : OrderQueue) (fuel : Nat) : ∀ (asked : Bool) (d : Device), workLeft d < fuel →
    (d.takeLoop q0 fuel asked).drive.listSound := by
  induction fuel with
  | zero => exact fun _ _ h => absurd h (Nat.not_lt_zero _)
  | succ fuel ih =>
    intro asked d enough
    simp only [Device.takeLoop]
    split
    next job rest idle hj =>
      rcases takeJob_work idle hj with active | ⟨stillIdle, less⟩
      · rw [if_pos (by exact active)]
        obtain ⟨k, hk⟩ := Option.isSome_iff_exists.1 active
        have same := congrArg (·.drive.active) (takeLoop_active hk q0 asked fuel)
        exact fun none => absurd ((same.symm.trans none).symm.trans hk) (by simp)
      · have idle' : ¬ (Device.takeJob job (withJobs rest d)).drive.active.isSome = true := by simp [stillIdle]
        rw [if_neg (by exact idle')]
        obtain ⟨same, -⟩ := afterEndings_work q0 asked stillIdle
        exact ih _ _ (Nat.lt_of_le_of_lt same (Nat.lt_of_lt_of_le less (Nat.le_of_lt_succ enough)))
    next other =>
      intro idle
      cases hj : d.drive.jobs with
      | nil => rfl
      | cons job rest => exact absurd hj (other job rest idle)

theorem workLeft_lt_takeFuel (d : Device) : workLeft d < d.takeFuel :=
  Nat.lt_succ_of_le (Nat.add_le_add_left List.countP_le_length _)

theorem takeFrom_list (q0 : OrderQueue) (d : Device) : (d.takeFrom q0).drive.listSound :=
  takeLoop_list q0 _ false d (workLeft_lt_takeFuel d)

theorem conclude_list (q0 : OrderQueue) (d : Device) : (d.conclude q0).drive.listSound :=
  takeLoop_list q0 _ _ _ (workLeft_lt_takeFuel _)

/-- The list taken from keeps every invariant. -/
theorem KeepsIf.takeFrom {R : Prop} {d m : Device} (h : KeepsIf True True R d m) (q0 : OrderQueue) :
    Keeps d (m.takeFrom q0) :=
  (h.holds.trans (saleSteps_holds (takeFrom_steps q0 m))).listed (takeFrom_list q0 m)

/-- The end of an event keeps every invariant. -/
theorem KeepsIf.conclude {R : Prop} {d m : Device} (h : KeepsIf True True R d m) (q0 : OrderQueue) :
    Keeps d (m.conclude q0) :=
  (h.holds.trans (saleSteps_holds (conclude_steps q0 m))).listed (conclude_list q0 m)

end Sys2Proof.Proofs
end

section
/-! SUPPORT. The drive's active job: motors that stop, jobs that end, halt, wait again or enter their window, and the
reports that go with them. -/
namespace Sys2Proof.Proofs

open Sys2Proof.Machine Sys2Proof.Laws

-- One proof at a time: together they wait for the kernel in a thread each, and the memory limit is met.
set_option Elab.async false

/-! ### Reports: changes of the sale's records alone -/

/-- A report changes the lane table, the queue, the money and the conditions alone, and no companion. -/
structure Reports (d e : Device) : Prop where
  frame : d.changesOnly [.conditions, .table, .queue, .credit, .coins] e
  companions : ∀ n, (e.lane? n).map (·.companion) = (d.lane? n).map (·.companion)

theorem Reports.refl (d : Device) : Reports d d := ⟨changesOnly_refl _ d, fun _ => rfl⟩

theorem Reports.trans {a b c : Device} (h : Reports a b) (k : Reports b c) : Reports a c :=
  ⟨changesOnly_trans h.frame k.frame, fun n => (k.companions n).trans (h.companions n)⟩

theorem Reports.drive {d e : Device} (h : Reports d e) : e.drive = d.drive := h.frame .drive (by simp)
theorem Reports.load {d e : Device} (h : Reports d e) : e.load = d.load := h.frame .load (by simp)

theorem endOrder_reports (tag : Nat) (cause : EndCause) (d : Device) : Reports d (d.endOrder tag cause) :=
  ⟨changesOnly_mono (endOrder_frame tag cause d) (by simp), endOrder_companions tag cause d⟩

theorem unitDelivered_reports (tag : Nat) (d : Device) : Reports d (d.unitDelivered tag) := by
  cases hw : d.queue.currentWith tag with
  | none => simp only [Device.unitDelivered, hw]; exact Reports.refl d
  | some o =>
    simp only [Device.unitDelivered, hw]
    obtain ⟨-, rfl⟩ := currentWith_mem hw
    generalize he : Device.setUnitPos .none _ = e
    obtain ⟨frame, -, lanes, -, -⟩ := credited_delivers e he.symm
    have credited : Reports d e := ⟨frame, companions_updateLane lanes fun _ => rfl⟩
    split
    · exact credited.trans (endOrder_reports _ _ e)
    · exact credited

theorem releaseUnits_reports (o : Order) (m : Nat) (d : Device) : Reports d (d.releaseUnits o m) :=
  ⟨changesOnly_mono (releaseUnits_frame o m d) (by simp), companions_updateLane (releaseUnits_lane o m d) fun _ => rfl⟩

theorem unitFailed_reports (tag : Nat) (cause : EndCause) (d : Device) : Reports d (d.unitFailed tag cause) := by
  unfold Device.unitFailed
  split
  · exact Reports.refl d
  next o _ =>
    have hE := endLive_ends o cause 1 (d.releaseUnits o 1)
    exact (releaseUnits_reports o 1 d).trans ⟨hE.frame', companions_updateLane hE.lanes fun _ => rfl⟩

theorem changeLane_reports {f : Lane → Lane} (n : Fin 64) (d : Device)
    (h : ∀ l, (f l).companion = l.companion := by exact fun _ => rfl) : Reports d (d.changeLane n f) := by
  refine ⟨?_, fun m => ?_⟩
  · rw [changeLane_eq]; intro p hp; cases p <;> first | rfl | simp at hp
  · rw [lane?_changeLane]
    split
    next e => subst e; cases d.lane? m <;> simp [h]
    · rfl

theorem laneFault_reports (cause : EndCause) (n : Fin 64) (d : Device) : Reports d (d.laneFault cause n) := by
  unfold Device.laneFault
  split
  · exact changeLane_reports n d
  · exact changeLane_reports n d

theorem orderHalted_reports (tag : Nat) (d : Device) : Reports d (d.orderHalted tag) := by
  unfold Device.orderHalted
  split
  · exact Reports.refl d
  · exact ⟨fun p hp => by cases p <;> first | rfl | simp at hp, fun _ => rfl⟩

theorem setUnitPos_reports (p : UnitPosition) (d : Device) : Reports d (d.setUnitPos p) :=
  ⟨fun p hp => by cases p <;> first | rfl | simp at hp, fun _ => rfl⟩

theorem KeepsIf.saleBut {R : Prop} {d m : Device} (h : KeepsIf True True R d m) (hc : d.driveClaims)
    (hs : SaleBut none d) : SaleBut none m := by
  obtain ⟨q, u, l⟩ := h.sale hc hs.queue hs.units (lanesSoundBut_none.mp hs.lanes)
  exact ⟨q, u, lanesSoundBut_none.mpr l⟩

/-- A report after a change that keeps every invariant. -/
theorem Reports.keeps {R : Prop} {d m e : Device} (hm : KeepsIf True True R d m) (h : Reports m e)
    (sale : d.driveClaims → SaleBut none d → SaleBut none m → SaleBut none e) : KeepsIf True True R d e := by
  have drive := h.drive
  have load := h.load
  have payout : e.payout = m.payout := h.frame .payout (by simp)
  have compressor : e.compressor = m.compressor := h.frame .compressor (by simp)
  exact {
    list := fun hR hl => by rw [drive]; exact hm.list hR hl
    claims := fun hc => driveClaims_of_core (by rw [drive]) (by rw [load]) (by rw [load]) (hm.claims hc)
    matrix := fun hc hx => matrixSound_of_core (by rw [drive]) (hm.matrix hc hx)
    rest := fun _ hc hr => by
      obtain ⟨hc', hr'⟩ := hm.rest trivial hc hr
      exact ⟨compressorClaims_of_core (by rw [compressor]) (by rw [load]) (by rw [load]) hc',
        by rw [compressor]; exact hr'⟩
    tubes := fun _ hx => by rw [payout]; exact hm.tubes trivial hx
    motors := fun hx => motorsSound_of_companions h.companions (hm.motors hx)
    sale := saleBut_of_parts fun hc hs => sale hc hs (hm.saleBut hc hs) }

theorem Quiet.saleBut {x : Option (Fin 64)} {d e : Device} (h : Quiet d e) (hs : SaleBut x d) : SaleBut x e := by
  refine ⟨h.queue ▸ hs.queue, unitsSound_of_core h.drive h.queue hs.units, ?_, ?_⟩
  · intro n l hl
    obtain ⟨k, hk, -, kr, ks, kc⟩ := lane_of_core h.lanes hl
    have := hs.lanes.1 n k hk
    rw [h.queue, ← kr, ← ks, ← kc]
    exact this
  · intro o ho live
    rw [h.queue] at ho
    obtain ⟨owes, there⟩ := hs.lanes.2 o ho live
    refine ⟨owes, ?_⟩
    have := congrArg Option.isSome (h.lanes o.lane)
    simp only [Option.isSome_map] at this
    exact this.trans there

/-! ### The unit drives -/

/-- R31: the job has not been reported while its unit is under way. -/
def unreported (j : ActiveJob) : Bool := !(j.phase = .window && j.dropCheck = .notRequired)

theorem units_eq (v : Drive) : v.units =
    (((v.active.filter unreported).map (·.job)).toList ++ v.jobs).filter (·.tag?.isSome) := rfl

/-- The active job, a unit drive not yet reported, is the one unit drive. -/
theorem units_of_active {d : Device} {j : ActiveJob} (h : d.unitsSound) (hj : d.drive.active = some j)
    (open_ : unreported j = true) (unit : j.job.tag?.isSome = true) :
    d.drive.units = [j.job] ∧ d.drive.jobs.filter (·.tag?.isSome) = [] := by
  have one := h.1
  have eq : d.drive.units = j.job :: d.drive.jobs.filter (·.tag?.isSome) := by
    rw [units_eq, hj, Option.filter_some, if_pos open_]
    simp [unit]
  rw [eq] at one ⊢
  have nil := List.length_eq_zero_iff.mp (Nat.le_zero.mp (Nat.le_of_succ_le_succ one))
  rw [nil]
  exact ⟨rfl, rfl⟩

/-- A job list from which jobs go, the active job staying, keeps the sale's invariants. -/
theorem fewer_jobs_sale {x : Option (Fin 64)} {d : Device} {rest : List Job} (h : SaleBut x d)
    (sub : rest.Sublist d.drive.jobs) : SaleBut x (withJobs rest d) := by
  have units : (withJobs rest d).drive.units.Sublist d.drive.units := by
    rw [units_eq, units_eq]
    exact ((List.Sublist.refl _).append sub).filter _
  exact ⟨h.queue, ⟨units.length_le.trans h.units.1, h.units.2.1, fun job hj => h.units.2.2 job (units.subset hj)⟩, h.lanes⟩

/-- The end of the active job keeps the sale's invariants: no listed unit drive rests on it. -/
theorem endJob_sale {x : Option (Fin 64)} {d : Device} (h : SaleBut x d) : SaleBut x d.endJob := by
  have units : d.endJob.drive.units = d.drive.jobs.filter (·.tag?.isSome) := units_idle rfl
  have sub : (d.drive.jobs.filter (·.tag?.isSome)).Sublist d.drive.units := by
    rw [units_eq]; exact (List.sublist_append_right _ _).filter _
  refine ⟨h.queue, ⟨by rw [units]; exact sub.length_le.trans h.units.1, fun j hj => absurd hj (by simp), ?_⟩, h.lanes⟩
  rw [units]
  intro job hjob
  obtain ⟨o, ho, jo, pos, st⟩ := h.units.2.2 job (sub.subset hjob)
  refine ⟨o, ho, jo, pos, Or.inl (st.resolve_right ?_)⟩
  rintro ⟨j, hj, rfl, ph⟩
  have open_ : unreported j = true := by
    rcases ph with ph | ⟨ph, dc⟩ <;> simp [unreported, ph]
    simp [dc]
  rw [(units_of_active h.units hj open_ (List.mem_filter.mp hjob).2).2] at hjob
  cases hjob

/-- The end of an unreported unit drive leaves none. -/
theorem endJob_units {d : Device} {j : ActiveJob} (h : d.unitsSound) (hj : d.drive.active = some j)
    (open_ : unreported j = true) (unit : j.job.tag?.isSome = true) : d.endJob.drive.units = [] := by
  rw [units_idle (v := d.endJob.drive) rfl]
  exact (units_of_active h hj open_ unit).2

/-- An unreported active job that halts or enters its window keeps the sale's invariants. -/
theorem rephase_sale {x : Option (Fin 64)} {d : Device} {j : ActiveJob} {f : ActiveJob → ActiveJob} (h : SaleBut x d)
    (hj : d.drive.active = some j) (open_ : unreported j = true) (job : (f j).job = j.job)
    (ph : (f j).phase = .halted ∨ (f j).phase = .window) : SaleBut x (d.updateJob f) := by
  have active : (d.updateJob f).drive.active = some (f j) := by rw [updateJob_drive, hj]; rfl
  have sub : (d.updateJob f).drive.units.Sublist d.drive.units := by
    rw [units_eq, units_eq, active, hj, Option.filter_some, Option.filter_some, if_pos open_]
    refine (List.Sublist.append ?_ (List.Sublist.refl _)).filter _
    split <;> simp [job]
  refine ⟨h.queue, ⟨sub.length_le.trans h.units.1, ?_, fun y hy => ?_⟩, h.lanes⟩
  · intro k hk pulse
    obtain rfl : f j = k := Option.some.inj (active.symm.trans hk)
    rcases ph with ph | ph <;> simp [ph] at pulse
  · obtain ⟨o, ho, jo, pos, st⟩ := h.units.2.2 y (sub.subset hy)
    refine ⟨o, ho, jo, pos, st.imp_right ?_⟩
    rintro ⟨k, hk, rfl, kp⟩
    obtain rfl : j = k := Option.some.inj (hj.symm.trans hk)
    refine ⟨f j, active, job, ?_⟩
    rcases ph with ph | ph
    · exact Or.inl ph
    · refine Or.inr ⟨ph, ?_⟩
      by_contra dc
      have reported : unreported (f j) = false := by
        cases hd : (f j).dropCheck <;> simp_all [unreported]
      have unit : j.job.tag?.isSome = true := by rw [jo]; rfl
      have nil := (units_of_active h.units hj open_ unit).2
      rw [units_eq, active, Option.filter_some, reported] at hy
      simp only [Bool.false_eq_true, if_false, Option.map_none, Option.toList_none, List.nil_append, updateJob_drive] at hy
      rw [nil] at hy
      cases hy

/-- A unit drive without a drop check that enters its window, reported, leaves none. -/
theorem toWindow_units {d : Device} {j : ActiveJob} {f : ActiveJob → ActiveJob} (h : d.unitsSound)
    (hj : d.drive.active = some j) (open_ : unreported j = true) (unit : j.job.tag?.isSome = true)
    (done : unreported (f j) = false) : (d.updateJob f).drive.units = [] := by
  rw [units_eq, updateJob_drive, hj]
  simp only [Option.map_some, Option.filter_some, done]
  simpa using (units_of_active h hj open_ unit).2

/-! ### A drive that gives its claim back -/

theorem switchOff_keeps (d : Device) : Keeps d d.switchOff where
  list _ := id
  claims h := h
  matrix _ _ := ⟨fun _ => ⟨rfl, rfl⟩, fun _ h => nomatch h⟩
  rest _ h r := ⟨h, r⟩
  tubes _ := id
  motors := id
  sale _ q u l := ⟨q, u, l⟩

theorem stopMotors_keeps (n : Fin 64) (d : Device) : Keeps d (d.stopMotors n) := by
  unfold Device.stopMotors
  split
  · exact (switchOff_keeps d).trans (updateLane_quiet n _).keeps
  · exact switchOff_keeps d

theorem stopWork_keeps (n : Fin 64) (d : Device) : Keeps d (d.stopWork n) :=
  (stopMotors_keeps n d).trans (giveBack_keeps _ _)

/-- What stopped motors leave: the drive off, its jobs as they were; the load, the queue and the money as they were. -/
theorem stopMotors_spec (n : Fin 64) (d : Device) :
    (d.stopMotors n).drive = { d.drive with energized := none, rows := 0, cols := 0, camConfirmed := none, camTimer := none } ∧
      (d.stopMotors n).load = d.load ∧ (d.stopMotors n).queue = d.queue := by
  unfold Device.stopMotors
  split
  · rw [updateLane_eq]; exact ⟨rfl, rfl, rfl⟩
  · exact ⟨rfl, rfl, rfl⟩

/-- The drive holds and awaits no claim, and its motors are off; its jobs stand as they were. -/
structure Freed (d m : Device) : Prop where
  keeps : Keeps d m
  queue : m.queue = d.queue
  active : d.driveClaims → m.drive.active = d.drive.active
  jobs : d.driveClaims → m.drive.jobs = d.drive.jobs
  free : d.driveClaims → m.load.claimsOf .drive = 0
  off : d.driveClaims → d.drive.matrixSound → m.drive.energized = none ∧ m.drive.rows = 0#8 ∧ m.drive.cols = 0#8

theorem claimsOf_zero {who : Claimant} {b : LoadBudget} :
    b.claimsOf who = 0 ↔ ∀ c ∈ b.grants ++ b.waiters, c.who ≠ who := by
  rw [LoadBudget.claimsOf, List.length_eq_zero_iff, List.filter_eq_nil_iff]
  simp

/-- A grant test with no drive claim to grant leaves the drive and makes no claim. -/
theorem grantTest_noDrive {d : Device} (h : d.load.claimsOf .drive = 0) :
    d.grantTest.drive = d.drive ∧ d.grantTest.load.claimsOf .drive = 0 := by
  obtain ⟨-, -, -, -, entries, -, -, drive, -⟩ := grantLoop_spec d.load.waiters.length d
  rw [claimsOf_zero] at h ⊢
  refine ⟨drive fun c hc => h c (List.mem_append_right _ hc), ?_⟩
  rw [Device.grantTest, entries]
  exact h

theorem giveBack_freed {d : Device} (waits : ∀ c ∈ d.load.waiters, c.who ≠ .drive) :
    (d.giveBack .drive).drive = d.drive ∧ (d.giveBack .drive).load.claimsOf .drive = 0 := by
  unfold Device.giveBack
  split
  · refine grantTest_noDrive (claimsOf_zero.mpr fun c hc => ?_)
    rcases List.mem_append.mp hc with m | m
    · exact mem_filter_ne m
    · exact waits c m
  next hn =>
    refine ⟨rfl, claimsOf_zero.mpr fun c hc e => ?_⟩
    rcases List.mem_append.mp hc with m | m
    · exact hn (List.any_eq_true.mpr ⟨c, m, by simpa using e⟩)
    · exact waits c m e

theorem withdraw_freed {d : Device} (holds : ∀ c ∈ d.load.grants, c.who ≠ .drive) :
    (d.withdraw .drive).drive = d.drive ∧ (d.withdraw .drive).load.claimsOf .drive = 0 := by
  have left : LoadBudget.claimsOf .drive { d.load with waiters := d.load.waiters.filter (·.who ≠ .drive) } = 0 :=
    claimsOf_filter holds fun c hc => mem_filter_ne hc
  simp only [Device.withdraw]
  split
  · exact grantTest_noDrive left
  · exact ⟨rfl, left⟩

/-- The motors of a job TURNING or in PULSE stop and its grant goes back. -/
theorem stopWork_freed {d : Device} {j : ActiveJob} (n : Fin 64) (hj : d.drive.active = some j)
    (ph : j.phase = .turning ∨ j.phase = .pulse) : Freed d (d.stopWork n) := by
  obtain ⟨drive, load, queue⟩ := stopMotors_spec n d
  have freed : d.driveClaims → _ := fun hc => giveBack_freed (d := d.stopMotors n) fun c hm e => by
    rw [load] at hm
    obtain ⟨k, hk, wait⟩ := hc.2.1 c hm e
    obtain rfl : j = k := Option.some.inj (hj.symm.trans hk)
    rcases ph with ph | ph <;> simp [ph] at wait
  refine ⟨stopWork_keeps n d, ?_, fun hc => ?_, fun hc => ?_, fun hc => (freed hc).2, fun hc _ => ?_⟩
  · exact (giveBack_frame .drive (d.stopMotors n) .queue (by simp [grantParts])).trans queue
  · rw [Device.stopWork, (freed hc).1, drive]
  · rw [Device.stopWork, (freed hc).1, drive]
  · rw [Device.stopWork, (freed hc).1, drive]; exact ⟨rfl, rfl, rfl⟩

/-- A matrix with a lane energized has a job TURNING or in PULSE. -/
theorem matrix_off {v : Drive} {j : ActiveJob} (h : v.matrixSound) (hj : v.active = some j)
    (ph : j.phase ≠ .turning ∧ j.phase ≠ .pulse) : v.energized = none ∧ v.rows = 0#8 ∧ v.cols = 0#8 := by
  cases he : v.energized with
  | none => exact ⟨rfl, h.1 he⟩
  | some n =>
    obtain ⟨k, hk, -, kp, -⟩ := h.2 n he
    obtain rfl : j = k := Option.some.inj (hj.symm.trans hk)
    rcases kp with ⟨kp, -⟩ | ⟨kp, -⟩
    · exact absurd kp ph.1
    · exact absurd kp ph.2

/-- The waiting claim of a job in WAIT_LOAD is withdrawn. -/
theorem withdrawDrive_freed {d : Device} {j : ActiveJob} (hj : d.drive.active = some j) (ph : j.phase = .waitLoad) :
    Freed d (d.withdraw .drive) := by
  have freed : d.driveClaims → _ := fun hc => withdraw_freed (d := d) fun c hm e => by
    obtain ⟨k, hk, kp⟩ := hc.2.2 c hm e
    obtain rfl : j = k := Option.some.inj (hj.symm.trans hk)
    rcases kp with ⟨kp, -⟩ | ⟨kp, -⟩ <;> simp [ph] at kp
  refine ⟨withdraw_keeps _ d, withdraw_frame .drive d .queue (by simp [grantParts]), fun hc => ?_, fun hc => ?_,
    fun hc => (freed hc).2, fun hc hm => ?_⟩
  · rw [(freed hc).1]
  · rw [(freed hc).1]
  · rw [(freed hc).1]; exact matrix_off hm hj (by simp [ph])

/-- A job HALTED or in WINDOW has no claim. -/
theorem still_freed {d : Device} {j : ActiveJob} (hj : d.drive.active = some j)
    (ph : j.phase = .halted ∨ j.phase = .window) : Freed d d := by
  refine ⟨Keeps.refl d, rfl, fun _ => rfl, fun _ => rfl, fun hc => claimsOf_zero.mpr fun c hm e => ?_,
    fun _ hm => matrix_off hm hj (by rcases ph with ph | ph <;> simp [ph])⟩
  rcases List.mem_append.mp hm with m | m
  · obtain ⟨k, hk, kp⟩ := hc.2.2 c m e
    obtain rfl : j = k := Option.some.inj (hj.symm.trans hk)
    rcases kp with ⟨kp, -⟩ | ⟨kp, -⟩ <;> rcases ph with ph | ph <;> simp [ph] at kp
  · obtain ⟨k, hk, kp⟩ := hc.2.1 c m e
    obtain rfl : j = k := Option.some.inj (hj.symm.trans hk)
    rcases ph with ph | ph <;> simp [ph] at kp

/-- Without a claim the drive's claims are in order whatever its job. -/
theorem driveClaims_of_none {d : Device} (h : d.load.claimsOf .drive = 0) : d.driveClaims := by
  have absent := claimsOf_zero.mp h
  exact ⟨by rw [h]; exact Nat.zero_le _, fun c hc e => absurd e (absent c (List.mem_append_right _ hc)),
    fun c hc e => absurd e (absent c (List.mem_append_left _ hc))⟩

/-- A freed drive's job changes. -/
theorem Freed.update {R : Prop} {d m : Device} {v : Drive} (h : Freed d m)
    (list : R → m.drive.listSound → v.listSound)
    (same : v.energized = m.drive.energized ∧ v.rows = m.drive.rows ∧ v.cols = m.drive.cols)
    (sale : d.driveClaims → SaleBut none m → SaleBut none { m with drive := v }) :
    KeepsIf True True R d { m with drive := v } where
  list hR hl := list hR (h.keeps.list trivial hl)
  claims hc := driveClaims_of_none (d := { m with drive := v }) (h.free hc)
  matrix hc hm := by
    obtain ⟨e, r, c⟩ := h.off hc hm
    refine ⟨fun _ => ⟨same.2.1.trans r, same.2.2.trans c⟩, fun n hn => ?_⟩
    exact absurd ((same.1.trans e).symm.trans hn) (by simp)
  rest _ hc hr := h.keeps.rest trivial hc hr
  tubes _ := h.keeps.tubes trivial
  motors := h.keeps.motors
  sale := saleBut_of_parts fun hc hs => sale hc (h.keeps.saleBut hc hs)

theorem Freed.endJob {d m : Device} (h : Freed d m) : Holds d m.endJob :=
  h.update (v := { m.drive with active := none }) (fun no => no.elim) ⟨rfl, rfl, rfl⟩ fun _ hs => endJob_sale hs

theorem Freed.rephase {d m : Device} {j : ActiveJob} {f : ActiveJob → ActiveJob} (h : Freed d m)
    (hj : d.drive.active = some j) (open_ : unreported j = true) (job : (f j).job = j.job)
    (ph : (f j).phase = .halted ∨ (f j).phase = .window) : Keeps d (m.updateJob f) :=
  h.update (v := { m.drive with active := m.drive.active.map f })
    (fun _ list idle => list (Option.map_eq_none_iff.mp idle)) ⟨rfl, rfl, rfl⟩ fun hc hs =>
    rephase_sale hs ((h.active hc).trans hj) open_ job ph

end Sys2Proof.Proofs
end

section
/-! SUPPORT. The drive's events keep every invariant: turns, failures, drops, windows, pulses, samples. -/
namespace Sys2Proof.Proofs

open Sys2Proof.Machine Sys2Proof.Laws

-- One proof at a time: together they wait for the kernel in a thread each, and the memory limit is met.
set_option Elab.async false

/-! ### An unreported unit drive ends -/

/-- A unit drive not yet reported, freed and ended, leaves no unit drive. -/
theorem Freed.no_units {d m : Device} {j : ActiveJob} (h : Freed d m) (hj : d.drive.active = some j)
    (open_ : unreported j = true) (unit : j.job.tag?.isSome = true) (hc : d.driveClaims) (hs : SaleBut none d) :
    m.endJob.drive.units = [] :=
  endJob_units (h.keeps.saleBut hc hs).units ((h.active hc).trans hj) open_ unit

theorem unreported_turning {j : ActiveJob} (ph : j.phase = .turning) : unreported j = true := by simp [unreported, ph]

/-- A delivered unit reported by a job that has ended. -/
theorem Freed.delivered {d m : Device} {j : ActiveJob} (tag : Nat) (h : Freed d m) (hj : d.drive.active = some j)
    (open_ : unreported j = true) (unit : j.job.tag?.isSome = true) : Holds d (m.endJob.unitDelivered tag) :=
  Reports.keeps h.endJob (unitDelivered_reports tag _) fun hc hs hm =>
    unitDelivered_sale tag hm (h.no_units hj open_ unit hc hs)

/-- What follows a report: the next unit, and the end of the event. -/
theorem KeepsIf.next {R : Prop} {d m : Device} (h : KeepsIf True True R d m) (q : OrderQueue) :
    Keeps d (m.startUnit.conclude q) :=
  (h.holds.trans (startUnit_holds _)).conclude q

/-! ### Failures -/

theorem laneFault_quiet (cause : EndCause) (n : Fin 64) (d : Device) : Quiet d (d.laneFault cause n) := by
  unfold Device.laneFault
  split
  · exact changeLane_quiet n d
  · exact changeLane_quiet n d

/-- A report leaves the drive. -/
theorem Reports.units {d e : Device} (h : Reports d e) (free : d.drive.units = []) : e.drive.units = [] := by
  rw [h.drive]; exact free

theorem reportFault_spec (cause : EndCause) (n : Fin 64) (tag : Nat) (j : ActiveJob) (d : Device) :
    Reports d (d.reportFault cause n tag j) ∧
    (SaleBut none d → d.drive.units = [] → SaleBut none (d.reportFault cause n tag j)) := by
  have delivered := unitDelivered_reports tag d
  have faulted := laneFault_reports cause n (d.unitDelivered tag)
  unfold Device.reportFault
  dsimp only
  split
  · split
    · exact ⟨delivered, fun hs free => unitDelivered_sale tag hs free⟩
    · refine ⟨(delivered.trans faulted).trans (endOrder_reports _ _ _), fun hs free => ?_⟩
      refine endOrder_sale tag cause ((laneFault_quiet cause n _).saleBut (unitDelivered_sale tag hs free)) ?_
      exact fun _ _ _ _ => (delivered.trans faulted).units free
  · split
    · exact ⟨unitFailed_reports _ _ d, fun hs free => unitFailed_sale tag _ hs free⟩
    · exact ⟨(unitFailed_reports _ _ d).trans (laneFault_reports _ _ _),
        fun hs free => (laneFault_quiet cause n _).saleBut (unitFailed_sale tag cause hs free)⟩

theorem unitFault_keeps {d : Device} {j : ActiveJob} (cause : EndCause) (hj : d.drive.active = some j)
    (ph : j.phase = .turning) : Keeps d (d.unitFault cause) := by
  simp only [Device.unitFault, hj]
  cases job : j.job with
  | fitCheck n => exact Keeps.refl d
  | unitDrive n tag =>
    have freed := stopWork_freed n hj (Or.inl ph)
    obtain ⟨reports, sale⟩ := reportFault_spec cause n tag j (d.stopWork n).endJob
    refine KeepsIf.next (Reports.keeps freed.endJob reports fun hc hs hm => sale hm ?_) d.queue
    exact freed.no_units hj (unreported_turning ph) (by rw [job]; rfl) hc hs

/-! ### Turns -/

theorem updateJob_quiet {d : Device} {f : ActiveJob → ActiveJob} (h : ∀ j, d.drive.active = some j → jobCore (f j) = jobCore j) :
    Quiet d (d.updateJob f) where
  drive := by
    simp only [driveCore, updateJob_drive, Prod.mk.injEq, true_and, Option.map_map]
    cases hj : d.drive.active with
    | none => rfl
    | some j => exact congrArg some (h j hj)

theorem decideTurn_keeps {d : Device} {j : ActiveJob} {n : Fin 64} {tag : Nat} (at_ : Nat) (hj : d.drive.active = some j)
    (ph : j.phase = .turning) (job : j.job = .unitDrive n tag) : Keeps d (d.decideTurn at_ n tag j) := by
  have open_ := unreported_turning ph
  have unit : j.job.tag?.isSome = true := by rw [job]; rfl
  have freed := stopWork_freed n hj (Or.inl ph)
  have window (t w : Nat) : Keeps d ((d.stopWork n).updateJob (·.toWindow t w)) :=
    freed.rephase (f := (·.toWindow t w)) hj open_ rfl (Or.inr rfl)
  unfold Device.decideTurn
  split
  · exact (freed.delivered tag hj open_ unit).next _
  split
  · exact Keeps.refl d
  split
  next reported =>
    refine KeepsIf.next (Reports.keeps (window _ _) (unitDelivered_reports tag _) fun hc hs hm => ?_) d.queue
    refine unitDelivered_sale tag hm (toWindow_units (freed.keeps.saleBut hc hs).units ((freed.active hc).trans hj) open_ unit ?_)
    simp [unreported, ActiveJob.toWindow, reported]
  split
  · refine Quiet.keeps (updateJob_quiet ?_)
    exact fun _ _ => rfl
  · exact window _ _

theorem completeTurn_keeps {d : Device} {j : ActiveJob} {n : Fin 64} {tag : Nat} (at_ openedAt : Nat)
    (hj : d.drive.active = some j) (ph : j.phase = .turning) (job : j.job = .unitDrive n tag) :
    Keeps d (d.completeTurn at_ openedAt n tag j) := by
  unfold Device.completeTurn
  dsimp only
  generalize hm : d.updateLane n _ = m
  have quiet : Quiet d m := hm ▸ updateLane_quiet n d
  have active : m.drive.active = some j := by rw [← hm, updateLane_eq]; exact hj
  have counted : Quiet m (m.updateJob fun _ => j.countTurn at_ d.drive.turnMs) := updateJob_quiet fun k hk => by
    rw [Option.some.inj (hk.symm.trans active)]; rfl
  refine ((quiet.trans counted).keeps).trans (decideTurn_keeps (j := j.countTurn at_ d.drive.turnMs) at_ ?_ ph job)
  rw [updateJob_drive, active]
  rfl

theorem camOpened_core (at_ limit : Nat) (j : ActiveJob) : jobCore (j.camOpened at_ limit) = jobCore j := by
  unfold ActiveJob.camOpened
  split
  · rfl
  split
  · rfl
  split <;> rfl

theorem camSeen_keeps (at_ : Nat) (level : CamLevel) (d : Device) : Keeps d (d.camSeen at_ level) := by
  unfold Device.camSeen
  split
  · exact Keeps.refl d
  next j hj =>
    split
    · exact (updateJob_quiet fun k _ => camOpened_core _ _ k).keeps
    next ph job _ => exact completeTurn_keeps _ _ hj ph job
    · exact Keeps.refl d

theorem camLineEdge_quiet (level : CamLevel) (d : Device) : Quiet d (d.camLineEdge level) := by
  unfold Device.camLineEdge
  split
  · exact Quiet.refl d
  · exact {}

theorem camConfirm_keeps (d : Device) : Keeps d d.camConfirm :=
  onExpiry_keeps fun due _ => by
    let e := d.reach due
    have confirmed : Quiet e { e with drive := { e.drive with camConfirmed := some e.drive.camLine, camTimer := none } } := {}
    exact confirmed.keeps.trans (camSeen_keeps due _ _)

/-- A timer of the active job runs in its phase. -/
theorem jobTimer_active {d : Device} {phase : DrivePhase} {f : ActiveJob → Timer} {due : Nat}
    (h : d.jobTimer phase f = some due) : ∃ j, d.drive.active = some j ∧ j.phase = phase := by
  simp only [Device.jobTimer, Option.bind_eq_some_iff, Option.filter_eq_some_iff, decide_eq_true_eq] at h
  obtain ⟨j, ⟨hj, ph⟩, -⟩ := h
  exact ⟨j, hj, ph⟩

/-- The expiry of a timer of the active job, in its phase. -/
theorem jobExpiry_keeps {d : Device} {phase : DrivePhase} {f : ActiveJob → Timer} {act : Device → Device}
    (h : ∀ e : Device, ∀ j, e.drive.active = some j → j.phase = phase → Keeps e (act e)) :
    Keeps d (d.onExpiry (d.jobTimer phase f) fun _ e => act e) := by
  unfold Device.onExpiry
  split
  · exact Keeps.refl d
  next due ht =>
    obtain ⟨j, hj, ph⟩ := jobTimer_active ht
    exact (reach_quiet due d).keeps.trans (h (d.reach due) j hj ph)

theorem departureTimeout_keeps (d : Device) : Keeps d d.departureTimeout :=
  jobExpiry_keeps fun _ _ hj ph => unitFault_keeps .jam hj ph

theorem turnTimerExpiry_keeps (d : Device) : Keeps d d.turnTimerExpiry :=
  jobExpiry_keeps fun _ _ hj ph => unitFault_keeps .jam hj ph

theorem motorSample_keeps (at_ : Nat) (sample : Sample) (d : Device) : Keeps d (d.motorSample at_ sample) := by
  unfold Device.motorSample
  split
  · exact Keeps.refl d
  next j hj =>
    split
    · split
      next ph =>
        dsimp only
        have run : Quiet d (d.updateJob fun k => { k with lowRun := lowRunAfter sample j.lowRun }) :=
          updateJob_quiet fun _ _ => rfl
        split
        · refine run.keeps.trans (unitFault_keeps (j := { j with lowRun := lowRunAfter sample j.lowRun }) .motorOpen ?_ ph)
          rw [updateJob_drive, hj]
          rfl
        · exact run.keeps
      · refine Quiet.keeps (updateJob_quiet ?_)
        exact fun _ _ => rfl
      · exact Keeps.refl d
    · exact Keeps.refl d

/-! ### Drops and windows -/

theorem strayDrop_quiet (d : Device) : Quiet d d.strayDrop := {}

theorem creditDrop_keeps {d : Device} {j : ActiveJob} {tag : Nat} (hj : d.drive.active = some j)
    (unit : j.job.tag? = some tag) : Keeps d (d.creditDrop tag j) := by
  have unit' : j.job.tag?.isSome = true := by rw [unit]; rfl
  unfold Device.creditDrop
  split
  next ph => exact ((still_freed hj (Or.inl ph)).delivered tag hj (by simp [unreported, ph]) unit').next _
  next ph dc => exact ((still_freed hj (Or.inr ph)).delivered tag hj (by simp [unreported, dc]) unit').next _
  next ph _ => exact (still_freed hj (Or.inr ph)).endJob.conclude _
  · refine Quiet.keeps (updateJob_quiet ?_)
    exact fun _ _ => rfl

theorem beamBreak_keeps (d : Device) : Keeps d d.beamBreak := by
  unfold Device.beamBreak
  split
  · exact (strayDrop_quiet d).keeps
  next j hj =>
    split
    · exact (strayDrop_quiet d).keeps
    next tag unit =>
      split
      · exact creditDrop_keeps hj unit
      · exact (strayDrop_quiet d).keeps

theorem fitOutcome_quiet (n : Fin 64) (pass : Bool) (d : Device) : Quiet d (d.fitOutcome n pass) := by
  unfold Device.fitOutcome
  split
  · exact changeLane_quiet n d
  · exact Quiet.refl d

theorem fitPulseEnd_keeps (d : Device) : Keeps d d.fitPulseEnd :=
  jobExpiry_keeps fun e j hj ph => by
    simp only [Device.pulseEnded, hj]
    exact ((stopWork_freed _ hj (Or.inr ph)).endJob.trans (fitOutcome_quiet _ _ _).keeps.holds).conclude _

end Sys2Proof.Proofs
end

section
/-! SUPPORT. Orders cancelled in a row, a drop window that closes, and the halting, resuming, abandoning and revoking of
the drive's unit. -/
namespace Sys2Proof.Proofs

open Sys2Proof.Machine Sys2Proof.Laws

-- One proof at a time: together they wait for the kernel in a thread each, and the memory limit is met.
set_option Elab.async false

/-! ### Orders cancelled in a row -/

/-- The orders of a list end, one after the other. -/
def endAll (cause : EndCause) (xs : List Order) (d : Device) : Device :=
  xs.foldl (fun d o => d.endOrder o.tag cause) d

theorem cancelQueued_eq (n : Fin 64) (cause : EndCause) (d : Device) :
    d.cancelQueued n cause = endAll cause (d.queue.orders.filter fun o => o.state = .queued && o.lane = n) d := rfl

theorem cancelAllQueued_eq (cause : EndCause) (d : Device) :
    d.cancelAllQueued cause = endAll cause (d.queue.orders.filter (·.state = .queued)) d := rfl

/-- What the ending of QUEUED orders changes. -/
structure Cancels (cause : EndCause) (xs : List Order) (d e : Device) : Prop where
  frame : d.changesOnly [.conditions, .table, .queue, .credit] e
  pos : e.queue.unitPos = d.queue.unitPos
  changed : e.table.changed = d.table.changed
  stamp : e.table.stampCounter = d.table.stampCounter
  lanes : ∀ n, (e.lane? n).map (fun l => { l with reserved := 0 }) = (d.lane? n).map fun l => { l with reserved := 0 }
  tags : e.queue.orders.map (·.tag) = d.queue.orders.map (·.tag)
  closed : ∀ o ∈ xs, o.close cause ∈ e.queue.orders
  kept : ∀ o ∈ d.queue.orders, o ∉ xs → o ∈ e.queue.orders
  only : ∀ o ∈ e.queue.orders, (o ∈ d.queue.orders ∧ o ∉ xs) ∨ ∃ y ∈ xs, o = y.close cause
  balance : e.credit.balance = d.credit.balance
  sale : ∀ x, SaleBut x d → SaleBut x e

/-- The ending of one QUEUED order. -/
theorem cancel_one {d : Device} {o : Order} (cause : EndCause) (tags : tagsDistinct d.queue) (ho : o ∈ d.queue.orders)
    (queued : o.state = .queued) : Cancels cause [o] d (d.endOrder o.tag cause) := by
  have live : o.state.live = true := by rw [queued]; rfl
  have found : d.queue.liveOrder? o.tag = some o := by
    rw [OrderQueue.liveOrder?, find?_of_mem tags ho, Option.filter_some, if_pos live]
  have hE : Ends o cause (o.quantity - o.delivered) d (d.endOrder o.tag cause) := by
    simp only [Device.endOrder, found]
    exact endLive_ends o cause 0 d
  have same : ∀ y ∈ d.queue.orders, y.tag = o.tag → y = o := fun y hy ty => eq_of_tag tags hy ho ty
  refine ⟨hE.frame, ?_, hE.table.1, hE.table.2, fun n => ?_, ?_, fun y hy => ?_, fun y hy hx => ?_, fun y hy => ?_,
    hE.credit.1, fun x hs => ?_⟩
  · rw [hE.pos, queued]
    rfl
  · rw [hE.lanes]
    split
    · cases d.lane? n <;> rfl
    · rfl
  · rw [hE.orders]
    exact tags_changeTag o.tag fun _ => rfl
  · rw [List.mem_singleton.1 hy, hE.orders]
    exact mem_changeTag.2 (Or.inr ⟨o, ho, rfl, rfl⟩)
  · rw [hE.orders]
    exact mem_changeTag.2 (Or.inl ⟨hy, fun ty => hx (List.mem_singleton.2 (same y hy ty))⟩)
  · rw [hE.orders] at hy
    rcases mem_changeTag.1 hy with ⟨hy, ty⟩ | ⟨z, hz, tz, rfl⟩
    · exact Or.inl ⟨hy, fun hx => ty (by rw [List.mem_singleton.1 hx])⟩
    · exact Or.inr ⟨o, List.mem_singleton_self o, by rw [same z hz tz]⟩
  · refine endOrder_sale o.tag cause hs fun y hy ty cur => ?_
    rw [same y hy ty, queued] at cur
    exact absurd cur (by simp [OrderState.current])

/-- The ending of QUEUED orders, no two of one tag. -/
theorem endAll_cancels (cause : EndCause) (xs : List Order) : ∀ {d : Device}, tagsDistinct d.queue →
    (∀ o ∈ xs, o ∈ d.queue.orders ∧ o.state = .queued) → xs.Nodup → Cancels cause xs d (endAll cause xs d) := by
  induction xs with
  | nil =>
    intro d _ _ _
    exact ⟨changesOnly_refl _ d, rfl, rfl, rfl, fun _ => rfl, rfl, fun _ h => absurd h List.not_mem_nil, fun _ h _ => h,
      fun _ h => Or.inl ⟨h, List.not_mem_nil⟩, rfl, fun _ => id⟩
  | cons o rest ih =>
    intro d tags queued distinct
    obtain ⟨fresh, distinct⟩ := List.nodup_cons.1 distinct
    obtain ⟨ho, qo⟩ := queued o List.mem_cons_self
    have one := cancel_one cause tags ho qo
    have left : ∀ y ∈ rest, y ≠ o := fun y hy e => fresh (e ▸ hy)
    have more := ih (d := d.endOrder o.tag cause) (by rw [tagsDistinct, one.tags]; exact tags)
      (fun y hy => ⟨one.kept y (queued y (List.mem_cons_of_mem _ hy)).1 fun h => left y hy (List.mem_singleton.1 h),
        (queued y (List.mem_cons_of_mem _ hy)).2⟩) distinct
    have ended : o.close cause ∉ rest := fun h => by
      have := (queued _ (List.mem_cons_of_mem _ h)).2
      have closed := close_live o cause
      rw [this] at closed
      exact absurd closed (by simp [OrderState.live])
    refine ⟨changesOnly_trans one.frame more.frame, more.pos.trans one.pos, more.changed.trans one.changed,
      more.stamp.trans one.stamp, fun n => (more.lanes n).trans (one.lanes n), more.tags.trans one.tags, fun y hy => ?_,
      fun y hy hx => ?_, fun y hy => ?_, more.balance.trans one.balance, fun x hs => more.sale x (one.sale x hs)⟩
    · rcases List.mem_cons.1 hy with rfl | hy
      · exact more.kept _ (one.closed y (List.mem_singleton_self y)) ended
      · exact more.closed y hy
    · obtain ⟨other, outside⟩ := not_or.1 (mt List.mem_cons.2 hx)
      exact more.kept y (one.kept y hy fun h => other (List.mem_singleton.1 h)) outside
    · rcases more.only y hy with ⟨hy, outside⟩ | ⟨z, hz, rfl⟩
      · rcases one.only y hy with ⟨hy, other⟩ | ⟨z, hz, rfl⟩
        · refine Or.inl ⟨hy, fun h => ?_⟩
          rcases List.mem_cons.1 h with rfl | h
          · exact other (List.mem_singleton_self y)
          · exact outside h
        · exact Or.inr ⟨z, by rw [List.mem_singleton.1 hz]; exact List.mem_cons_self, rfl⟩
      · exact Or.inr ⟨z, List.mem_cons_of_mem _ hz, rfl⟩

theorem filter_cancels {d : Device} (cause : EndCause) (tags : tagsDistinct d.queue) {f : Order → Bool}
    (hf : ∀ o, f o = true → o.state = .queued) :
    Cancels cause (d.queue.orders.filter f) d (endAll cause (d.queue.orders.filter f) d) :=
  endAll_cancels cause _ tags (fun o ho => ⟨(List.mem_filter.1 ho).1, hf o (List.mem_filter.1 ho).2⟩)
    ((List.Nodup.of_map _ tags).filter _)

theorem cancelQueued_cancels {d : Device} (n : Fin 64) (cause : EndCause) (tags : tagsDistinct d.queue) :
    Cancels cause (d.queue.orders.filter fun o => o.state = .queued && o.lane = n) d (d.cancelQueued n cause) :=
  filter_cancels cause tags fun o ho => by
    rw [Bool.and_eq_true, decide_eq_true_eq] at ho
    exact ho.1

theorem cancelAllQueued_cancels {d : Device} (cause : EndCause) (tags : tagsDistinct d.queue) :
    Cancels cause (d.queue.orders.filter (·.state = .queued)) d (d.cancelAllQueued cause) :=
  filter_cancels cause tags fun o ho => by simpa using ho

/-- Ends of orders are reports, whatever the queue. -/
theorem endAll_reports (cause : EndCause) (xs : List Order) : ∀ d : Device, Reports d (endAll cause xs d) :=
  foldl_rel (f := fun (d : Device) (o : Order) => d.endOrder o.tag cause) Reports.refl Reports.trans
    (fun d o => endOrder_reports o.tag cause d) xs

/-- A lane without a live order is owed nothing. -/
theorem owed_zero {q : OrderQueue} {n : Fin 64} (h : ∀ o ∈ q.orders, o.state.live = true → o.lane ≠ n) :
    q.owed n = 0 := by
  have none : (q.orders.filter fun o => o.state.live && o.lane = n) = [] := by
    rw [List.filter_eq_nil_iff]
    intro o ho hl
    rw [Bool.and_eq_true, decide_eq_true_eq] at hl
    exact h o ho hl.1 hl.2
  rw [OrderQueue.owed, none]
  rfl

/-- A live order that is not QUEUED is current. -/
theorem live_cases {s : OrderState} (h : s.live = true) : s = .queued ∨ s.current = true := by
  cases s <;> simp_all [OrderState.live, OrderState.current]

/-- After the QUEUED orders of a lane without a current order have ended, none on it is live. -/
theorem Cancels.lane_free {cause : EndCause} {n : Fin 64} {d e : Device}
    (h : Cancels cause (d.queue.orders.filter fun o => o.state = .queued && o.lane = n) d e)
    (idle : ∀ o ∈ d.queue.orders, o.lane = n → o.state.current = false) :
    ∀ o ∈ e.queue.orders, o.state.live = true → o.lane ≠ n := by
  intro o ho live lane
  rcases h.only o ho with ⟨ho, other⟩ | ⟨y, -, rfl⟩
  · rcases live_cases live with queued | current
    · exact other (List.mem_filter.2 ⟨ho, by simp [queued, lane]⟩)
    · rw [idle o ho lane] at current
      exact Bool.false_ne_true current
  · rw [close_live] at live
    exact Bool.false_ne_true live

/-! ### A drop window closes -/

/-- A lane emptied (R6) is in order again when it is owed nothing. -/
theorem lanesSoundBut_full {n : Fin 64} {d : Device} (h : SaleBut (some n) d) (free : d.queue.owed n = 0) :
    SaleBut none d := by
  refine ⟨h.queue, h.units, fun m l hl => ?_, h.lanes.2⟩
  obtain ⟨fits, cap, owes⟩ := h.lanes.1 m l hl
  refine ⟨fun _ => ?_, cap, owes⟩
  by_cases e : m = n
  · rw [owes, e, free]
    exact Nat.zero_le _
  · exact fits fun h => e (Option.some.inj h).symm

/-- R6: a lane's stock becomes 0. -/
theorem emptyLane_sale {n : Fin 64} {d : Device} (h : SaleBut none d) : SaleBut (some n) (d.emptyLane n) := by
  have drive : (d.emptyLane n).drive = d.drive := by rw [Device.emptyLane, changeLane_eq]
  have queue : (d.emptyLane n).queue = d.queue := by rw [Device.emptyLane, changeLane_eq]
  refine ⟨queue ▸ h.queue, unitsSound_of_core (by rw [drive]) queue h.units, ?_, ?_⟩
  · intro m l hl
    rw [queue]
    rw [Device.emptyLane, lane?_changeLane] at hl
    split at hl
    next e =>
      subst e
      obtain ⟨k, hk, rfl⟩ := Option.map_eq_some_iff.1 hl
      exact ⟨fun h => absurd rfl h, Nat.zero_le _, (h.lanes.1 m k hk).2.2⟩
    next e =>
      obtain ⟨fits, cap, owes⟩ := h.lanes.1 m l hl
      exact ⟨fun _ => fits (by simp), cap, owes⟩
  · intro o ho live
    rw [queue] at ho
    obtain ⟨owes, there⟩ := h.lanes.2 o ho live
    refine ⟨owes, ?_⟩
    rw [Device.emptyLane, lane?_changeLane]
    split
    next e => rw [Option.isSome_map, ← e]; exact there
    · exact there

theorem emptyLane_reports (n : Fin 64) (d : Device) : Reports d (d.emptyLane n) := changeLane_reports n d

/-- After the failure of the current order's unit no order is current. -/
theorem unitFailed_current {d : Device} {o : Order} (cause : EndCause) (h : SaleBut none d)
    (hc : d.queue.current? = some o) : ∀ y ∈ (d.unitFailed o.tag cause).queue.orders, y.state.current = false := by
  obtain ⟨ho, cur⟩ := current?_mem hc
  have found : d.queue.currentWith o.tag = some o := by
    rw [OrderQueue.currentWith, hc, Option.filter_some, if_pos (decide_eq_true rfl)]
  have hE := unitFailed_ends cause found (h.lanes.2 o ho (current_live cur)).1
  intro y hy
  rw [hE.orders] at hy
  rcases mem_changeTag.1 hy with ⟨hy, ty⟩ | ⟨z, -, -, rfl⟩
  · cases yc : y.state.current with
    | false => rfl
    | true => exact absurd (congrArg Order.tag (Option.some.inj ((current?_of_mem h.queue hy yc).symm.trans hc))) ty
  · exact close_current z cause

theorem windowExpired_keeps {d : Device} {j : ActiveJob} (hj : d.drive.active = some j) (ph : j.phase = .window) :
    Keeps d d.windowExpired := by
  have freed := still_freed hj (Or.inr ph)
  simp only [Device.windowExpired, hj]
  split
  next n tag job dc =>
    refine KeepsIf.conclude (Reports.keeps freed.endJob (((unitFailed_reports tag .noDrop _).trans (emptyLane_reports n _)).trans
      (endAll_reports _ _ _)) fun hc hs hm => ?_) _
    have open_ : unreported j = true := by simp [unreported, dc]
    have units := units_of_active hs.units hj open_ (by rw [job]; rfl)
    obtain ⟨o, ho, jo, -⟩ := hs.units.2.2 j.job (by rw [units.1]; exact List.mem_singleton_self _)
    obtain ⟨rfl, rfl⟩ := Job.unitDrive.inj (job.symm.trans jo)
    have failed := unitFailed_sale o.tag .noDrop hm (freed.no_units hj open_ (by rw [job]; rfl) hc hs)
    have emptied := emptyLane_sale (n := o.lane) failed
    have queue : ((d.endJob.unitFailed o.tag .noDrop).emptyLane o.lane).queue = (d.endJob.unitFailed o.tag .noDrop).queue := by
      rw [Device.emptyLane, changeLane_eq]
    have cancelled := cancelQueued_cancels o.lane .soldOut emptied.tags
    refine lanesSoundBut_full (cancelled.sale _ emptied) (owed_zero (cancelled.lane_free fun y hy _ => ?_))
    rw [queue] at hy
    exact unitFailed_current .noDrop hm (o := o) ho y hy
  · exact freed.endJob.conclude _

theorem dropWindowExpiry_keeps (d : Device) : Keeps d d.dropWindowExpiry :=
  jobExpiry_keeps fun _ _ hj ph => windowExpired_keeps hj ph

/-! ### Halting -/

/-- R65: an order is HALTED. -/
def halts (o : Order) : Order := { o with state := .halted }

/-- R65: the current order is HALTED; its unit, if one is in the drive, is HALTED or in its window. -/
theorem orderHalted_sale {x : Option (Fin 64)} {d : Device} (tag : Nat) (h : SaleBut x d)
    (still : ∀ job ∈ d.drive.units, ∃ j, d.drive.active = some j ∧ j.job = job ∧
      (j.phase = .halted ∨ (j.phase = .window ∧ j.dropCheck = .required))) : SaleBut x (d.orderHalted tag) := by
  unfold Device.orderHalted
  cases hw : d.queue.currentWith tag with
  | none => exact h
  | some o =>
    obtain ⟨ho, rfl, cur, live⟩ := currentWith_current hw
    have hq : (d.queue.update o.tag halts).sound := sound_update h.queue ho (fun _ => rfl) fun _ => Or.inr cur
    have hc : (d.queue.update o.tag halts).current? = some (halts o) :=
      current?_of_mem hq (mem_changeTag.2 (Or.inr ⟨o, ho, rfl, rfl⟩)) rfl
    refine ⟨hq, ⟨h.units.1, h.units.2.1, fun job hjob => ?_⟩, ?_⟩
    · obtain ⟨y, hy, jy, pos, -⟩ := h.units.2.2 job hjob
      obtain rfl := Option.some.inj ((currentWith_mem hw).1.symm.trans hy)
      exact ⟨halts o, hc, jy, pos, Or.inr (still job hjob)⟩
    · refine lanesSoundBut_update (f := halts) (g := id) h ho rfl
        (fun n => by simp only [Option.map_id_fun, id_eq, ite_self]; rfl) rfl
        (fun _ => ⟨(h.lanes.2 o ho live).1, live⟩) fun l _ _ => ⟨rfl, Nat.le_refl _, id, ?_⟩
      have same : owedBy o.lane (halts o) = owedBy o.lane o := by
        rw [owedBy, owedBy, live]
        rfl
      rw [same, id_eq]

/-- A unit position other than NONE, or no unit drive: the position may be set. -/
theorem setUnitPos_sale {x : Option (Fin 64)} {d : Device} {p : UnitPosition} (h : SaleBut x d)
    (hp : p ≠ .none ∨ d.drive.units = []) : SaleBut x (d.setUnitPos p) := by
  refine ⟨h.queue, ⟨h.units.1, h.units.2.1, fun job hjob => ?_⟩, h.lanes⟩
  rcases hp with hp | hp
  · obtain ⟨o, ho, jo, -, st⟩ := h.units.2.2 job hjob
    exact ⟨o, ho, jo, hp, st⟩
  · have : job ∈ d.drive.units := hjob
    rw [hp] at this
    exact absurd this List.not_mem_nil

/-- The drive's one unreported unit, once HALTED or in WINDOW, is what R65 asks of a halted order. -/
theorem still_of_active {d : Device} {j : ActiveJob} (h : d.unitsSound) (hj : d.drive.active = some j)
    (open_ : unreported j = true) (unit : j.job.tag?.isSome = true) (ph : j.phase = .halted ∨ j.phase = .window) :
    ∀ job ∈ d.drive.units, ∃ j, d.drive.active = some j ∧ j.job = job ∧
      (j.phase = .halted ∨ (j.phase = .window ∧ j.dropCheck = .required)) := by
  intro job hjob
  rw [(units_of_active h hj open_ unit).1] at hjob
  refine ⟨j, hj, (List.mem_singleton.1 hjob).symm, ph.imp_right fun ph => ⟨ph, ?_⟩⟩
  cases dc : j.dropCheck with
  | required => rfl
  | notRequired => simp [unreported, ph, dc] at open_

/-- The halt of a job freed of its claim. -/
theorem Freed.halt {d m : Device} {j : ActiveJob} {tag : Nat} (revoked : Bool) (h : Freed d m)
    (hj : d.drive.active = some j) (open_ : unreported j = true) (unit : j.job.tag?.isSome = true) :
    Keeps d (((m.updateJob (·.halt revoked)).setUnitPos .halted).orderHalted tag) := by
  refine Reports.keeps (h.rephase (f := (·.halt revoked)) hj open_ rfl (Or.inl rfl))
    ((setUnitPos_reports _ _).trans (orderHalted_reports _ _)) fun hc hs hm => ?_
  have active : (m.updateJob (·.halt revoked)).drive.active = some (j.halt revoked) := by
    rw [updateJob_drive, h.active hc, hj]
    rfl
  have placed := setUnitPos_sale (p := .halted) hm (Or.inl (by simp))
  exact orderHalted_sale tag placed (still_of_active placed.units active rfl unit (Or.inl rfl))

/-- A unit of the drive: the active job's, not yet reported. -/
theorem unitOf_some {v : Drive} {tag : Nat} {j : ActiveJob} (h : v.unitOf tag = some j) :
    v.active = some j ∧ j.job.tag? = some tag ∧ unreported j = true := by
  obtain ⟨hj, hp⟩ := Option.filter_eq_some_iff.1 h
  rw [Bool.and_eq_true, decide_eq_true_eq] at hp
  exact ⟨hj, hp.1, hp.2⟩

/-- With no active unit of the current order, the taking of its listed unit off the list leaves none. -/
theorem unlist_units {d : Device} {o : Order} (h : d.unitsSound) (hc : d.queue.current? = some o)
    (absent : d.drive.unitOf o.tag = none) : (d.unlist o.tag).drive.units = [] := by
  refine List.eq_nil_iff_forall_not_mem.2 fun job hjob => ?_
  rw [units_eq, List.mem_filter, List.mem_append] at hjob
  obtain ⟨place, unit⟩ := hjob
  have mine : job ∈ d.drive.units → job = .unitDrive o.lane o.tag := fun hm => by
    obtain ⟨y, hy, jy, -⟩ := h.2.2 job hm
    obtain rfl := Option.some.inj (hc.symm.trans hy)
    exact jy
  rcases place with active | listed
  · have job_eq := mine (by rw [units_eq, List.mem_filter, List.mem_append]; exact ⟨Or.inl active, unit⟩)
    rw [Option.mem_toList, Option.map_eq_some_iff] at active
    obtain ⟨j, hj, rfl⟩ := active
    obtain ⟨hj, open_⟩ := Option.filter_eq_some_iff.1 hj
    have found : d.drive.unitOf o.tag = some j :=
      Option.filter_eq_some_iff.2 ⟨hj, by rw [job_eq, Bool.and_eq_true]; exact ⟨decide_eq_true rfl, open_⟩⟩
    rw [absent] at found
    cases found
  · obtain ⟨listed, other⟩ := List.mem_filter.1 listed
    have job_eq := mine (by rw [units_eq, List.mem_filter, List.mem_append]; exact ⟨Or.inr listed, unit⟩)
    rw [job_eq] at other
    simp [Job.tag?] at other

theorem unlist_keeps (tag : Nat) (d : Device) : Holds d (d.unlist tag) :=
  keeps_of_jobs fun _ hs => fewer_jobs_sale hs List.filter_sublist

theorem haltActive_keeps {d : Device} {j : ActiveJob} {tag : Nat} (revoked : Bool)
    (found : d.drive.unitOf tag = some j) : Holds d (d.haltActive tag revoked j) := by
  obtain ⟨hj, ht, open_⟩ := unitOf_some found
  have unit : j.job.tag?.isSome = true := by rw [ht]; rfl
  have still (ph : j.phase = .window ∨ j.phase = .halted ∨ j.phase = .pulse) : Holds d (d.orderHalted tag) := by
    refine Reports.keeps (Holds.refl d) (orderHalted_reports tag d) fun _ hs _ =>
      orderHalted_sale tag hs (still_of_active hs.units hj open_ unit ?_)
    rcases ph with ph | ph | ph
    · exact Or.inr ph
    · exact Or.inl ph
    · have := hs.units.2.1 j hj ph
      rw [ht] at this
      cases this
  unfold Device.haltActive
  cases ph : j.phase with
  | waitLoad => exact ((withdrawDrive_freed hj ph).halt revoked hj open_ unit).holds
  | turning =>
    have freed := stopWork_freed j.job.lane hj (Or.inl ph)
    dsimp only
    split
    · refine Reports.keeps freed.endJob ((unitDelivered_reports tag _).trans (orderHalted_reports tag _)) fun hc hs hm => ?_
      have free := freed.no_units hj open_ unit hc hs
      refine orderHalted_sale tag (unitDelivered_sale tag hm free) ?_
      rw [(unitDelivered_reports tag _).units free]
      exact fun _ h => absurd h List.not_mem_nil
    · exact (freed.halt revoked hj open_ unit).holds
  | halted => exact still (Or.inr (Or.inl ph))
  | window => exact still (Or.inl ph)
  | pulse => exact still (Or.inr (Or.inr ph))

theorem haltOrder_keeps (revoked : Bool) (d : Device) : Holds d (d.haltOrder revoked) := by
  unfold Device.haltOrder
  split
  · exact Holds.refl d
  next o hc =>
    split
    · split
      next j found => exact haltActive_keeps revoked found
      next absent =>
        refine Reports.keeps (unlist_keeps o.tag d) ((setUnitPos_reports _ _).trans (orderHalted_reports _ _)) fun _ hs hm => ?_
        have free := unlist_units hs.units hc absent
        refine orderHalted_sale o.tag (setUnitPos_sale hm (Or.inr free)) ?_
        rw [setUnitPos_drive, free]
        exact fun _ h => absurd h List.not_mem_nil
    · exact Holds.refl d

end Sys2Proof.Proofs
end

section
/-! SUPPORT. The resuming and abandoning of a unit, the revocation of grants, the supervised inputs and the scanner keep
every invariant. -/
namespace Sys2Proof.Proofs

open Sys2Proof.Machine Sys2Proof.Laws

-- One proof at a time: together they wait for the kernel in a thread each, and the memory limit is met.
set_option Elab.async false

/-! ### Resuming -/

/-- R38: the job waits for load again. -/
def waitsAgain (j : ActiveJob) : ActiveJob := { j with phase := .waitLoad }

/-- R38: a HALTED unit's claim among the waiters, its job in WAIT_LOAD. -/
def resumed (j : ActiveJob) (d : Device) : Device :=
  { d.updateJob waitsAgain with
    load := { d.load with waiters := d.load.waiters ++ [driveClaim (unitLoad j.companion) j.job] } }

theorem resumed_keeps {d : Device} {j : ActiveJob} (hj : d.drive.active = some j) (ph : j.phase = .halted)
    (driving : d.queue.sound → ∀ o, d.queue.current? = some o → o.state = .driving) : Keeps d (resumed j d) := by
  have freed := still_freed hj (Or.inl ph)
  have active : (resumed j d).drive.active = some (waitsAgain j) := by
    show (d.updateJob waitsAgain).drive.active = _
    rw [updateJob_drive, hj]
    rfl
  have units : (resumed j d).drive.units = d.drive.units := by
    have open_ : unreported j = true := by simp [unreported, ph]
    rw [units_eq, units_eq, active, hj, Option.filter_some, Option.filter_some, if_pos open_,
      if_pos (show unreported (waitsAgain j) = true from rfl)]
    rfl
  exact {
    list := fun _ _ idle => absurd (active.symm.trans idle) (by simp)
    claims := fun hc => driveClaims_join (freed.free hc) rfl rfl rfl active rfl
    matrix := fun hc hm => by
      obtain ⟨off, rows, cols⟩ := freed.off hc hm
      exact ⟨fun _ => ⟨rows, cols⟩, fun n hn => absurd (off.symm.trans hn) (by simp)⟩
    rest := fun _ hc hr =>
      ⟨compressorClaims_of_sub (d := d) rfl (claimsSub_join d.load (by simp [driveClaim])) hc, hr⟩
    tubes := fun _ => id
    motors := id
    sale := saleBut_of_parts fun _ h => by
      refine ⟨h.queue, ⟨by rw [units]; exact h.units.1, fun k hk pulse => ?_, fun job hjob => ?_⟩, h.lanes⟩
      · obtain rfl := Option.some.inj (active.symm.trans hk)
        simp [waitsAgain] at pulse
      · rw [units] at hjob
        obtain ⟨o, ho, jo, pos, -⟩ := h.units.2.2 job hjob
        exact ⟨o, ho, jo, pos, Or.inl (driving h.queue o ho)⟩ }

theorem resumeUnit_keeps {d : Device} (driving : d.queue.sound → ∀ o, d.queue.current? = some o → o.state = .driving) :
    Keeps d d.resumeUnit := by
  unfold Device.resumeUnit
  split
  · exact Keeps.refl d
  next j found =>
    obtain ⟨hj, ph⟩ := Option.filter_eq_some_iff.1 found
    exact (resumed_keeps hj (of_decide_eq_true ph) driving).trans (grantTest_keeps (resumed j d))

/-! ### Abandoning -/

/-- A unit drive in none of the phases that claim load has no claim. -/
theorem unclaimed_freed {d : Device} {j : ActiveJob} (hj : d.drive.active = some j) (unit : j.job.tag?.isSome = true)
    (ph : j.phase = .halted ∨ j.phase = .window ∨ j.phase = .pulse) : Freed d d := by
  have idle : ¬ ((j.phase = .turning ∧ j.job.tag?.isSome = true) ∨ (j.phase = .pulse ∧ j.job.tag? = none)) := by
    rintro (⟨turning, -⟩ | ⟨-, fit⟩)
    · rcases ph with ph | ph | ph <;> rw [ph] at turning <;> cases turning
    · rw [fit] at unit
      cases unit
  refine ⟨Keeps.refl d, rfl, fun _ => rfl, fun _ => rfl, fun hc => claimsOf_zero.mpr fun c hm e => ?_, fun _ hm => ?_⟩
  · rcases List.mem_append.mp hm with m | m
    · obtain ⟨k, hk, kp⟩ := hc.2.2 c m e
      obtain rfl := Option.some.inj (hj.symm.trans hk)
      exact idle kp
    · obtain ⟨k, hk, kp⟩ := hc.2.1 c m e
      obtain rfl := Option.some.inj (hj.symm.trans hk)
      rcases ph with ph | ph | ph <;> rw [ph] at kp <;> cases kp
  · cases he : d.drive.energized with
    | none => exact ⟨rfl, hm.1 he⟩
    | some n =>
      obtain ⟨k, hk, -, kp, -⟩ := hm.2 n he
      obtain rfl := Option.some.inj (hj.symm.trans hk)
      exact absurd kp idle

theorem abandonReport_reports (tag : Nat) (j : ActiveJob) (d : Device) : Reports d (d.abandonReport tag j) := by
  unfold Device.abandonReport
  split
  · exact unitDelivered_reports tag d
  · exact Reports.refl d

/-- The end of a freed unit drive, with its report: no unit drive is left. -/
theorem Freed.abandoned {d m : Device} {j : ActiveJob} (tag : Nat) (h : Freed d m) (hj : d.drive.active = some j)
    (open_ : unreported j = true) (unit : j.job.tag?.isSome = true) :
    Holds d (m.endJob.abandonReport tag j) ∧
      (d.driveClaims → SaleBut none d → (m.endJob.abandonReport tag j).drive.units = []) := by
  refine ⟨Reports.keeps h.endJob (abandonReport_reports tag j _) fun hc hs hm => ?_,
    fun hc hs => (abandonReport_reports tag j _).units (h.no_units hj open_ unit hc hs)⟩
  unfold Device.abandonReport
  split
  · exact unitDelivered_sale tag hm (h.no_units hj open_ unit hc hs)
  · exact hm

/-- R39: the abandoned unit of the current order leaves no unit drive. -/
theorem abandon_spec (tag : Nat) (d : Device) : Holds d (d.abandon tag) ∧
    (d.driveClaims → SaleBut none d → (∃ o, d.queue.current? = some o ∧ o.tag = tag) → (d.abandon tag).drive.units = []) := by
  unfold Device.abandon
  cases found : d.drive.unitOf tag with
  | none =>
    refine ⟨unlist_keeps tag d, ?_⟩
    rintro - hs ⟨o, hc, rfl⟩
    exact unlist_units hs.units hc found
  | some j =>
    obtain ⟨hj, ht, open_⟩ := unitOf_some found
    have unit : j.job.tag?.isSome = true := by rw [ht]; rfl
    have whole {m : Device} (h : Freed d m) : Holds d (m.endJob.abandonReport tag j) ∧ (d.driveClaims → SaleBut none d →
        (∃ o, d.queue.current? = some o ∧ o.tag = tag) → (m.endJob.abandonReport tag j).drive.units = []) :=
      ⟨(h.abandoned tag hj open_ unit).1, fun hc hs _ => (h.abandoned tag hj open_ unit).2 hc hs⟩
    dsimp only
    cases ph : j.phase with
    | waitLoad => exact whole (withdrawDrive_freed hj ph)
    | turning => exact whole (stopWork_freed _ hj (Or.inl ph))
    | halted => exact whole (unclaimed_freed hj unit (Or.inl ph))
    | window => exact whole (unclaimed_freed hj unit (Or.inr (Or.inl ph)))
    | pulse => exact whole (unclaimed_freed hj unit (Or.inr (Or.inr ph)))

theorem giveUp_keeps {d : Device} {o : Order} (cause : EndCause) (ho : o ∈ d.queue.orders) : Holds d (d.giveUp o cause) := by
  unfold Device.giveUp
  split
  next taken =>
    rw [Bool.and_eq_true] at taken
    obtain ⟨keeps, free⟩ := abandon_spec o.tag d
    refine Reports.keeps keeps (endOrder_reports o.tag cause _) fun hc hs hm => endOrder_sale o.tag cause hm ?_
    exact fun _ _ _ _ => free hc hs ⟨o, current?_of_mem hs.queue ho taken.1, rfl⟩
  next idle =>
    refine Reports.keeps (Holds.refl d) (endOrder_reports o.tag cause d) fun _ hs _ => endOrder_sale o.tag cause hs ?_
    intro y hy ty cur
    obtain rfl := eq_of_tag hs.tags hy ho ty
    refine units_nil_of_current hs.units (Or.inr ?_)
    simpa [cur] using idle

/-! ### Revocation -/

/-- A fit check at the head of an idle drive's list adds no unit drive. -/
theorem relisted_sale {x : Option (Fin 64)} {d : Device} (n : Fin 64) (h : SaleBut x d) :
    SaleBut x (withJobs (.fitCheck n :: d.drive.jobs) d.endJob) := by
  have ended := endJob_sale h
  have units : (withJobs (.fitCheck n :: d.drive.jobs) d.endJob).drive.units = d.endJob.drive.units := by
    rw [units_idle (v := d.endJob.drive) rfl, units_idle rfl]
    rfl
  refine ⟨ended.queue, ⟨by rw [units]; exact ended.units.1, ended.units.2.1, fun job hjob => ?_⟩, ended.lanes⟩
  rw [units] at hjob
  exact ended.units.2.2 job hjob

/-- R41: a revoked fit check, the drive's claim gone with the revocation. -/
theorem fitRevoked_keeps {d₀ d : Device} (n : Fin 64) (h : Keeps d₀ d) (free : d₀.driveClaims → d.load.claimsOf .drive = 0) :
    Keeps d₀ (d.fitRevoked n) := by
  obtain ⟨drive, load, -⟩ := stopMotors_spec n d
  have stopped := h.trans (stopMotors_keeps n d)
  refine KeepsIf.takeFrom (R := False) (m := withJobs (.fitCheck n :: (d.stopMotors n).drive.jobs) (d.stopMotors n).endJob) ?_ _
  exact {
    list := fun no => no.elim
    claims := fun hc => driveClaims_of_none ((congrArg (LoadBudget.claimsOf .drive) load).trans (free hc))
    matrix := fun _ _ => by
      have off : (d.stopMotors n).drive.energized = none ∧ (d.stopMotors n).drive.rows = 0#8 ∧
          (d.stopMotors n).drive.cols = 0#8 := by rw [drive]; exact ⟨rfl, rfl, rfl⟩
      exact ⟨fun _ => off.2, fun m hm => absurd (off.1.symm.trans hm) (by simp)⟩
    rest := fun _ hc hr => stopped.rest trivial hc hr
    tubes := fun _ => stopped.tubes trivial
    motors := stopped.motors
    sale := saleBut_of_parts fun hc hs => relisted_sale n (stopped.saleBut hc hs) }

theorem driveRevoked_keeps {d₀ d : Device} (h : Keeps d₀ d) (free : d₀.driveClaims → d.load.claimsOf .drive = 0) :
    Keeps d₀ d.driveRevoked := by
  unfold Device.driveRevoked
  split
  · exact h
  · exact fitRevoked_keeps _ h free
  · exact (h.holds.trans (haltOrder_keeps true d)).conclude _

theorem claim_noDrive {d : Device} {c : Claim} (hc : c.who ≠ .drive) (h : d.load.claimsOf .drive = 0) :
    (d.claim c).load.claimsOf .drive = 0 := by
  rw [claimsOf_zero] at h ⊢
  rw [claim_entries]
  intro x hx
  rcases List.mem_append.1 hx with hx | hx
  · exact h x hx
  · rw [List.mem_singleton.1 hx]
    exact hc

theorem giveBack_noDrive {d : Device} (who : Claimant) (h : d.load.claimsOf .drive = 0) :
    (d.giveBack who).load.claimsOf .drive = 0 := by
  unfold Device.giveBack
  split
  · refine (grantTest_noDrive (claimsOf_zero.2 fun c hc => ?_)).2
    refine claimsOf_zero.1 h c ?_
    exact (List.filter_sublist.append (List.Sublist.refl _)).subset hc
  · exact h

/-- The revocation of another holder makes no claim of the drive. -/
theorem revoked_noDrive {d : Device} {who : Claimant} (hw : who ≠ .drive) (h : d.load.claimsOf .drive = 0) :
    (d.revoked who).load.claimsOf .drive = 0 := by
  cases who with
  | drive => exact absurd rfl hw
  | payout => exact claim_noDrive (by simp [payoutClaim]) h
  | compressor =>
    show (Device.compressorRevoked d).load.claimsOf .drive = 0
    unfold Device.compressorRevoked
    split
    · exact giveBack_noDrive _ h
    · exact h
  | heater z => exact claim_noDrive (by simp [heaterClaim]) h

theorem revoked_keeps {d₀ d : Device} {who : Claimant} (hw : who ≠ .drive) (h : Keeps d₀ d) : Keeps d₀ (d.revoked who) := by
  cases who with
  | drive => exact absurd rfl hw
  | payout => exact h.trans (payoutRevoked_keeps d)
  | compressor => exact h.trans (compressorRevoked_keeps d)
  | heater z => exact h.trans (claimHeater_keeps z d)

/-- The holders are told, the drive among them once at most and then without a claim. -/
theorem revokeHolders_keeps {d₀ : Device} (holders : List Claim) : ∀ {d : Device}, Keeps d₀ d →
    (d₀.driveClaims → (holders.filter (·.who = .drive)).length ≤ 1) →
    ((∃ c ∈ holders, c.who = .drive) → d₀.driveClaims → d.load.claimsOf .drive = 0) →
    Keeps d₀ (holders.foldl (fun d c => d.revoked c.who) d) := by
  induction holders with
  | nil => exact fun h _ _ => h
  | cons c rest ih =>
    intro d h once free
    by_cases hc : c.who = .drive
    · have told : Keeps d₀ (d.revoked c.who) := by
        rw [hc]
        exact driveRevoked_keeps h (free ⟨c, List.mem_cons_self, hc⟩)
      refine ih told (fun claims => ?_) ?_
      · exact (((List.sublist_cons_self c rest).filter _).length_le).trans (once claims)
      · rintro ⟨x, hx, drive⟩ claims
        have two := once claims
        rw [List.filter_cons_of_pos (by simpa using hc), List.length_cons] at two
        have one : 0 < (rest.filter (·.who = .drive)).length :=
          List.length_pos_of_mem (List.mem_filter.2 ⟨hx, decide_eq_true drive⟩)
        omega
    · refine ih (revoked_keeps hc h) (fun claims => ?_) ?_
      · have same := once claims
        rwa [List.filter_cons_of_neg (by simpa using hc)] at same
      · rintro ⟨x, hx, drive⟩ claims
        exact revoked_noDrive hc (free ⟨x, List.mem_cons_of_mem _ hx, drive⟩ claims)

/-- Every grant gone. -/
def ungranted (d : Device) : Device := { d with load := { d.load with grants := [] } }

theorem ungranted_keeps (d : Device) : Keeps d (ungranted d) := by
  have none : d.load.grants.filter (fun _ => false) = [] := List.filter_false _
  have := keeps_of_load (claimsSub_grants .drive d.load fun _ => false) (claimsSub_grants .compressor d.load fun _ => false)
  rw [none] at this
  exact this

theorem revokeAll_keeps (d : Device) : Keeps d d.revokeAll := by
  refine revokeHolders_keeps d.load.grants (ungranted_keeps d) (fun claims => ?_) ?_
  · exact (((List.sublist_append_left _ _).filter _).length_le).trans claims.1
  · rintro ⟨c, hc, drive⟩ claims
    refine claimsOf_zero.2 fun x hx => ?_
    exact granted_is_only hc drive claims.1 x hx

theorem enterBand_keeps (b : Band) (d : Device) : Keeps d (d.enterBand b) := by
  unfold Device.enterBand
  dsimp only
  have raised : Quiet d (Device.raise .supplyChanged { d with load := { d.load with band := b } }) := {}
  cases b with
  | normal => exact raised.keeps.trans (grantTest_keeps _)
  | low => exact raised.keeps
  | critical => exact raised.keeps.trans (revokeAll_keeps _)

theorem supplySample_keeps (sample : Sample) (d : Device) : Keeps d (d.supplySample sample) := by
  unfold Device.supplySample
  dsimp only
  have noted : Quiet d { d with load := { d.load with supply := some sample } } := {}
  split
  · exact noted.keeps
  · exact noted.keeps.trans (enterBand_keeps _ _)

/-! ### The scanner -/

theorem updateScanner_quiet (f : Scanner → Scanner) (d : Device) : Quiet d (d.updateScanner f) := {}

theorem handSample_keeps (c : Fin 8) (at_ : Nat) (sample : Sample) (d : Device) : Keeps d (d.handSample c at_ sample) := by
  unfold Device.handSample
  split
  · exact airSample_keeps 0 sample d
  · exact evaporatorSample_keeps 0 sample d
  · exact airSample_keeps 1 sample d
  · exact evaporatorSample_keeps 1 sample d
  · exact condenserSample_keeps sample d
  · exact supplySample_keeps sample d
  · exact motorSample_keeps at_ sample d
  · exact Keeps.refl d

theorem storeSample_keeps (c : Fin 8) (at_ : Nat) (sample : Sample) (d : Device) : Keeps d (d.storeSample c at_ sample) :=
  (updateScanner_quiet _ d).keeps.trans (handSample_keeps c at_ sample _)

theorem conversionEnd_keeps (reading : Nat) (d : Device) : Keeps d (d.conversionEnd reading) := by
  unfold Device.conversionEnd
  split
  · exact Keeps.refl d
  next k _ =>
    have ended := (reach_quiet k.ends d).trans
      (updateScanner_quiet (fun s => { s with converting := none }) (d.reach k.ends))
    exact (ended.keeps.trans (storeSample_keeps _ _ _ _)).trans (updateScanner_quiet _ _).keeps

theorem periodExpiry_keeps (d : Device) : Keeps d d.periodExpiry :=
  onExpiry_keeps fun _ _ => (updateScanner_quiet _ _).keeps

theorem priorityExpiry_keeps (d : Device) : Keeps d d.priorityExpiry :=
  onExpiry_keeps fun _ _ => (updateScanner_quiet _ _).keeps

theorem readSample_quiet (channel : Nat) (d : Device) : Quiet d (readSample channel d).1 := by
  unfold readSample
  split
  · exact Quiet.refl d
  · exact {}

theorem scanNow_quiet (d : Device) : Quiet d (scanNow d).1 := by
  unfold scanNow
  split
  · exact Quiet.refl d
  · exact {}

theorem amendChannel_quiet (channel : Nat) (a : ChannelAmend) (d : Device) : Quiet d (amendChannel channel a d).1 := by
  unfold amendChannel
  split
  · exact Quiet.refl d
  · dsimp only
    split
    · exact Quiet.refl d
    split
    · exact Quiet.refl d
    · dsimp only [okay]
      split
      · exact (updateScanner_quiet _ d).trans (updateScanner_quiet _ _)
      · exact updateScanner_quiet _ d

theorem amendScan_quiet (period : Nat) (d : Device) : Quiet d (amendScan period d).1 := by
  unfold amendScan
  split
  · exact {}
  · exact Quiet.refl d

/-! ### The supervised inputs -/

theorem updateInput_quiet (i : InputName) (f : Input → Input) (d : Device) : Quiet d (d.updateInput i f) := {}

theorem handInput_keeps (i : InputName) (st : InputState) (d : Device) : Keeps d (d.handInput i st) := by
  unfold Device.handInput
  split
  · exact (haltOrder_keeps false d).conclude _
  · exact (startHead_holds d).takeFrom _
  · exact ((startUnit_holds d).trans (startHead_holds _)).takeFrom _
  · exact (recomputeMask_quiet d).keeps
  · exact Keeps.refl d
  · exact Keeps.refl d

theorem judgeInput_keeps (i : InputName) (quiet : Bool) (d : Device) : Keeps d (d.judgeInput i quiet) := by
  unfold Device.judgeInput
  dsimp only
  split
  · exact Keeps.refl d
  · have judged := updateInput_quiet i (fun r => { r with state := (d.input i).judged }) d
    split
    · exact judged.keeps.trans (handInput_keeps _ _ _)
    · exact (judged.trans (raise_quiet _ _)).keeps.trans (handInput_keeps _ _ _)

theorem inputLineEdge_quiet (i : InputName) (level : Level) (d : Device) : Quiet d (d.inputLineEdge i level) := by
  unfold Device.inputLineEdge
  split
  · exact Quiet.refl d
  · exact updateInput_quiet i _ d

theorem inputChange_keeps (i : InputName) (d : Device) : Keeps d (d.inputChange i) :=
  onExpiry_keeps fun _ _ => (updateInput_quiet i _ _).keeps.trans (judgeInput_keeps i _ _)

theorem amendInput_keeps (input level : Nat) (d : Device) : Keeps d (amendInput input level d).1 := by
  unfold amendInput
  split
  · exact (updateInput_quiet _ _ d).keeps.trans (judgeInput_keeps _ false _)
  · exact Keeps.refl d

end Sys2Proof.Proofs
end

section
/-! SUPPORT. The requests of the lane table, the order queue, the drive and the load budget keep every invariant. -/
namespace Sys2Proof.Proofs

open Sys2Proof.Machine Sys2Proof.Laws

-- One proof at a time: together they wait for the kernel in a thread each, and the memory limit is met.
set_option Elab.async false

/-! ### Slots -/

theorem not_held {d : Device} {n p : Fin 64} (h : d.positionHeld n p = false) {m : Fin 64} {l : Lane} (hm : m ≠ n)
    (hl : d.lane? m = some l) : m ≠ p ∧ l.companion ≠ some p := by
  rw [Device.positionHeld, List.any_eq_false] at h
  have := h m (mem_allLanes m)
  simpa [hm, hl] using this

/-- A slot filled anew keeps every invariant, when its motor positions are no other lane's and its counts are in order. -/
theorem setSlot_keeps {d : Device} {n : Fin 64} {l : Lane}
    (motors : d.motorsSound → (∀ c, l.companion = some c → c ≠ n ∧ (c.val / 8 = n.val / 8 ∨ c.val % 8 = n.val % 8)) ∧
      ∀ m k, m ≠ n → d.lane? m = some k →
        k.companion ≠ some n ∧ ∀ c, l.companion = some c → m ≠ c ∧ k.companion ≠ some c)
    (counts : d.lanesSound → l.reserved ≤ l.stock ∧ l.stock ≤ l.capacity ∧ l.reserved = d.queue.owed n) :
    Keeps d (d.setSlot n (some l)) where
  list _ := id
  claims h := h
  matrix _ h := h
  rest _ hc hr := ⟨hc, hr⟩
  tubes _ := id
  motors h := by
    obtain ⟨own, others⟩ := motors h
    intro m k c hk hc
    rw [lane?_setSlot] at hk
    split at hk
    next e =>
      subst e
      obtain rfl := Option.some.inj hk
      obtain ⟨apart, near⟩ := own c hc
      refine ⟨apart, near, ?_, fun x y hx hy => ?_⟩
      · rw [lane?_setSlot, if_neg apart]
        cases hl : d.lane? c with
        | none => rfl
        | some y => exact absurd rfl ((others c y apart hl).2 c hc).1
      · rw [lane?_setSlot, if_neg hx] at hy
        exact ((others x y hx hy).2 c hc).2
    next e =>
      obtain ⟨apart, near, free, only⟩ := h m k c hk hc
      obtain ⟨notOwn, notHis⟩ := others m k e hk
      have away : c ≠ n := fun hcn => notOwn (hcn ▸ hc)
      refine ⟨apart, near, by rw [lane?_setSlot, if_neg away]; exact free, fun x y hx hy => ?_⟩
      rw [lane?_setSlot] at hy
      split at hy
      · obtain rfl := Option.some.inj hy
        exact fun same => (notHis c same).2 hc
      · exact only x y hx hy
  sale _ q u h := by
    refine ⟨q, u, fun m k hk => ?_, fun o ho live => ?_⟩
    · rw [lane?_setSlot] at hk
      split at hk
      next e =>
        obtain rfl := Option.some.inj hk
        exact e ▸ counts h
      · exact h.1 m k hk
    · obtain ⟨owes, there⟩ := h.2 o ho live
      refine ⟨owes, ?_⟩
      rw [lane?_setSlot]
      split
      · rfl
      · exact there

/-- A record written over one with the same companion. -/
theorem rewrite_keeps {d : Device} {n : Fin 64} {l l' : Lane} (hl : d.lane? n = some l) (same : l'.companion = l.companion)
    (counts : d.lanesSound → l'.reserved ≤ l'.stock ∧ l'.stock ≤ l'.capacity ∧ l'.reserved = d.queue.owed n) :
    Keeps d (d.setSlot n (some l')) := by
  refine setSlot_keeps (fun h => ⟨fun c hc => ?_, fun m k hm hk => ⟨fun hc => ?_, fun c hc => ⟨?_, ?_⟩⟩⟩) counts
  · obtain ⟨apart, near, -⟩ := h n l c hl (same ▸ hc)
    exact ⟨apart, near⟩
  · exact absurd (hl.symm.trans (h m k n hk hc).2.2.1) (by simp)
  · rintro rfl
    exact absurd (hk.symm.trans (h n l m hl (same ▸ hc)).2.2.1) (by simp)
  · exact (h n l c hl (same ▸ hc)).2.2.2 m k hm hk

/-- A fit check that joins the list adds no unit drive. -/
theorem joinJobs_keeps (n : Fin 64) (d : Device) : Keeps d (d.joinJobs (.fitCheck n)) := by
  refine KeepsIf.takeFrom (m := withJobs (d.drive.jobs ++ [.fitCheck n]) d) (keeps_of_jobs fun _ h => ?_) _
  have units : (withJobs (d.drive.jobs ++ [.fitCheck n]) d).drive.units = d.drive.units := by
    rw [units_eq, units_eq]
    show List.filter _ (_ ++ (d.drive.jobs ++ [Job.fitCheck n])) = _
    rw [← List.append_assoc, List.filter_append]
    exact List.append_nil _
  refine ⟨h.queue, ⟨by rw [units]; exact h.units.1, h.units.2.1, fun job hjob => ?_⟩, h.lanes⟩
  rw [units] at hjob
  exact h.units.2.2 job hjob

/-! ### The lane table's requests -/

/-- A request on an enrolled lane. -/
theorem onLane_keeps {lane : Nat} {f : Fin 64 → Lane → Device → Device × Reply} {d : Device}
    (h : ∀ n l, d.lane? n = some l → Keeps d (f n l d).1) : Keeps d (onLane lane f d).1 := by
  unfold onLane
  split
  · exact Keeps.refl d
  next n _ =>
    split
    · exact Keeps.refl d
    next l hl => exact h n l hl

theorem readEnrolled_quiet (n : Fin 64) (l : Lane) (d : Device) : Quiet d (readEnrolled n l d).1 := {}

theorem readLane_keeps (form lane : Nat) (d : Device) : Keeps d (readLane form lane d).1 := by
  unfold readLane
  split
  · exact onLane_keeps fun n l _ => (readEnrolled_quiet n l d).keeps
  · split
    · exact Keeps.refl d
    · exact onLane_keeps fun n l _ => (readEnrolled_quiet n l d).keeps
  · exact Keeps.refl d

/-- The geometry R8 asks of a companion. -/
theorem companionOk_near {n : Fin 64} {g : Option Nat} (h : companionOk n g = true) {c : Fin 64}
    (hc : position g = some c) : c ≠ n ∧ (c.val / 8 = n.val / 8 ∨ c.val % 8 = n.val % 8) := by
  rw [companionOk, position_eq_some.1 hc] at h
  simp only [Option.all_some, companionFits, Bool.and_eq_true, decide_eq_true_eq, bne_iff_ne, Bool.or_eq_true] at h
  exact ⟨fun e => h.1.2 (by rw [e]), h.2⟩

/-- R9: an enrolment in range, on a vacant slot with its motor positions free. -/
theorem enrol_keeps {n : Fin 64} {g : LaneSettings} {d : Device} (range : LaneSettings.inRange g n = true)
    (vacant : d.lane? n = none) (free : d.motorTaken n (position g.companion) = false) : Keeps d (enrol n g d) := by
  simp only [LaneSettings.inRange, Bool.and_eq_true, decide_eq_true_eq] at range
  obtain ⟨⟨⟨⟨⟨⟨⟨-, stock⟩, -⟩, -⟩, near⟩, -⟩, -⟩, -⟩ := range
  obtain ⟨own, companion⟩ := Bool.or_eq_false_iff.1 free
  have stamped : Quiet d d.giveStamp := {}
  refine (stamped.keeps.trans (setSlot_keeps (fun _ => ⟨fun c hc => companionOk_near near hc, fun m k hm hk =>
    ⟨(not_held own hm hk).2, fun c hc => ?_⟩⟩) fun h => ⟨Nat.zero_le _, stock, ?_⟩)).trans (joinJobs_keeps n _)
  · refine not_held ((Option.any_eq_false _ _).1 companion c hc) hm hk
  · refine (owed_zero fun o ho live lane => ?_).symm
    have there := (h.2 o ho live).2
    rw [lane] at there
    have : (d.lane? n).isSome = true := there
    rw [vacant] at this
    cases this

theorem enrolLane_keeps (lane : Nat) (g : LaneSettings) (d : Device) : Keeps d (enrolLane lane g d).1 := by
  unfold enrolLane
  split
  · exact Keeps.refl d
  next n _ =>
    split
    · exact Keeps.refl d
    next range =>
      split
      · exact Keeps.refl d
      next vacant =>
        split
        · exact Keeps.refl d
        next free =>
          exact enrol_keeps (by simpa using range) (by simpa using vacant) (by simpa using free)

/-- A check that refuses nothing passes, and so do those after it. -/
theorem check_passes {p : Prop} [Decidable p] {st : Status} {rest : Option Status}
    (h : (if p then some st else rest) = none) : ¬ p ∧ rest = none := by
  by_cases hp : p
  · rw [if_pos hp] at h
    cases h
  · exact ⟨hp, by rwa [if_neg hp] at h⟩

/-- R10: a new companion is in range and its position free. -/
theorem amend_companion {a : LaneAmend} {n : Fin 64} {l : Lane} {d : Device} (range : LaneAmend.inRange a n l = true)
    (taken : LaneAmend.refusal a n l d = none) (moves : LaneAmend.moves a l = true) {c : Fin 64}
    (hc : LaneAmend.companionAfter a l = some c) :
    (c ≠ n ∧ (c.val / 8 = n.val / 8 ∨ c.val % 8 = n.val % 8)) ∧ d.positionHeld n c = false := by
  constructor
  · simp only [LaneAmend.inRange, Bool.and_eq_true] at range
    obtain ⟨⟨⟨⟨⟨⟨⟨-, near⟩, -⟩, -⟩, -⟩, -⟩, -⟩, -⟩ := range
    cases named : a.companion with
    | none => exact absurd (by rw [LaneAmend.companionAfter, named]) (moves_iff.1 moves)
    | some g =>
      rw [LaneAmend.companionAfter, named] at hc
      rw [named, Option.all_some] at near
      exact companionOk_near near hc
  · have last := (check_passes (check_passes (check_passes (check_passes (check_passes taken).2).2).2).2).2
    have free := (check_passes last).1
    simpa [moves, hc] using free

/-- R10: a new capacity holds the stock. -/
theorem amend_capacity {a : LaneAmend} {n : Fin 64} {l : Lane} (range : LaneAmend.inRange a n l = true)
    (fits : l.stock ≤ l.capacity) : l.stock ≤ a.capacity.getD l.capacity := by
  simp only [LaneAmend.inRange, Bool.and_eq_true] at range
  obtain ⟨⟨⟨⟨⟨⟨⟨⟨⟨⟨-, named⟩, -⟩, -⟩, -⟩, -⟩, -⟩, -⟩, -⟩, -⟩, -⟩ := range
  cases hc : a.capacity with
  | none => exact fits
  | some v =>
    rw [hc, Option.all_some, decide_eq_true_eq] at named
    exact named

theorem amendWrites_keeps {a : LaneAmend} {n : Fin 64} {l : Lane} {d : Device} (hl : d.lane? n = some l)
    (range : LaneAmend.inRange a n l = true) (taken : LaneAmend.refusal a n l d = none) : Keeps d (amendWrites a n l d) := by
  have counts (e : Nat) (h : d.lanesSound) : (LaneAmend.applied a e l).reserved ≤ (LaneAmend.applied a e l).stock ∧
      (LaneAmend.applied a e l).stock ≤ (LaneAmend.applied a e l).capacity ∧
      (LaneAmend.applied a e l).reserved = d.queue.owed n := by
    obtain ⟨reserved, stock, owed⟩ := h.1 n l hl
    exact ⟨reserved, amend_capacity range stock, owed⟩
  have written (e : Nat) : Keeps d (d.setSlot n (some (LaneAmend.applied a e l))) := by
    by_cases moves : LaneAmend.moves a l = true
    · refine setSlot_keeps (fun h => ⟨fun c hc => (amend_companion range taken moves hc).1, fun m k hm hk =>
        ⟨fun hc => ?_, fun c hc => not_held (amend_companion range taken moves hc).2 hm hk⟩⟩) (counts e)
      exact absurd (hl.symm.trans (h m k n hk hc).2.2.1) (by simp)
    · exact rewrite_keeps hl (by simpa [LaneAmend.moves, LaneAmend.applied] using moves) (counts e)
  unfold amendWrites
  dsimp only
  rw [updateLane_some hl]
  split
  · exact (written _).trans (decideHold_quiet n _ _).keeps
  · exact written _

theorem amendLane_keeps (lane : Nat) (a : LaneAmend) (d : Device) : Keeps d (amendLane lane a d).1 := by
  refine onLane_keeps fun n l hl => ?_
  split
  · exact Keeps.refl d
  next range =>
    split
    · exact Keeps.refl d
    next taken =>
      have writes := amendWrites_keeps hl (by simpa using range) taken
      simp only [okay, amendEnrolled_eq]
      split
      · exact writes.trans (joinJobs_keeps n _)
      · exact writes

theorem restockLane_keeps (lane stock : Nat) (d : Device) : Keeps d (restockLane lane stock d).1 := by
  unfold restockLane
  split
  · exact Keeps.refl d
  · refine onLane_keeps fun n l hl => ?_
    split
    · exact Keeps.refl d
    next fits =>
      simp only [Bool.or_eq_true, decide_eq_true_eq, not_or, Nat.not_lt] at fits
      have stamped : Quiet d d.giveStamp := {}
      dsimp only
      have lane : d.giveStamp.lane? n = some l := hl
      rw [updateLane_some lane]
      exact stamped.keeps.trans (rewrite_keeps lane rfl fun h => ⟨fits.2, fits.1, (h.1 n l hl).2.2⟩)

theorem checkLane_keeps (lane : Nat) (d : Device) : Keeps d (checkLane lane d).1 := by
  refine onLane_keeps fun n l _ => ?_
  split
  · exact Keeps.refl d
  · exact (updateLane_quiet n d).keeps.trans (joinJobs_keeps n _)

/-- An enrolled lane's slot emptied, once no live order is on it. -/
theorem vacate_keeps {d m : Device} {n : Fin 64} (h : Keeps d m)
    (free : SaleBut none d → ∀ o ∈ m.queue.orders, o.state.live = true → o.lane ≠ n) : Keeps d (m.setSlot n none) where
  list := h.list
  claims := h.claims
  matrix := h.matrix
  rest := h.rest
  tubes := h.tubes
  motors hm := by
    have sound := h.motors hm
    intro x l c hl hc
    rw [lane?_setSlot] at hl
    split at hl
    · cases hl
    · obtain ⟨apart, near, vacant, only⟩ := sound x l c hl hc
      refine ⟨apart, near, ?_, fun y k hy hk => ?_⟩
      · rw [lane?_setSlot]
        split
        · rfl
        · exact vacant
      · rw [lane?_setSlot] at hk
        split at hk
        · cases hk
        · exact only y k hy hk
  sale hc q u l := by
    have free := free ⟨q, u, lanesSoundBut_none.mpr l⟩
    obtain ⟨q', u', l'⟩ := h.sale hc q u l
    refine ⟨q', u', fun x k hk => ?_, fun o ho live => ?_⟩
    · rw [lane?_setSlot] at hk
      split at hk
      · cases hk
      · exact l'.1 x k hk
    · obtain ⟨owes, there⟩ := l'.2 o ho live
      exact ⟨owes, by rw [lane?_setSlot, if_neg (free o ho live)]; exact there⟩

/-- QUEUED orders that end. -/
theorem cancels_keeps {d e : Device} {cause : EndCause} {xs : List Order} (h : Reports d e)
    (cancels : tagsDistinct d.queue → Cancels cause xs d e) : Keeps d e :=
  Reports.keeps (Keeps.refl d) h fun _ hs _ => (cancels hs.tags).sale none hs

theorem retireLane_keeps (lane : Nat) (d : Device) : Keeps d (retireLane lane d).1 := by
  refine onLane_keeps fun n l hl => ?_
  split
  · exact Keeps.refl d
  next idle =>
    simp only [laneBusy, Bool.or_eq_true, not_or, Bool.not_eq_true] at idle
    have cancels := cancelQueued_cancels (d := d) n .laneRetired
    have ended : Keeps d (d.cancelQueued n .laneRetired) := cancels_keeps (endAll_reports _ _ d) cancels
    have left (e : Device) : Quiet e (e.leaveChanged n) := {}
    refine KeepsIf.conclude (Keeps.trans (b := (d.cancelQueued n .laneRetired).setSlot n none) ?_ (left _).keeps) _
    refine vacate_keeps ended fun hs => (cancels hs.tags).lane_free fun o ho lane => ?_
    have none := List.any_eq_false.1 idle.2 o ho
    simpa [lane] using none

end Sys2Proof.Proofs
end

section
/-! SUPPORT. The requests of the order queue, the drive and the load budget keep every invariant. -/
namespace Sys2Proof.Proofs

open Sys2Proof.Machine Sys2Proof.Laws

-- One proof at a time: together they wait for the kernel in a thread each, and the memory limit is met.
set_option Elab.async false

/-! ### PLACE ORDER -/

/-- R53: the orders with one placed at the queue's tail, its units reserved on its lane. -/
def enqueued (o : Order) (d : Device) : Device :=
  Device.reserve o.lane o.quantity { d with queue := { d.queue with orders := d.queue.orders ++ [o] } }

theorem enqueued_lane (o : Order) (d : Device) (m : Fin 64) : (enqueued o d).lane? m =
    if m = o.lane then (d.lane? m).map fun l => { l with reserved := l.reserved + o.quantity } else d.lane? m := by
  rw [enqueued, Device.reserve, lane?_updateLane]
  split
  next e => rw [e]; rfl
  · rfl

theorem enqueued_eq (o : Order) (d : Device) :
    enqueued o d = { d with table := (enqueued o d).table, queue := { d.queue with orders := d.queue.orders ++ [o] } } := by
  rw [enqueued, Device.reserve, updateLane_eq]

theorem enqueued_reports (o : Order) (d : Device) : Reports d (enqueued o d) := by
  refine ⟨?_, companions_updateLane (enqueued_lane o d) fun _ => rfl⟩
  rw [enqueued_eq]
  intro p hp
  cases p <;> first | rfl | simp at hp

/-- What PLACE ORDER has checked of an order: room and a fresh tag, and a lane with the units to spare. -/
structure Placeable (o : Order) (l : Lane) (d : Device) : Prop where
  room : d.queue.orders.length < 8
  fresh : ∀ x ∈ d.queue.orders, x.tag ≠ o.tag
  queued : o.state = .queued
  undelivered : o.delivered = 0
  owing : 0 < o.quantity
  lane : d.lane? o.lane = some l
  spare : o.quantity + l.reserved ≤ l.stock

theorem enqueued_sale {o : Order} {l : Lane} {d : Device} (p : Placeable o l d) (h : SaleBut none d) :
    SaleBut none (enqueued o d) := by
  have drive : (enqueued o d).drive = d.drive := (enqueued_reports o d).drive
  have queue : (enqueued o d).queue = { d.queue with orders := d.queue.orders ++ [o] } := by rw [enqueued_eq]
  have waits : o.state.current = false := by rw [p.queued]; rfl
  have live : o.state.live = true := by rw [p.queued]; rfl
  have current : (enqueued o d).queue.current? = d.queue.current? := by
    rw [queue, OrderQueue.current?, OrderQueue.current?]
    show List.find? _ (d.queue.orders ++ [o]) = _
    rw [List.find?_append, List.find?_cons_of_neg (by simp [waits]), List.find?_nil, Option.or_none]
  have owed (n : Fin 64) : (enqueued o d).queue.owed n = d.queue.owed n + owedBy n o := by
    rw [queue, owed_eq, owed_eq]
    simp
  refine ⟨?_, ?_, fun n k hk => ?_, fun y hy ylive => ?_⟩
  · rw [queue]
    obtain ⟨len, tags, one⟩ := h.queue
    refine ⟨?_, ?_, ?_⟩
    · rw [List.length_append, List.length_singleton]
      exact p.room
    · rw [List.map_append, List.map_singleton, List.nodup_append]
      refine ⟨tags, List.nodup_singleton _, ?_⟩
      rintro a ha b hb rfl
      obtain ⟨x, hx, rfl⟩ := List.mem_map.1 ha
      exact p.fresh x hx (List.mem_singleton.1 hb)
    · rw [List.filter_append, List.filter_cons_of_neg (by simp [waits]), List.filter_nil, List.append_nil]
      exact one
  · exact unitsSound_of_current drive current (by rw [queue]) h.units
  · rw [owed n]
    rw [enqueued_lane] at hk
    split at hk
    next e =>
      subst e
      rw [p.lane] at hk
      obtain rfl := Option.some.inj hk
      obtain ⟨-, cap, owes⟩ := h.lanes.1 _ l p.lane
      have mine : owedBy o.lane o = o.quantity := by simp [owedBy, live, p.undelivered]
      have spare := p.spare
      refine ⟨fun _ => ?_, cap, ?_⟩
      · show l.reserved + o.quantity ≤ l.stock
        omega
      · rw [mine, ← owes]
    next e =>
      obtain ⟨fits, cap, owes⟩ := h.lanes.1 n k hk
      refine ⟨fits, cap, ?_⟩
      have elsewhere : owedBy n o = 0 := by simp [owedBy, Ne.symm e]
      rw [elsewhere, owes, Nat.add_zero]
  · have there (m : Fin 64) (hm : (d.lane? m).isSome = true) : ((enqueued o d).lane? m).isSome = true := by
      rw [enqueued_lane]
      split
      · rw [Option.isSome_map]; exact hm
      · exact hm
    rw [queue] at hy
    rcases List.mem_append.1 hy with hy | hy
    · obtain ⟨owes, enrolled⟩ := h.lanes.2 y hy ylive
      exact ⟨owes, there _ enrolled⟩
    · rw [List.mem_singleton.1 hy, p.undelivered]
      exact ⟨p.owing, there _ (by rw [p.lane]; rfl)⟩

theorem commit_quiet (cost : Nat) (d : Device) : Quiet d (d.commit cost) := {}

theorem place_keeps {o : Order} {l : Lane} {d : Device} (p : Placeable o l d) : Keeps d (place o d) := by
  have placed : Keeps d (enqueued o d) :=
    Reports.keeps (Keeps.refl d) (enqueued_reports o d) fun _ hs _ => enqueued_sale p hs
  refine KeepsIf.takeFrom (Holds.trans (KeepsIf.holds (R := True) ?_) (startHead_holds _)) _
  split
  · exact placed.trans (commit_quiet _ _).keeps
  · exact placed

/-- R4: a sellable lane has the units to spare. -/
theorem sellable_spare {l : Lane} {q : Nat} (h : l.unsellable q 0 = none) : q + l.reserved ≤ l.stock := by
  unfold Lane.unsellable at h
  split at h
  · cases h
  split at h
  · cases h
  split at h
  · cases h
  split at h
  · cases h
  next spare => omega

/-- R51: the lane a placement is resolved to is enrolled and has the units to spare. -/
theorem resolve_ok {p : Placement} {d : Device} {n : Fin 64} {l : Lane} (h : Placement.resolve p d = .ok (n, l)) :
    d.lane? n = some l ∧ p.quantity + l.reserved ≤ l.stock := by
  unfold Placement.resolve at h
  split at h
  · split at h
    · cases h
    next x hx =>
      split at h
      next sells =>
        obtain rfl := Except.ok.inj h
        obtain ⟨m, -, hm⟩ := Option.bind_eq_some_iff.1 hx
        obtain ⟨k, hk, e⟩ := Option.map_eq_some_iff.1 hm
        obtain ⟨rfl, rfl⟩ := Prod.mk.inj e
        exact ⟨hk, sellable_spare sells⟩
      · cases h
      · cases h
  · split at h
    · cases h
    · split at h
      · cases h
      next x hx =>
        obtain rfl := Except.ok.inj h
        have sells := List.find?_some hx
        exact ⟨(mem_vendOrder.1 (List.mem_of_find?_eq_some hx)).1, sellable_spare (Option.isNone_iff_eq_none.1 sells)⟩

theorem placeOrder_keeps (p : Placement) (d : Device) : Keeps d (placeOrder p d).1 := by
  unfold placeOrder
  split
  next range =>
    unfold placeChecked
    split
    · exact Keeps.refl d
    next room =>
      split
      · exact Keeps.refl d
      next fresh =>
        split
        · exact Keeps.refl d
        next n l hr =>
          dsimp only
          split
          · exact Keeps.refl d
          · obtain ⟨hl, spare⟩ := resolve_ok hr
            simp only [Placement.inRange, within, Bool.and_eq_true, Option.all_some, decide_eq_true_eq] at range
            obtain ⟨⟨⟨-, quantity, -⟩, -⟩, -⟩ := range
            refine place_keeps (l := l) ⟨Nat.not_le.1 room, fun x hx e => ?_, rfl, rfl, quantity, hl, spare⟩
            have none := List.find?_eq_none.1 (Option.not_isSome_iff_eq_none.1 fresh) x hx
            exact none (decide_eq_true e)
  · exact Keeps.refl d

/-! ### Queue controls -/

theorem setQueueState_keeps (st : QueueState) (d : Device) : Keeps d (d.setQueueState st) where
  list _ := id
  claims h := h
  matrix _ h := h
  rest _ hc hr := ⟨hc, hr⟩
  tubes _ := id
  motors := id
  sale _ q u l := ⟨q, u, l⟩

theorem resumeQueue_keeps (d : Device) : Keeps d (resumeQueue d).1 :=
  ((setQueueState_keeps _ d).holds.trans (startHead_holds _)).takeFrom _

theorem haltDrive_keeps (d : Device) : Keeps d (haltDrive d).1 := by
  unfold haltDrive
  split
  · exact Keeps.refl d
  · exact (haltOrder_keeps false d).conclude _

/-- R66: the current order is DRIVING again. -/
theorem drivesAgain_keeps {d : Device} {o : Order} (hc : d.queue.current? = some o) : Keeps d (d.updateOrder o.tag drives) ∧
    ((d.updateOrder o.tag drives).queue.sound → (d.updateOrder o.tag drives).queue.current? = some (drives o)) := by
  obtain ⟨ho, cur⟩ := current?_mem hc
  have sound (h : d.queue.sound) : (d.queue.update o.tag drives).sound :=
    sound_update h ho (fun _ => rfl) fun _ => Or.inr cur
  have current (h : (d.queue.update o.tag drives).sound) : (d.queue.update o.tag drives).current? = some (drives o) :=
    current?_of_mem h (mem_changeTag.2 (Or.inr ⟨o, ho, rfl, rfl⟩)) rfl
  refine ⟨keeps_of_sale (fun p hp => by cases p <;> first | rfl | simp at hp) (fun _ => rfl) fun _ h => ?_, current⟩
  refine ⟨sound h.queue, ⟨h.units.1, h.units.2.1, fun job hjob => ?_⟩, ?_⟩
  · obtain ⟨y, hy, jy, pos, -⟩ := h.units.2.2 job hjob
    obtain rfl := Option.some.inj (hc.symm.trans hy)
    exact ⟨drives o, current (sound h.queue), jy, pos, Or.inl rfl⟩
  · have live := current_live cur
    refine lanesSoundBut_update (f := drives) (g := id) h ho rfl
      (fun n => by simp only [Option.map_id_fun, id_eq, ite_self]; rfl) rfl
      (fun _ => ⟨(h.lanes.2 o ho live).1, live⟩) fun l _ _ => ⟨rfl, Nat.le_refl _, id, ?_⟩
    have same : owedBy o.lane (drives o) = owedBy o.lane o := by
      rw [owedBy, owedBy, live]
      rfl
    rw [same, id_eq]

theorem resumeAt_keeps {p : UnitPosition} {d : Device} (hp : d.queue.unitPos = p)
    (driving : d.queue.sound → ∀ o, d.queue.current? = some o → o.state = .driving) : Keeps d (resumeAt p d) := by
  cases p with
  | halted =>
    have posted : Keeps d (d.setUnitPos .posted) :=
      Reports.keeps (Keeps.refl d) (setUnitPos_reports _ d) fun _ _ hm => setUnitPos_sale hm (Or.inl (by simp))
    exact posted.trans (resumeUnit_keeps driving)
  | none => exact (startUnit_holds d).takeFrom _
  | posted => exact Keeps.refl d

theorem resumeDrive_keeps (d : Device) : Keeps d (resumeDrive d).1 := by
  unfold resumeDrive
  split
  · exact Keeps.refl d
  next o hc =>
    split
    · exact Keeps.refl d
    split
    · exact Keeps.refl d
    · obtain ⟨keeps, current⟩ := drivesAgain_keeps hc
      refine keeps.trans (resumeAt_keeps rfl fun sound y hy => ?_)
      obtain rfl := Option.some.inj ((current sound).symm.trans hy)
      rfl

theorem skipOrder_keeps (tag : Nat) (d : Device) : Keeps d (skipOrder tag d).1 := by
  unfold skipOrder
  split
  · exact Keeps.refl d
  · split
    · exact Keeps.refl d
    next o ho =>
      split
      · exact Keeps.refl d
      · exact (giveUp_keeps .skipped (find?_mem ho).1).conclude _

theorem clearCurrent_keeps (d : Device) : Holds d d.clearCurrent := by
  unfold Device.clearCurrent
  split
  · exact Holds.refl d
  next o hc => exact giveUp_keeps .cleared (current?_mem hc).1

theorem clearQueue_keeps (d : Device) : Keeps d (clearQueue d).1 := by
  have cancelled (e : Device) : Keeps e (e.cancelAllQueued .cleared) :=
    cancels_keeps (endAll_reports _ _ e) (cancelAllQueued_cancels .cleared)
  exact (((clearCurrent_keeps d).trans (cancelled _).holds).trans (setQueueState_keeps _ _).holds).conclude _

/-! ### RETIRE ORDER -/

/-- Orders that are kept, every live one among them, keep the sale's invariants. -/
theorem keepOrders_keeps {d : Device} {f : Order → Bool}
    (live : d.queue.sound → ∀ o ∈ d.queue.orders, o.state.live = true → f o = true) : Keeps d (d.keepOrders f) where
  list _ := id
  claims h := h
  matrix _ h := h
  rest _ hc hr := ⟨hc, hr⟩
  tubes _ := id
  motors := id
  sale _ q u l := by
    have live := live q
    have sub : (d.keepOrders f).queue.orders.Sublist d.queue.orders := List.filter_sublist
    have sound : (d.keepOrders f).queue.sound :=
      ⟨sub.length_le.trans q.1, q.2.1.sublist (sub.map _), ((sub.filter _).length_le).trans q.2.2⟩
    have same (g : Order → Bool) (hg : ∀ o, g o = true → o.state.live = true) :
        (d.keepOrders f).queue.orders.filter g = d.queue.orders.filter g := by
      show (d.queue.orders.filter f).filter g = _
      rw [List.filter_filter]
      refine List.filter_congr fun o ho => ?_
      cases hgo : g o with
      | false => rfl
      | true => rw [live o ho (hg o hgo)]; rfl
    refine ⟨sound, ⟨u.1, u.2.1, fun job hjob => ?_⟩, fun n k hk => ?_, fun o ho hl => l.2 o (sub.subset ho) hl⟩
    · obtain ⟨o, hc, jo, pos, st⟩ := u.2.2 job hjob
      obtain ⟨ho, cur⟩ := current?_mem hc
      exact ⟨o, current?_of_mem sound (List.mem_filter.2 ⟨ho, live o ho (current_live cur)⟩) cur, jo, pos, st⟩
    · obtain ⟨fits, cap, owes⟩ := l.1 n k hk
      refine ⟨fits, cap, owes.trans ?_⟩
      have kept := same (fun o => o.state.live && o.lane = n) fun o ho => (Bool.and_eq_true_iff.1 ho).1
      rw [OrderQueue.owed, OrderQueue.owed, kept]

theorem retireOrder_keeps (tag : Nat) (d : Device) : Keeps d (retireOrder tag d).1 := by
  unfold retireOrder
  split
  · exact keepOrders_keeps fun _ _ _ live => live
  · split
    · exact Keeps.refl d
    next o found =>
      split
      · exact Keeps.refl d
      next ended =>
        refine keepOrders_keeps fun sound y hy live => ?_
        obtain ⟨ho, tag⟩ := find?_mem found
        refine decide_eq_true fun e => ended ?_
        rw [← eq_of_tag sound.2.1 hy ho (e.trans tag.symm)]
        exact live

/-! ### The drive's settings and the load budget -/

theorem amendDrive_quiet (a : DriveAmend) (d : Device) : Quiet d (amendDrive a d).1 := by
  unfold amendDrive
  split
  · exact {}
  · exact Quiet.refl d

theorem amendLoad_keeps (a : LoadAmend) (d : Device) : Keeps d (amendLoad a d).1 := by
  unfold amendLoad
  dsimp only
  split
  · exact Keeps.refl d
  split
  · exact Keeps.refl d
  · have written : Quiet d { d with load := { d.load with set := LoadAmend.applied a d.load.set } } := {}
    dsimp only [okay]
    split
    · exact written.keeps.trans (grantTest_keeps _)
    · exact written.keeps

end Sys2Proof.Proofs
end

section
/-! SUPPORT. Power-on, warm resets and the end of start-up keep every invariant, a load of the image apart. -/
namespace Sys2Proof.Proofs

open Sys2Proof.Machine Sys2Proof.Laws

-- One proof at a time: together they wait for the kernel in a thread each, and the memory limit is met.
set_option Elab.async false

/-! ### Warm reset -/

/-- What R45 leaves: the drive off and empty; a lane may be marked off-home. -/
theorem warmDrive_spec (d : Device) :
    (d.warmDrive.drive.active = none ∧ d.warmDrive.drive.energized = none ∧ d.warmDrive.drive.rows = 0#8 ∧
      d.warmDrive.drive.cols = 0#8) ∧
    (∀ n, (d.warmDrive.lane? n).map laneCore = (d.lane? n).map laneCore) ∧ d.changesOnly [.table, .drive, .scanner] d.warmDrive := by
  have emptied (e : Device) (off : e.drive.energized = none ∧ e.drive.rows = 0#8 ∧ e.drive.cols = 0#8)
      (lanes : ∀ n, (e.lane? n).map laneCore = (d.lane? n).map laneCore)
      (frame : d.changesOnly [.table, .drive, .scanner] e) :
      let w : Device := { e with drive := { e.drive with jobs := [], active := none, strayCount := 0 } }
      (w.drive.active = none ∧ w.drive.energized = none ∧ w.drive.rows = 0#8 ∧ w.drive.cols = 0#8) ∧
        (∀ n, (w.lane? n).map laneCore = (d.lane? n).map laneCore) ∧ d.changesOnly [.table, .drive, .scanner] w := by
    refine ⟨⟨rfl, off⟩, lanes, changesOnly_trans frame fun p hp => ?_⟩
    cases p <;> first | rfl | simp at hp
  unfold Device.warmDrive
  split
  · refine emptied d.switchOff ⟨rfl, rfl, rfl⟩ (fun _ => rfl) fun p hp => ?_
    cases p <;> first | rfl | simp at hp
  next n _ =>
    obtain ⟨drive, -, -⟩ := stopMotors_spec n d
    refine emptied (d.stopMotors n) (by rw [drive]; exact ⟨rfl, rfl, rfl⟩) ?_ ?_
    · unfold Device.stopMotors
      split
      · exact (updateLane_quiet n d.switchOff).lanes
      · exact fun _ => rfl
    · unfold Device.stopMotors
      split
      · refine changesOnly_trans (b := d.switchOff) ?_ (changesOnly_mono (updateLane_frame n _ _) (by simp))
        intro p hp
        cases p <;> first | rfl | simp at hp
      · intro p hp
        cases p <;> first | rfl | simp at hp

theorem fitChecks_units (t : LaneTable) : t.fitChecks.filter (·.tag?.isSome) = [] := by
  rw [LaneTable.fitChecks, List.filter_map, List.map_eq_nil_iff, List.filter_eq_nil_iff]
  simp [Job.tag?]

theorem warmReset_lane (d : Device) (n : Fin 64) :
    d.warmReset.lane? n = (d.warmDrive.lane? n).map fun l => { l with reserved := 0 } := get_mapAll ..

/-- A drive with no claim anywhere. -/
theorem unclaimed {d : Device} (hg : d.load.grants = []) (hw : d.load.waiters = []) (who : Claimant) :
    d.load.claimsOf who = 0 := by simp [LoadBudget.claimsOf, hg, hw]

theorem warmTubes {p : Payout} (h : p.tubesSound) : p.warm.tubesSound := by
  obtain ⟨bounds, bound, -⟩ := h
  have tube (t : Fin 6) : p.warm.tubes[t] = { p.tubes[t] with planned := 0 } := get_mapAll ..
  refine ⟨fun t => ?_, fun t u c ht hu => ?_, fun _ => rfl⟩
  · rw [tube]
    exact ⟨Nat.zero_le _, (bounds t).2.1, fun _ => rfl⟩
  · rw [tube] at ht hu
    exact bound t u c ht hu

theorem warmReset_holds (d : Device) : Holds d d.warmReset := by
  obtain ⟨⟨active, off⟩, lanes, frame⟩ := warmDrive_spec d
  have payout : d.warmDrive.payout = d.payout := frame .payout (by simp)
  have none : d.warmReset.load.claimsOf .drive = 0 := unclaimed rfl rfl _
  have state : d.warmReset.compressor.state = .resting ∨ d.warmReset.compressor.state = .lockedOut := by
    show (if d.warmDrive.compressor.state = .lockedOut then CompressorState.lockedOut else .resting) = _ ∨
      (if d.warmDrive.compressor.state = .lockedOut then CompressorState.lockedOut else .resting) = _
    split
    · exact Or.inr rfl
    · exact Or.inl rfl
  have lane {n : Fin 64} {l : Lane} (hl : d.warmReset.lane? n = some l) :
      l.reserved = 0 ∧ ∃ k, d.lane? n = some k ∧ k.stock = l.stock ∧ k.capacity = l.capacity := by
    rw [warmReset_lane] at hl
    obtain ⟨k, hk, rfl⟩ := Option.map_eq_some_iff.1 hl
    obtain ⟨y, hy, -, -, ys, yc⟩ := lane_of_core lanes hk
    exact ⟨rfl, y, hy, ys, yc⟩
  have units : d.warmReset.drive.units = [] := by
    rw [units_idle (v := d.warmReset.drive) active]
    exact fitChecks_units _
  exact {
    list := fun no => no.elim
    claims := fun _ => driveClaims_of_none none
    matrix := fun _ _ => ⟨fun _ => off.2, fun n hn => absurd (off.1.symm.trans hn) (by simp)⟩
    rest := fun _ _ _ => ⟨compressorClaims_of_none (unclaimed rfl rfl _), fun h h' =>
      (state.elim (fun e => absurd e h) fun e => absurd e h')⟩
    tubes := fun _ h => by
      show d.warmDrive.payout.warm.tubesSound
      rw [payout]
      exact warmTubes h
    motors := motorsSound_of_companions fun n => by
      rw [warmReset_lane, Option.map_map]
      have := congrArg (Option.map (·.1)) (lanes n)
      simpa [laneCore, Option.map_map, Function.comp_def] using this
    sale := fun _ _ _ l => by
      refine ⟨⟨Nat.zero_le _, List.nodup_nil, Nat.zero_le _⟩, ⟨by rw [units]; exact Nat.zero_le _, fun j hj => ?_, ?_⟩,
        fun n k hk => ?_, fun o ho => absurd ho List.not_mem_nil⟩
      · exact absurd (active.symm.trans hj) (by simp)
      · rw [units]
        exact fun _ h => absurd h List.not_mem_nil
      · obtain ⟨reserved, y, hy, stock, capacity⟩ := lane hk
        rw [reserved, ← stock, ← capacity]
        exact ⟨Nat.zero_le _, (l.1 n y hy).2.1, rfl⟩ }

theorem beginWarm_keeps {R : Prop} {d m : Device} (h : KeepsIf True True R d m) : Keeps d m.beginWarm := by
  have taken := h.takeFrom m.queue
  exact taken.trans ((checkDue_keeps 0 _).trans (checkDue_keeps 1 _))

/-! ### Power-on -/

/-- A device at power-on, before its fit checks are taken: no claim, no active job, no order, the matrix off and the
compressor at rest. -/
structure Fresh (d : Device) : Prop where
  grants : d.load.grants = []
  waiters : d.load.waiters = []
  active : d.drive.active = none
  energized : d.drive.energized = none
  rows : d.drive.rows = 0#8
  cols : d.drive.cols = 0#8
  state : d.compressor.state = .resting
  orders : d.queue.orders = []

theorem Fresh.quiet {d e : Device} (h : Fresh d) (q : Quiet d e) : Fresh e := by
  have core := q.drive
  simp only [driveCore, Prod.mk.injEq] at core
  obtain ⟨energized, rows, cols, -, active⟩ := core
  rw [h.active, Option.map_none, Option.map_eq_none_iff] at active
  exact ⟨q.grants.trans h.grants, q.waiters.trans h.waiters, active, energized.trans h.energized, rows.trans h.rows,
    cols.trans h.cols, q.state.trans h.state, by rw [q.queue]; exact h.orders⟩

theorem Fresh.claims {d : Device} (h : Fresh d) : d.driveClaims ∧ d.compressorClaims :=
  ⟨driveClaims_of_none (unclaimed h.grants h.waiters _), compressorClaims_of_none (unclaimed h.grants h.waiters _)⟩

theorem Fresh.matrix {d : Device} (h : Fresh d) : d.drive.matrixSound :=
  ⟨fun _ => ⟨h.rows, h.cols⟩, fun n hn => absurd (h.energized.symm.trans hn) (by simp)⟩

theorem Fresh.rest {d : Device} (h : Fresh d) : d.compressor.restSound := fun e => absurd h.state e

theorem loadFields_fresh (bs : List Byte) {d : Device} (h : Fresh d) : Fresh (d.loadFields bs) := by
  unfold Device.loadFields
  dsimp only
  exact ⟨h.grants, h.waiters, h.active, h.energized, h.rows, h.cols, h.state, h.orders⟩

theorem loadImage_fresh (st : ImageStatus) (m : Memory) {d : Device} (h : Fresh d) : Fresh (d.loadImage st m) := by
  unfold Device.loadImage
  split
  · exact loadFields_fresh _ h
  · exact h

theorem zonePowerOn_fresh (loaded : Bool) (z : Fin 2) {d : Device} (h : Fresh d) : Fresh (d.zonePowerOn loaded z) := by
  unfold Device.zonePowerOn
  cases loaded
  · exact h.quiet (updateZone_quiet z _ d)
  · exact h.quiet (((updateZone_quiet z _ d).trans (spoilCheck_quiet z _)).trans (updateZone_quiet z _ _))

/-- R20: every enrolled lane at its power-on value. -/
def lanesPowerOn (d : Device) : Device :=
  { d with table := { d.table with slots := mapAll (Option.map Lane.atPowerOn) d.table.slots } }

/-- R155, R169, R20: the compressor's rest, the inputs' first counts and the list of fit checks. -/
def listPowerOn (d : Device) : Device :=
  let d := d.updateCompressor (Compressor.atPowerOn d.now)
  Device.queueFitChecks { d with inputs := mapAll (Input.atPowerOn d.now) d.inputs }

/-- Every rule of R187 but the taking of the fit checks, the scanner's start and the IDENTIFY. -/
def beforeTaking (loaded : Bool) (d : Device) : Device :=
  listPowerOn (((lanesPowerOn d).zonePowerOn loaded 0).zonePowerOn loaded 1)

theorem powerOnRules_eq (loaded : Bool) (d : Device) : d.powerOnRules loaded =
    (Device.takeFrom (beforeTaking loaded d).queue (beforeTaking loaded d)).startScanning.send .identify := rfl

theorem lanesPowerOn_fresh {d : Device} (h : Fresh d) : Fresh (lanesPowerOn d) :=
  ⟨h.grants, h.waiters, h.active, h.energized, h.rows, h.cols, h.state, h.orders⟩

theorem listPowerOn_fresh {d : Device} (h : Fresh d) : Fresh (listPowerOn d) :=
  ⟨h.grants, h.waiters, h.active, h.energized, h.rows, h.cols, h.state, h.orders⟩

theorem beforeTaking_fresh (loaded : Bool) {d : Device} (h : Fresh d) : Fresh (beforeTaking loaded d) :=
  listPowerOn_fresh (zonePowerOn_fresh loaded 1 (zonePowerOn_fresh loaded 0 (lanesPowerOn_fresh h)))

theorem beforeTaking_units (loaded : Bool) {d : Device} (h : Fresh d) : (beforeTaking loaded d).drive.units = [] := by
  rw [units_idle (v := (beforeTaking loaded d).drive) (beforeTaking_fresh loaded h).active]
  exact fitChecks_units _

/-- The device as R187 finds it: every record at its power-on value, the conditions standing. -/
def awoken (s : State) : Device := { s.dev.powerOn with conditions := s.dev.conditions }

theorem awoken_fresh (s : State) : Fresh (awoken s) := ⟨rfl, rfl, rfl, rfl, rfl, rfl, rfl, rfl⟩

/-- What ends a power-on start-up: the scanner, the IDENTIFY and the conditions. -/
theorem endPowerOn_quiet (b : Bool) (s : State) :
    let m := beforeTaking (imageFinding b s.mem = .loaded) ((awoken s).loadImage (imageFinding b s.mem) s.mem)
    Quiet (m.takeFrom m.queue) (s.endPowerOn b).dev := by
  intro m
  have started (e : Device) : Quiet e ((e.startScanning.send .identify).raise .poweredOn) :=
    ((updateScanner_quiet _ e).trans (send_quiet _ _)).trans (raise_quiet _ _)
  have whole : Quiet (m.takeFrom m.queue)
      ((Device.powerOnRules (imageFinding b s.mem = .loaded) ((awoken s).loadImage (imageFinding b s.mem) s.mem)).raise
        .poweredOn) := by
    rw [powerOnRules_eq]
    exact started _
  show Quiet (m.takeFrom m.queue) (if imageFinding b s.mem = .loaded then _ else _)
  split
  · exact whole
  · exact whole.trans (raise_quiet _ _)

/-- The end of a power-on start-up, the image loaded or not, leaves the matrix, the list and the rest in order. -/
theorem endPowerOn_sound (b : Bool) (s : State) : (s.endPowerOn b).dev.drive.matrixSound ∧
    (s.endPowerOn b).dev.compressor.restSound ∧ (s.endPowerOn b).dev.drive.listSound := by
  have quiet := endPowerOn_quiet b s
  have fresh : Fresh (beforeTaking (imageFinding b s.mem = .loaded) ((awoken s).loadImage (imageFinding b s.mem) s.mem)) :=
    beforeTaking_fresh _ (loadImage_fresh _ _ (awoken_fresh s))
  have keeps := ((Keeps.refl _).takeFrom _).trans quiet.keeps
  exact ⟨keeps.matrix fresh.claims.1 fresh.matrix, (keeps.rest trivial fresh.claims.2 fresh.rest).2,
    quiet.keeps.list trivial (takeFrom_list _ _)⟩

/-- A power-on that finds no image enrols no lane. -/
theorem unloaded_lane (d : Device) (vacant : ∀ n, d.lane? n = none) (n : Fin 64) :
    (beforeTaking false d).lane? n = none := by
  show (mapAll (Option.map Lane.atPowerOn) d.table.slots)[n] = none
  rw [get_mapAll]
  have : d.table.slots[n] = none := vacant n
  rw [this]
  rfl

theorem default_tubes : Device.default.payout.tubesSound := by
  have tube (t : Fin 6) : Device.default.payout.tubes[t] = Tube.default := get_replicate ..
  refine ⟨fun t => ?_, fun t u c ht _ => ?_, fun _ => rfl⟩
  · rw [tube]
    exact ⟨Nat.le_refl _, Nat.zero_le _, fun _ => rfl⟩
  · rw [tube] at ht
    cases ht

/-- A device with no claim, lane, order or job in order, whatever went before. -/
theorem fresh_holds {R : Prop} {d e : Device} (fresh : Fresh e) (vacant : ∀ n, e.lane? n = none)
    (units : e.drive.units = []) (tubes : e.payout.tubesSound) (list : R → e.drive.listSound) : KeepsIf True True R d e where
  list hR _ := list hR
  claims _ := fresh.claims.1
  matrix _ _ := fresh.matrix
  rest _ _ _ := ⟨fresh.claims.2, fresh.rest⟩
  tubes _ _ := tubes
  motors _ n l c hl := by rw [vacant] at hl; cases hl
  sale _ _ _ _ := by
    refine ⟨⟨by rw [fresh.orders]; exact Nat.zero_le _, by rw [fresh.orders]; exact List.nodup_nil,
      by rw [fresh.orders]; exact Nat.zero_le _⟩, ⟨by rw [units]; exact Nat.zero_le _, fun j hj => ?_, ?_⟩,
      fun n k hk => ?_, fun o ho => ?_⟩
    · exact absurd (fresh.active.symm.trans hj) (by simp)
    · rw [units]
      exact fun _ h => absurd h List.not_mem_nil
    · rw [vacant] at hk
      cases hk
    · rw [fresh.orders] at ho
      exact absurd ho List.not_mem_nil

theorem default_lane (n : Fin 64) : Device.default.lane? n = none := get_replicate ..

/-- The end of a power-on start-up that loads no image. -/
theorem endPowerOn_keeps {b : Bool} {s : State} (unloaded : imageFinding b s.mem ≠ .loaded) :
    Keeps s.dev (s.endPowerOn b).dev := by
  have quiet := endPowerOn_quiet b s
  have image : (awoken s).loadImage (imageFinding b s.mem) s.mem = awoken s := if_neg unloaded
  rw [image, decide_eq_false unloaded] at quiet
  have fresh := beforeTaking_fresh false (awoken_fresh s)
  have holds : Holds s.dev (beforeTaking false (awoken s)) :=
    fresh_holds fresh (unloaded_lane _ default_lane) (beforeTaking_units false (awoken_fresh s)) default_tubes fun no => no.elim
  exact (holds.takeFrom _).trans quiet.keeps

theorem powerOn_keeps (d : Device) : Keeps d d.powerOn :=
  fresh_holds ⟨rfl, rfl, rfl, rfl, rfl, rfl, rfl, rfl⟩ default_lane rfl default_tubes fun _ _ => rfl

theorem not_loaded_unanswered (m : Memory) : imageFinding false m ≠ .loaded := by simp [imageFinding]

end Sys2Proof.Proofs
end

section
/-! SUPPORT. Every command keeps the invariants of the drive, the compressor, the tubes, the motor positions and the sale,
each by the part of the device it belongs to; the matrix and the job list stay in order at every step. -/
namespace Sys2Proof.Proofs

open Sys2Proof.Machine Sys2Proof.Laws

-- One proof at a time: together they wait for the kernel in a thread each, and the memory limit is met.
set_option Elab.async false

/-! ### Commands on the whole state -/

/-- A command keeps every invariant of the device, and the job list's but while RESET is held. -/
structure StateKeeps (s t : State) : Prop where
  dev : Holds s.dev t.dev
  list : s.listSound → t.listSound

/-- What keeps the device's invariants in one phase of the port. -/
theorem StateKeeps.of_dev {s t : State} (h : Keeps s.dev t.dev) (phase : t.port.phase = s.port.phase) : StateKeeps s t where
  dev := h.holds
  list list awake := h.list trivial (list (by rw [State.awake, ← phase]; exact awake))

/-- What leaves the device's list in order, whatever it was. -/
theorem StateKeeps.of_taken {s t : State} (h : Holds s.dev t.dev) (list : t.dev.drive.listSound) : StateKeeps s t :=
  ⟨h, fun _ _ => list⟩

theorem StateKeeps.port {s t : State} (dev : t.dev = s.dev) (phase : t.port.phase = s.port.phase) : StateKeeps s t :=
  .of_dev (by rw [dev]; exact Keeps.refl s.dev) phase

theorem takeRequest_keeps {f : State → State × Reply} {s : State} (h : Keeps s.dev (f s).1.dev)
    (phase : (f s).1.port.phase = s.port.phase) : StateKeeps s (s.takeRequest f) := by
  unfold State.takeRequest
  split
  · exact .of_dev h phase
  · exact .port rfl rfl

theorem request_keeps {f : Device → Device × Reply} {s : State} (h : Keeps s.dev (f s.dev).1) :
    StateKeeps s (s.request f) := takeRequest_keeps h rfl

theorem quietRequest_keeps {f : Device → Device × Reply} {s : State} (h : Quiet s.dev (f s.dev).1) :
    StateKeeps s (s.request f) := request_keeps h.keeps

theorem query_keeps (f : Device → Reply) (s : State) : StateKeeps s (s.query f) := request_keeps (Keeps.refl s.dev)

theorem event_keeps {f : Device → Device} {s : State} (h : Keeps s.dev (f s.dev)) : StateKeeps s (s.event f) := by
  unfold State.event
  split
  · exact .port rfl rfl
  · exact .of_dev h rfl

theorem ungatedEvent_keeps {f : Device → Device} {s : State} (h : Keeps s.dev (f s.dev)) :
    StateKeeps s (s.ungatedEvent f) := .of_dev h rfl

/-! ### Resets, saving, the port -/

theorem enterRestart_keeps {s₀ s : State} (h : Keeps s₀.dev s.dev) : StateKeeps s₀ s.enterRestart := by
  have reset := beginWarm_keeps (h.holds.trans (warmReset_holds s.dev))
  refine .of_taken reset.holds ?_
  have taken := takeFrom_list s.dev.warmReset.queue s.dev.warmReset
  exact ((checkDue_keeps 0 _).trans (checkDue_keeps 1 _)).list trivial taken

theorem resetPin_keeps (s : State) : StateKeeps s s.resetPin := by
  unfold State.resetPin
  split
  · exact .port rfl rfl
  · exact ⟨warmReset_holds s.dev, fun _ awake => absurd rfl awake⟩

theorem resetRelease_keeps (s : State) : StateKeeps s s.resetRelease := by
  unfold State.resetRelease
  split
  · refine .of_taken (beginWarm_keeps (warmReset_holds s.dev)).holds ?_
    have taken := takeFrom_list s.dev.warmReset.queue s.dev.warmReset
    exact ((checkDue_keeps 0 _).trans (checkDue_keeps 1 _)).list trivial taken
  · exact .port rfl rfl

theorem restartTimeout_keeps (s : State) : StateKeeps s s.restartTimeout := by
  unfold State.restartTimeout
  split
  · exact .port rfl rfl
  next due _ => exact enterRestart_keeps (s := { s with dev := s.dev.reach due }) (reach_quiet due s.dev).keeps

theorem fetch_keeps (n : Nat) (s : State) : StateKeeps s (s.fetch n) := by
  unfold State.fetch
  dsimp only
  split
  · split
    · exact enterRestart_keeps (s := s.updatePort _) (Keeps.refl s.dev)
    · exact .port rfl rfl
  · exact .port rfl rfl

theorem endWarm_keeps (s : State) (warm : s.port.phase = .warmStartup) : StateKeeps s s.endWarm := by
  have started : Keeps s.dev ((s.dev.findCoinMarker.startScanning).send .identify) :=
    (findCoinMarker_keeps s.dev).trans ((updateScanner_quiet _ _).trans (send_quiet _ _)).keeps
  have awake : s.awake := by rw [State.awake, warm]; simp
  unfold State.endWarm
  dsimp only
  split
  · have raised := started.trans (raise_quiet .saveEnded _).keeps
    exact ⟨raised.holds, fun list _ => raised.list trivial (list awake)⟩
  · exact ⟨started.holds, fun list _ => started.list trivial (list awake)⟩

theorem startupEnd_keeps {b : Bool} {s : State} (unloaded : b = false) : StateKeeps s (s.startupEnd b) := by
  subst unloaded
  unfold State.startupEnd
  split
  · exact .of_taken (endPowerOn_keeps (not_loaded_unanswered s.mem)).holds (endPowerOn_sound false s).2.2
  next warm => exact endWarm_keeps s warm
  · exact .port rfl rfl
  · exact .port rfl rfl

theorem secondTick_keeps (s : State) : StateKeeps s s.secondTick := by
  unfold State.secondTick
  split
  · exact .port rfl rfl
  next due _ => exact .of_dev (reach_quiet due s.dev).keeps rfl

theorem pageWritten_keeps (acknowledged : Bool) (s : State) : StateKeeps s (s.pageWritten acknowledged) := by
  have raised := (raise_quiet .saveEnded s.dev).keeps
  unfold State.pageWritten
  split
  · exact .port rfl rfl
  next j _ =>
    split
    · exact .port rfl rfl
    split
    · unfold State.pageDone
      dsimp only
      split
      · exact .port rfl rfl
      · exact .of_dev raised rfl
    · unfold State.pageFailed
      split
      · exact .port rfl rfl
      · exact .of_dev raised rfl

theorem saveRetry_keeps (s : State) : StateKeeps s s.saveRetry := by
  unfold State.saveRetry
  split
  · exact .port rfl rfl
  · split
    · exact .port rfl rfl
    next due _ => exact .of_dev (reach_quiet due s.dev).keeps rfl

theorem takeSave_keeps (s : State) : Keeps s.dev (takeSave s).1.dev ∧ (takeSave s).1.port.phase = s.port.phase := by
  unfold takeSave
  split
  · exact ⟨Keeps.refl s.dev, rfl⟩
  · exact ⟨Keeps.refl s.dev, rfl⟩

/-! ### Every command -/

/-- Every command but a load of the image keeps every invariant. -/
theorem exec_keeps (c : Instr) (s : State) (hc : c ≠ .startupEnd true) : ∃ t, exec c s = .next t ∧ StateKeeps s t := by
  cases c with
  | readLane form lane => exact ⟨_, rfl, request_keeps (readLane_keeps form lane s.dev)⟩
  | findProduct code => exact ⟨_, rfl, query_keeps _ s⟩
  | enrolLane lane g => exact ⟨_, rfl, request_keeps (enrolLane_keeps lane g s.dev)⟩
  | amendLane lane a => exact ⟨_, rfl, request_keeps (amendLane_keeps lane a s.dev)⟩
  | restockLane lane stock => exact ⟨_, rfl, request_keeps (restockLane_keeps lane stock s.dev)⟩
  | checkLane lane => exact ⟨_, rfl, request_keeps (checkLane_keeps lane s.dev)⟩
  | retireLane lane => exact ⟨_, rfl, request_keeps (retireLane_keeps lane s.dev)⟩
  | readDrive => exact ⟨_, rfl, query_keeps _ s⟩
  | amendDrive a => exact ⟨_, rfl, quietRequest_keeps (amendDrive_quiet a s.dev)⟩
  | placeOrder p => exact ⟨_, rfl, request_keeps (placeOrder_keeps p s.dev)⟩
  | readOrder tag => exact ⟨_, rfl, query_keeps _ s⟩
  | readQueue => exact ⟨_, rfl, query_keeps _ s⟩
  | retireOrder tag => exact ⟨_, rfl, request_keeps (retireOrder_keeps tag s.dev)⟩
  | holdQueue => exact ⟨_, rfl, request_keeps (setQueueState_keeps .held s.dev)⟩
  | resumeQueue => exact ⟨_, rfl, request_keeps (resumeQueue_keeps s.dev)⟩
  | haltDrive => exact ⟨_, rfl, request_keeps (haltDrive_keeps s.dev)⟩
  | resumeDrive => exact ⟨_, rfl, request_keeps (resumeDrive_keeps s.dev)⟩
  | skipOrder tag => exact ⟨_, rfl, request_keeps (skipOrder_keeps tag s.dev)⟩
  | clearQueue => exact ⟨_, rfl, request_keeps (clearQueue_keeps s.dev)⟩
  | readCredit => exact ⟨_, rfl, query_keeps _ s⟩
  | amendCreditLimit m => exact ⟨_, rfl, quietRequest_keeps (amendCreditLimit_quiet m s.dev)⟩
  | refund => exact ⟨_, rfl, request_keeps (takeRefund_keeps s.dev)⟩
  | readClass => exact ⟨_, rfl, query_keeps _ s⟩
  | amendClass k a => exact ⟨_, rfl, quietRequest_keeps (amendClass_quiet k a s.dev)⟩
  | readCashbox => exact ⟨_, rfl, query_keeps _ s⟩
  | clearCashbox => exact ⟨_, rfl, quietRequest_keeps {}⟩
  | readTube => exact ⟨_, rfl, query_keeps _ s⟩
  | amendTube tube a => exact ⟨_, rfl, request_keeps (amendTube_keeps tube a s.dev)⟩
  | setTubeCount tube n => exact ⟨_, rfl, request_keeps (setTubeCount_keeps tube n s.dev)⟩
  | dispense tube n => exact ⟨_, rfl, request_keeps (dispense_keeps tube n s.dev)⟩
  | readPayout => exact ⟨_, rfl, query_keeps _ s⟩
  | amendPayout a => exact ⟨_, rfl, quietRequest_keeps (amendPayout_quiet a s.dev)⟩
  | readLink => exact ⟨_, rfl, query_keeps _ s⟩
  | amendLink a => exact ⟨_, rfl, quietRequest_keeps (amendLink_quiet a s.dev)⟩
  | readZone zone => exact ⟨_, rfl, query_keeps _ s⟩
  | amendZone zone a => exact ⟨_, rfl, request_keeps (amendZone_keeps zone a s.dev)⟩
  | startDefrost zone => exact ⟨_, rfl, request_keeps (startDefrost_keeps zone s.dev)⟩
  | readCompressor => exact ⟨_, rfl, query_keeps _ s⟩
  | amendCompressor a => exact ⟨_, rfl, quietRequest_keeps (amendCompressor_quiet a s.dev)⟩
  | clearLockout => exact ⟨_, rfl, request_keeps (clearLockout_keeps s.dev)⟩
  | readSample k => exact ⟨_, rfl, quietRequest_keeps (readSample_quiet k s.dev)⟩
  | scanNow => exact ⟨_, rfl, quietRequest_keeps (scanNow_quiet s.dev)⟩
  | amendChannel k a => exact ⟨_, rfl, quietRequest_keeps (amendChannel_quiet k a s.dev)⟩
  | amendScan p => exact ⟨_, rfl, quietRequest_keeps (amendScan_quiet p s.dev)⟩
  | readInputs => exact ⟨_, rfl, query_keeps _ s⟩
  | amendInput i l => exact ⟨_, rfl, request_keeps (amendInput_keeps i l s.dev)⟩
  | readLoad => exact ⟨_, rfl, query_keeps _ s⟩
  | amendLoad a => exact ⟨_, rfl, request_keeps (amendLoad_keeps a s.dev)⟩
  | readConditions => exact ⟨_, rfl, takeRequest_keeps (Keeps.refl s.dev) rfl⟩
  | clearConditions m => exact ⟨_, rfl, quietRequest_keeps {}⟩
  | amendMask m => exact ⟨_, rfl, quietRequest_keeps {}⟩
  | saveImage => exact ⟨_, rfl, takeRequest_keeps (takeSave_keeps s).1 (takeSave_keeps s).2⟩
  | restart => exact ⟨_, rfl, takeRequest_keeps (Keeps.refl s.dev) rfl⟩
  | readIdentity => exact ⟨_, rfl, takeRequest_keeps (Keeps.refl s.dev) rfl⟩
  | badFrame b => exact ⟨_, rfl, request_keeps (Keeps.refl s.dev)⟩
  | unknownRequest b => exact ⟨_, rfl, request_keeps (Keeps.refl s.dev)⟩
  | fetchReply n => exact ⟨_, rfl, fetch_keeps n s⟩
  | requestDiscarded b => exact ⟨_, rfl, .port rfl rfl⟩
  | powerOn => exact ⟨_, rfl, .of_taken (powerOn_keeps s.dev).holds fun _ => rfl⟩
  | resetPin => exact ⟨_, rfl, resetPin_keeps s⟩
  | resetRelease => exact ⟨_, rfl, resetRelease_keeps s⟩
  | restartTimeout => exact ⟨_, rfl, restartTimeout_keeps s⟩
  | startupEnd b => exact ⟨_, rfl, startupEnd_keeps (by cases b with | false => rfl | true => exact absurd rfl hc)⟩
  | secondTick => exact ⟨_, rfl, secondTick_keeps s⟩
  | savePageWritten b => exact ⟨_, rfl, pageWritten_keeps b s⟩
  | saveRetryTimer => exact ⟨_, rfl, saveRetry_keeps s⟩
  | camLineEdge l => exact ⟨_, rfl, ungatedEvent_keeps (camLineEdge_quiet l s.dev).keeps⟩
  | camConfirm => exact ⟨_, rfl, event_keeps (camConfirm_keeps s.dev)⟩
  | departureTimeout => exact ⟨_, rfl, event_keeps (departureTimeout_keeps s.dev)⟩
  | turnTimerExpiry => exact ⟨_, rfl, event_keeps (turnTimerExpiry_keeps s.dev)⟩
  | beamBreak => exact ⟨_, rfl, event_keeps (beamBreak_keeps s.dev)⟩
  | dropWindowExpiry => exact ⟨_, rfl, event_keeps (dropWindowExpiry_keeps s.dev)⟩
  | fitPulseEnd => exact ⟨_, rfl, event_keeps (fitPulseEnd_keeps s.dev)⟩
  | linkSlot => exact ⟨_, rfl, event_keeps (linkSlot_keeps s.dev)⟩
  | identifyTimer => exact ⟨_, rfl, event_keeps (identifyExpiry_keeps s.dev)⟩
  | linkFrame b e => exact ⟨_, rfl, event_keeps (linkFrame_keeps b e s.dev)⟩
  | linkReplyTimeout => exact ⟨_, rfl, event_keeps (linkReplyTimeout_keeps s.dev)⟩
  | coinTimeout => exact ⟨_, rfl, event_keeps (coinTimeout_keeps s.dev)⟩
  | pulseOnEnd => exact ⟨_, rfl, event_keeps (pulseOnEnd_keeps s.dev)⟩
  | pulseGapEnd => exact ⟨_, rfl, event_keeps (pulseGapEnd_keeps s.dev)⟩
  | chuteWindowClose => exact ⟨_, rfl, event_keeps (chuteWindowClose_keeps s.dev)⟩
  | chuteCount => exact ⟨_, rfl, event_keeps (chuteCount_keeps s.dev)⟩
  | sinceDefrostTimer z => exact ⟨_, rfl, event_keeps (sinceExpiry_keeps z s.dev)⟩
  | defrostTimer z => exact ⟨_, rfl, event_keeps (defrostExpiry_keeps z s.dev)⟩
  | dripTimer z => exact ⟨_, rfl, event_keeps (dripExpiry_keeps z s.dev)⟩
  | zoneMinuteTimer z => exact ⟨_, rfl, event_keeps (minuteExpiry_keeps z s.dev)⟩
  | restTimer => exact ⟨_, rfl, event_keeps (restTimer_keeps s.dev)⟩
  | startTimer => exact ⟨_, rfl, event_keeps (startTimer_keeps s.dev)⟩
  | confirmLineEdge l => exact ⟨_, rfl, ungatedEvent_keeps (confirmLineEdge_quiet l s.dev).keeps⟩
  | confirmChange => exact ⟨_, rfl, event_keeps (confirmChange_keeps s.dev)⟩
  | runTimer => exact ⟨_, rfl, event_keeps (runTimer_keeps s.dev)⟩
  | fanRunonTimer => exact ⟨_, rfl, ungatedEvent_keeps (fanRunon_keeps s.dev)⟩
  | periodTimer => exact ⟨_, rfl, event_keeps (periodExpiry_keeps s.dev)⟩
  | priorityTimer => exact ⟨_, rfl, event_keeps (priorityExpiry_keeps s.dev)⟩
  | conversionEnd r => exact ⟨_, rfl, event_keeps (conversionEnd_keeps r s.dev)⟩
  | inputLineEdge i l => exact ⟨_, rfl, ungatedEvent_keeps (inputLineEdge_quiet i l s.dev).keeps⟩
  | inputChange i => exact ⟨_, rfl, event_keeps (inputChange_keeps i s.dev)⟩
  | linkFirstByte => exact ⟨_, rfl, event_keeps (Quiet.keeps {})⟩

/-- What holds of the drive's matrix, the list and the rest after a command, the load of an image among them. -/
structure StaySound (s t : State) : Prop where
  matrix : s.dev.driveClaims → s.dev.drive.matrixSound → t.dev.drive.matrixSound
  list : s.listSound → t.listSound
  rest : s.dev.compressorClaims → s.dev.compressor.restSound → t.dev.compressor.restSound

theorem StateKeeps.staySound {s t : State} (h : StateKeeps s t) : StaySound s t :=
  ⟨h.dev.matrix, h.list, fun hc hr => (h.dev.rest trivial hc hr).2⟩

theorem exec_staySound (c : Instr) (s : State) : ∃ t, exec c s = .next t ∧ StaySound s t := by
  by_cases hc : c = .startupEnd true
  · subst hc
    refine ⟨_, rfl, ?_⟩
    unfold State.startupEnd
    split
    · obtain ⟨matrix, rest, list⟩ := endPowerOn_sound true s
      exact ⟨fun _ _ => matrix, fun _ _ => list, fun _ _ => rest⟩
    next warm => exact (endWarm_keeps s warm).staySound
    · exact (StateKeeps.port rfl rfl).staySound
    · exact (StateKeeps.port rfl rfl).staySound
  · obtain ⟨t, ht, keeps⟩ := exec_keeps c s hc
    exact ⟨t, ht, keeps.staySound⟩

theorem step_staySound {s t : State} (h : step s = .next t) : StaySound s t := by
  unfold step at h
  split at h
  · obtain rfl := Host.Outcome.next.inj h
    have idle : Quiet s.dev s.idle.dev := {}
    exact (StateKeeps.of_dev idle.keeps rfl).staySound
  next c rest _ =>
    obtain ⟨u, hu, sound⟩ := exec_staySound c { s with pending := rest }
    obtain rfl := Host.Outcome.next.inj (hu.symm.trans h)
    exact ⟨sound.matrix, sound.list, sound.rest⟩

/-- Settles O10, by `StaySound` of every step and `StateKeeps` of every command but a load of the image. -/
theorem matrixAndJobListStaySound : Obligations.MatrixAndJobListStaySound := by
  refine ⟨fun s t hc hm h => (step_staySound h).matrix hc hm, fun s t hl h => (step_staySound h).list hl,
    fun s t hc hr h => (step_staySound h).rest hc hr, fun c s t hc h => ?_⟩
  obtain ⟨u, hu, keeps⟩ := exec_keeps c s hc
  obtain rfl := Host.Outcome.next.inj (hu.symm.trans h)
  exact ⟨keeps.dev.motors, keeps.dev.tubes trivial, fun _ q claims u l => (keeps.dev.sale claims q u l).2⟩

end Sys2Proof.Proofs
end

section
/-! SUPPORT. What the end of an event leaves: no order lost, an ended one unchanged, the lanes but for what is reserved,
the conditions latched, the balance. -/
namespace Sys2Proof.Proofs

open Sys2Proof.Machine Sys2Proof.Laws

-- One proof at a time: together they wait for the kernel in a thread each, and the memory limit is met.
set_option Elab.async false

/-- The order's record later on: its tag and counts, and all of it once it has ended. -/
structure Order.Later (o o' : Order) : Prop where
  tag : o'.tag = o.tag
  delivered : o'.delivered = o.delivered
  charged : o'.charged = o.charged
  ended : o.state.live = false → o' = o

theorem Order.Later.refl (o : Order) : Order.Later o o := ⟨rfl, rfl, rfl, fun _ => rfl⟩

theorem Order.Later.trans {a b c : Order} (h : Order.Later a b) (k : Order.Later b c) : Order.Later a c where
  tag := k.tag.trans h.tag
  delivered := k.delivered.trans h.delivered
  charged := k.charged.trans h.charged
  ended past := by
    obtain rfl := h.ended past
    exact k.ended past

/-- What the end of an event leaves of the sale. -/
structure Settles (d e : Device) : Prop where
  frame : d.changesOnly saleParts e
  tags : e.queue.orders.map (·.tag) = d.queue.orders.map (·.tag)
  orders : tagsDistinct d.queue → ∀ o ∈ d.queue.orders, ∃ o' ∈ e.queue.orders, Order.Later o o'
  lanes : ∀ n l, d.lane? n = some l → ∃ r, r ≤ l.reserved ∧ e.lane? n = some { l with reserved := r }
  vacant : ∀ n, d.lane? n = none → e.lane? n = none
  changed : e.table.changed = d.table.changed
  conditions : ∀ c, d.conditions.has c = true → e.conditions.has c = true
  balance : e.credit.balance = d.credit.balance
  committed : e.credit.committed ≤ d.credit.committed

theorem Settles.refl (d : Device) : Settles d d where
  frame := changesOnly_refl _ d
  tags := rfl
  orders _ o ho := ⟨o, ho, Order.Later.refl o⟩
  lanes _ l hl := ⟨l.reserved, Nat.le_refl _, hl⟩
  vacant _ h := h
  changed := rfl
  conditions _ h := h
  balance := rfl
  committed := Nat.le_refl _

theorem Settles.distinct {d e : Device} (h : Settles d e) (t : tagsDistinct d.queue) : tagsDistinct e.queue := by
  rw [tagsDistinct, h.tags]
  exact t

theorem Settles.trans {a b c : Device} (h : Settles a b) (k : Settles b c) : Settles a c where
  frame := changesOnly_trans h.frame k.frame
  tags := k.tags.trans h.tags
  orders t o ho := by
    obtain ⟨x, hx, ox⟩ := h.orders t o ho
    obtain ⟨y, hy, xy⟩ := k.orders (h.distinct t) x hx
    exact ⟨y, hy, ox.trans xy⟩
  lanes n l hl := by
    obtain ⟨r, le, hr⟩ := h.lanes n l hl
    obtain ⟨r', le', hr'⟩ := k.lanes n _ hr
    exact ⟨r', le'.trans le, hr'⟩
  vacant n hn := k.vacant n (h.vacant n hn)
  changed := k.changed.trans h.changed
  conditions c hc := k.conditions c (h.conditions c hc)
  balance := k.balance.trans h.balance
  committed := k.committed.trans h.committed

/-- Steps that leave the queue, the lanes and the credit's amounts. -/
theorem settles_of_same {d e : Device} (frame : d.changesOnly saleParts e) (queue : e.queue = d.queue)
    (table : e.table = d.table) (conditions : ∀ c, d.conditions.has c = true → e.conditions.has c = true)
    (balance : e.credit.balance = d.credit.balance) (committed : e.credit.committed = d.credit.committed) :
    Settles d e where
  frame := frame
  tags := by rw [queue]
  orders _ o ho := ⟨o, by rw [queue]; exact ho, Order.Later.refl o⟩
  lanes n l hl := ⟨l.reserved, Nat.le_refl _, by rw [lane?_of_table table]; exact hl⟩
  vacant n hn := by rw [lane?_of_table table]; exact hn
  changed := by rw [table]
  conditions := conditions
  balance := balance
  committed := Nat.le_of_eq committed

/-- Steps within the claimants and the load. -/
theorem settles_of_claims {d e : Device} (frame : d.changesOnly grantParts e) : Settles d e := by
  have conditions : e.conditions = d.conditions := frame .conditions (by simp [grantParts])
  have credit : e.credit = d.credit := frame .credit (by simp [grantParts])
  exact settles_of_same (changesOnly_mono frame (by simp [saleParts, grantParts])) (frame .queue (by simp [grantParts]))
    (frame .table (by simp [grantParts])) (fun c hc => by rw [conditions]; exact hc) (by rw [credit]) (by rw [credit])

theorem granted_frame (d : Device) (c : Claim) (rest : List Claim) : d.changesOnly grantParts (granted d c rest) := by
  refine changesOnly_trans (b := { d with load := d.load.grantHead c rest }) ?_
    (changesOnly_mono (onGrant_frame c.who _) (by simp [grantParts]))
  intro p hp
  cases p <;> first | rfl | simp [grantParts] at hp

/-- A change of one live order of the queue that keeps its tag and counts. -/
theorem later_changeTag {orders : List Order} {o : Order} {f : Order → Order} (tags : (orders.map (·.tag)).Nodup)
    (ho : o ∈ orders) (hf : Order.Later o (f o)) : ∀ x ∈ orders, ∃ y ∈ changeTag o.tag f orders, Order.Later x y := by
  intro x hx
  by_cases e : x.tag = o.tag
  · obtain rfl := eq_of_tag tags hx ho e
    exact ⟨f x, mem_changeTag.mpr (Or.inr ⟨x, hx, rfl, rfl⟩), hf⟩
  · exact ⟨x, mem_changeTag.mpr (Or.inl ⟨hx, e⟩), Order.Later.refl x⟩

theorem later_close {o : Order} (cause : EndCause) (live : o.state.live = true) : Order.Later o (o.close cause) :=
  ⟨rfl, rfl, rfl, fun past => absurd (live.symm.trans past) (by simp)⟩

/-- The ending of a live order. -/
theorem Ends.settles {o : Order} {cause : EndCause} {units : Nat} {d e : Device} (h : Ends o cause units d e)
    (ho : o ∈ d.queue.orders) (live : o.state.live = true) : Settles d e where
  frame := changesOnly_mono h.frame (by simp [saleParts])
  tags := by rw [h.orders]; exact tags_changeTag o.tag fun _ => rfl
  orders t := by rw [h.orders]; exact later_changeTag t ho (later_close cause live)
  lanes n l hl := by
    rw [h.lanes, hl]
    split
    · exact ⟨l.reserved - units, Nat.sub_le _ _, rfl⟩
    · exact ⟨l.reserved, Nat.le_refl _, rfl⟩
  vacant n hn := by rw [h.lanes, hn]; simp
  changed := h.table.1
  conditions c hc := by rw [h.raised]; exact has_raise c _ _ hc
  balance := h.credit.1
  committed := by rw [h.credit.2]; exact Nat.sub_le _ _

theorem endOrder_settles (tag : Nat) (cause : EndCause) (d : Device) : Settles d (d.endOrder tag cause) := by
  rcases endOrder_cases tag cause d with ⟨-, e⟩ | ⟨o, ho, -, live, -, ends⟩
  · rw [e]; exact Settles.refl d
  · exact ends.settles ho live

theorem head_settles {d : Device} {o : Order} (hh : d.queue.head? = some o) :
    Settles d (d.updateOrder o.tag drives) where
  frame p hp := by cases p <;> first | rfl | simp [saleParts] at hp
  tags := tags_changeTag o.tag fun _ => rfl
  orders t := by
    obtain ⟨ho, queued⟩ := head?_mem hh
    exact later_changeTag t ho ⟨rfl, rfl, rfl, fun past => absurd past (by rw [queued]; simp [OrderState.live])⟩
  lanes _ l hl := ⟨l.reserved, Nat.le_refl _, hl⟩
  vacant _ h := h
  changed := rfl
  conditions _ h := h
  balance := rfl
  committed := Nat.le_refl _

theorem postUnit_settles (o : Order) (d : Device) : Settles d (postUnit o d) where
  frame p hp := by cases p <;> first | rfl | simp [saleParts, grantParts] at hp
  tags := rfl
  orders _ x hx := ⟨x, hx, Order.Later.refl x⟩
  lanes _ l hl := ⟨l.reserved, Nat.le_refl _, hl⟩
  vacant _ h := h
  changed := rfl
  conditions _ h := h
  balance := rfl
  committed := Nat.le_refl _

theorem withJobs_settles (jobs : List Job) (d : Device) : Settles d (withJobs jobs d) :=
  settles_of_claims fun p hp => by cases p <;> first | rfl | simp [grantParts] at hp

/-- What follows the endings of an event leaves the sale so. -/
theorem saleSteps_settles {d e : Device} (h : SaleSteps d e) : Settles d e := by
  refine saleSteps_induct Settles.refl Settles.trans (fun {a b} s => ?_) h
  cases s with
  | money frame balance committed raised =>
    exact settles_of_same (changesOnly_mono frame (by simp [saleParts])) (frame .queue (by simp)) (frame .table (by simp))
      raised balance committed
  | plan kind req lines idle fits =>
    refine settles_of_claims ?_
    rw [planned_eq]
    exact fun p hp => by cases p <;> first | rfl | simp [grantParts] at hp
  | wait => exact settles_of_claims fun p hp => by cases p <;> first | rfl | simp [grantParts] at hp
  | grant hw => exact settles_of_claims (granted_frame _ _ _)
  | refuse cause idle hj => exact (withJobs_settles _ _).trans (endOrder_settles _ _ _)
  | discard idle hj => exact withJobs_settles _ _
  | take l units idle hj => exact settles_of_claims fun p hp => by cases p <;> first | rfl | simp [grantParts] at hp
  | head idle hh => exact head_settles hh
  | unit hc driving pos => exact postUnit_settles _ _

theorem conclude_settles (q0 : OrderQueue) (d : Device) : Settles d (d.conclude q0) :=
  saleSteps_settles (conclude_steps q0 d)

theorem startUnit_settles (d : Device) : Settles d d.startUnit := saleSteps_settles (startUnit_steps d)

/-- An order that has ended keeps its record. -/
theorem Settles.kept {d e : Device} (h : Settles d e) (tags : tagsDistinct d.queue) {o : Order}
    (ho : o ∈ d.queue.orders) (past : o.state.live = false) : o ∈ e.queue.orders := by
  obtain ⟨o', ho', later⟩ := h.orders tags o ho
  obtain rfl := later.ended past
  exact ho'

end Sys2Proof.Proofs
end

section
/-! SUPPORT. The records of ended orders. RETIRE LANE: the QUEUED orders end, the slot is emptied, and the end of the event
leaves both. -/
namespace Sys2Proof.Proofs

open Sys2Proof.Machine Sys2Proof.Laws

-- One proof at a time: together they wait for the kernel in a thread each, and the memory limit is met.
set_option Elab.async false

/-- R48: the record of a QUEUED order that ends. -/
theorem close_queued {o : Order} (queued : o.state = .queued) (cause : EndCause) :
    o.close cause = { o with state := .cancelled, cause := some cause, residue := o.quantity - o.delivered } := by
  rw [Order.close, Order.endState, if_pos queued]

/-- R48: the record of a current order that ends before its last unit. -/
theorem close_unfinished {o : Order} (current : o.state.current = true) (owes : o.delivered < o.quantity)
    (cause : EndCause) : o.close cause =
      { o with state := if 0 < o.delivered then .partly else .failed, cause := some cause
               residue := o.quantity - o.delivered } := by
  have started : o.state ≠ .queued := fun queued => absurd current (by rw [queued]; simp [OrderState.current])
  rw [Order.close, Order.endState, if_neg started, if_neg (Nat.ne_of_lt owes)]

/-- The slot emptied and out of the changed-lanes set. -/
def vacated (n : Fin 64) (d : Device) : Device := (d.setSlot n none).leaveChanged n

theorem vacated_lane (n : Fin 64) (d : Device) : (vacated n d).lane? n = none := by
  rw [vacated, lane?_leaveChanged, lane?_setSlot, if_pos rfl]

theorem vacated_changed (n : Fin 64) (d : Device) : (vacated n d).table.changed[n] = false := by
  show (put _ n false)[n] = false
  rw [get_put, if_pos rfl]

/-- Settles O22: the endings keep the orders' records, the slot is emptied after them, and the end of the event fills no
slot and joins no lane to the set. -/
theorem retireLaneEmptiesTheSlot : Obligations.RetireLaneEmptiesTheSlot := by
  intro s n l h sound hl hb idle
  have cancels := cancelQueued_cancels n .laneRetired sound.2.1
  generalize hd : s.dev.cancelQueued n .laneRetired = d at cancels
  have settles := conclude_settles s.dev.queue (vacated n d)
  generalize he : (vacated n d).conclude s.dev.queue = e at settles
  have distinct : tagsDistinct d.queue := by rw [tagsDistinct, cancels.tags]; exact sound.2.1
  refine ⟨(s.withDev e).replied .ok (u8 (s.dev.queue.queuedOn n)), ?_, rfl, settles.vacant n (vacated_lane n d), ?_,
    fun o ho queued lane => ?_, ?_⟩
  · show Host.Outcome.next (s.request (retireLane n.val)) = _
    rw [request_taken h]
    simp only [retireLane, onLane_enrolled hl, laneBusy_eq_false hb idle, Bool.false_eq_true, if_false, hd]
    rw [← he]
    rfl
  · have changed : e.table.changed = (vacated n d).table.changed := settles.changed
    show e.table.changed[n] = false
    rw [changed]
    exact vacated_changed n d
  · have closed := cancels.closed o (List.mem_filter.2 ⟨ho, by simp [queued, lane]⟩)
    rw [← close_queued queued .laneRetired]
    exact settles.kept (d := vacated n d) distinct closed (close_live o _)
  · refine changesOnly_trans (b := d) (changesOnly_mono cancels.frame (by simp)) ?_
    refine changesOnly_trans (b := vacated n d) ?_ (changesOnly_mono settles.frame (by simp [saleParts, grantParts]))
    exact fun p hp => by cases p <;> first | rfl | simp at hp

end Sys2Proof.Proofs
end

section
/-! SUPPORT. A unit's failure and a fit check's end, as the queue and the lane table record them. -/
namespace Sys2Proof.Proofs

open Sys2Proof.Machine Sys2Proof.Laws

-- One proof at a time: together they wait for the kernel in a thread each, and the memory limit is met.
set_option Elab.async false

/-! ### A lane's record changed by the device (R1, R7) -/

theorem changeLane_changed {n : Fin 64} {d : Device} {l : Lane} (hl : d.lane? n = some l) (f : Lane → Lane) :
    (d.changeLane n f).table.changed[n] = true := by
  rw [changeLane_some hl, changed_joinChanged, decide_eq_true rfl, Bool.true_or]

theorem changeLane_frame (n : Fin 64) (f : Lane → Lane) (d : Device) :
    d.changesOnly [.conditions, .table] (d.changeLane n f) := by
  rw [changeLane_eq]
  exact fun p hp => by cases p <;> first | rfl | simp at hp

theorem joinChanged_conditions (n : Fin 64) (c : Condition) (d : Device) (h : d.conditions.has c = true) :
    (d.joinChanged n).conditions.has c = true := by
  unfold Device.joinChanged
  split
  · exact h
  · exact has_raise c _ _ h

theorem changeLane_conditions (n : Fin 64) (f : Lane → Lane) (c : Condition) (d : Device)
    (h : d.conditions.has c = true) : (d.changeLane n f).conditions.has c = true := by
  unfold Device.changeLane
  split
  · exact h
  · exact joinChanged_conditions n c _ h

theorem raised_has (c : Condition) (s : Conditions) : (s.raise c).has c = true := by
  simp only [Conditions.has, Conditions.raise, BitVec.getLsbD_or, Bool.or_eq_true]
  exact Or.inr (by cases c <;> decide)

/-! ### The motors stop (R26, R27) -/

/-- R27: the record of a lane whose motors stop. -/
def stoppedLane (d : Device) (l : Lane) : Lane :=
  { l with offHome := l.offHome || decide (d.drive.camConfirmed = some .opened) }

theorem stopMotors_lane (n m : Fin 64) (d : Device) :
    (d.stopMotors n).lane? m = if m = n then (d.lane? n).map (stoppedLane d) else d.lane? m := by
  unfold Device.stopMotors
  split
  next opened =>
    rw [lane?_updateLane]
    have same : stoppedLane d = fun l => { l with offHome := true } := funext fun l => by
      rw [stoppedLane, decide_eq_true opened, Bool.or_true]
    rw [same]
    rfl
  next shut =>
    have same : stoppedLane d = id := funext fun l => by
      rw [stoppedLane, decide_eq_false shut, Bool.or_false]
      rfl
    rw [same, Option.map_id]
    split
    next e => rw [e]; rfl
    · rfl

theorem stopMotors_frame (n : Fin 64) (d : Device) : d.changesOnly [.table, .drive, .scanner] (d.stopMotors n) := by
  unfold Device.stopMotors
  have off : d.changesOnly [.table, .drive, .scanner] d.switchOff := fun p hp => by cases p <;> first | rfl | simp at hp
  split
  · exact changesOnly_trans off (changesOnly_mono (updateLane_frame _ _ _) (by simp))
  · exact off

theorem stopMotors_changed (n : Fin 64) (d : Device) : (d.stopMotors n).table.changed = d.table.changed := by
  unfold Device.stopMotors
  split
  · exact (updateLane_changed n _ _).1
  · rfl

/-- What stopped work leaves: the queue and the rest of the sale, the lanes but for one's OFF_HOME mark. -/
structure Stopped (n : Fin 64) (d m : Device) : Prop where
  frame : d.changesOnly (.table :: grantParts) m
  lanes : ∀ k, m.lane? k = if k = n then (d.lane? n).map (stoppedLane d) else d.lane? k
  changed : m.table.changed = d.table.changed
  jobs : m.drive.jobs = d.drive.jobs
  active : m.drive.active = none

theorem driveGranted_jobs (d : Device) : d.driveGranted.drive.jobs = d.drive.jobs := by
  cases hj : d.drive.active with
  | none => rw [driveGranted_none hj]
  | some j =>
    obtain ⟨-, -, -, -, -, -, -, -, -, jobs⟩ := driveGranted_some hj
    exact jobs

theorem giveBack_jobs (who : Claimant) (d : Device) : (d.giveBack who).drive.jobs = d.drive.jobs := by
  unfold Device.giveBack
  split
  · refine grantLoop_induct (R := fun a b => b.drive.jobs = a.drive.jobs) (fun _ => rfl) (fun f g => g.trans f)
      (fun {a c rest} _ _ _ => ?_) _ _
    by_cases hc : c.who = .drive
    · simp only [granted, hc, Device.onGrant]
      exact driveGranted_jobs _
    · rw [granted, onGrant_drive hc]
  · rfl

theorem stopWork_stopped (n : Fin 64) (d : Device) : Stopped n d (d.stopWork n).endJob := by
  have back := giveBack_frame .drive (d.stopMotors n)
  have table : (d.stopWork n).table = (d.stopMotors n).table := back .table (by simp [grantParts])
  refine ⟨?_, fun k => ?_, ?_, ?_, rfl⟩
  · refine changesOnly_trans (changesOnly_mono (stopMotors_frame n d) (by simp [grantParts])) ?_
    refine changesOnly_trans (changesOnly_mono back fun p hp => List.mem_cons_of_mem _ hp) ?_
    exact fun p hp => by cases p <;> first | rfl | simp [grantParts] at hp
  · exact (lane?_of_table (e := (d.stopWork n).endJob) (d := d.stopMotors n) table k).trans (stopMotors_lane n k d)
  · exact (congrArg LaneTable.changed table).trans (stopMotors_changed n d)
  · exact (giveBack_jobs .drive _).trans (by rw [(stopMotors_spec n d).1])

theorem Stopped.queue {n : Fin 64} {d m : Device} (h : Stopped n d m) : m.queue = d.queue :=
  h.frame .queue (by simp [grantParts])

theorem Stopped.lane {n : Fin 64} {d m : Device} {l : Lane} (h : Stopped n d m) (hl : d.lane? n = some l) :
    m.lane? n = some (stoppedLane d l) := by
  rw [h.lanes, if_pos rfl, hl]
  rfl

theorem currentWith_of {q : OrderQueue} {o : Order} (h : q.current? = some o) : q.currentWith o.tag = some o := by
  rw [OrderQueue.currentWith, h, Option.filter_some, if_pos (decide_eq_true rfl)]

/-! ### A unit that jams or whose motor is open, its drop not seen (R33, R34, R58) -/

/-- R7: the record of a lane with a fault. -/
def faultedLane (cause : EndCause) (l : Lane) : Lane :=
  match cause with
  | .motorOpen => { l with base := .noMotor }
  | _ => { l with base := .jammed, jams := satAdd 255 l.jams 1 }

theorem laneFault_eq (cause : EndCause) (n : Fin 64) (d : Device) :
    d.laneFault cause n = d.changeLane n (faultedLane cause) := by
  cases cause <;> rfl

/-- What is recorded of a unit's fault: the order ended, its lane faulted. -/
structure Faults (cause : EndCause) (o : Order) (l : Lane) (d e : Device) : Prop where
  frame : d.changesOnly saleParts e
  closed : { o with state := if 0 < o.delivered then .partly else .failed, cause := some cause
                    residue := o.quantity - o.delivered } ∈ e.queue.orders
  lane : ∃ r off, e.lane? o.lane = some { faultedLane cause l with reserved := r, offHome := off }
  changed : e.table.changed[o.lane] = true
  ended : e.conditions.has .orderEnded = true
  balance : e.credit.balance = d.credit.balance

theorem unitFault_faults {d : Device} {j : ActiveJob} {o : Order} {l : Lane} (cause : EndCause)
    (tags : tagsDistinct d.queue) (hj : d.drive.active = some j) (job : j.job = .unitDrive o.lane o.tag)
    (unseen : j.dropSeen = false) (unmarked : j.supplyMark = false) (hc : d.queue.current? = some o)
    (hl : d.lane? o.lane = some l) (owes : o.delivered < o.quantity) : Faults cause o l d (d.unitFault cause) := by
  have stopped := stopWork_stopped o.lane d
  generalize hm : (d.stopWork o.lane).endJob = m at stopped
  have found : m.queue.currentWith o.tag = some o := by rw [stopped.queue]; exact currentWith_of hc
  obtain ⟨-, -, current, live⟩ := currentWith_current found
  have ends := unitFailed_ends cause found owes
  generalize hf : m.unitFailed o.tag cause = f at ends
  have settled : Settles (f.laneFault cause o.lane) ((f.laneFault cause o.lane).startUnit.conclude d.queue) :=
    (startUnit_settles _).trans (conclude_settles _ _)
  have whole : d.unitFault cause = (f.laneFault cause o.lane).startUnit.conclude d.queue := by
    simp only [Device.unitFault, hj, job, hm, Device.reportFault, unseen, unmarked, Bool.false_eq_true, if_false, hf]
  rw [laneFault_eq] at settled whole
  generalize he : (f.changeLane o.lane (faultedLane cause)).startUnit.conclude d.queue = e at settled whole
  rw [whole]
  have lane : f.lane? o.lane =
      some { stoppedLane d l with reserved := (stoppedLane d l).reserved - (o.quantity - o.delivered) } := by
    rw [ends.lanes, if_pos rfl, stopped.lane hl]
    rfl
  have faulted := changeLane_frame o.lane (faultedLane cause) f
  have queue : (f.changeLane o.lane (faultedLane cause)).queue = f.queue := faulted .queue (by simp)
  have credit : (f.changeLane o.lane (faultedLane cause)).credit = f.credit := faulted .credit (by simp)
  refine ⟨?_, ?_, ?_, ?_, ?_, ?_⟩
  · refine changesOnly_trans (changesOnly_mono stopped.frame (by simp [saleParts, grantParts])) ?_
    refine changesOnly_trans (changesOnly_mono ends.frame (by simp [saleParts, grantParts])) ?_
    exact changesOnly_trans (changesOnly_mono faulted (by simp [saleParts, grantParts])) settled.frame
  · rw [← close_unfinished current owes]
    refine settled.kept ?_ ?_ (close_live o cause)
    · rw [queue, tagsDistinct, ends.orders, stopped.queue]
      exact tagsDistinct_changeTag (fun _ => rfl) tags
    · rw [queue, ends.orders, stopped.queue]
      exact mem_changeTag.2 (Or.inr ⟨o, (current?_mem hc).1, rfl, rfl⟩)
  · obtain ⟨r, -, hr⟩ := settled.lanes o.lane _ (by rw [lane?_changeLane, if_pos rfl, lane]; rfl)
    refine ⟨r, (stoppedLane d l).offHome, hr.trans ?_⟩
    cases cause <;> rfl
  · rw [settled.changed]
    exact changeLane_changed lane _
  · refine settled.conditions _ (changeLane_conditions _ _ _ _ ?_)
    rw [ends.raised]
    exact raised_has _ _
  · rw [settled.balance, credit, ends.credit.1]
    exact congrArg Credit.balance (stopped.frame .credit (by simp [grantParts]))

end Sys2Proof.Proofs
end

section
/-! SUPPORT. The ends of a drop window and of a fit-check pulse; with nothing listed and no order to start, the end of an
event takes no job. -/
namespace Sys2Proof.Proofs

open Sys2Proof.Machine Sys2Proof.Laws

-- One proof at a time: together they wait for the kernel in a thread each, and the memory limit is met.
set_option Elab.async false

/-! ### Nothing to start, nothing to take -/

/-- R55: no head can start: the queue is HELD, empty of QUEUED orders, or has a current order. -/
def noHead (q : OrderQueue) : Prop := q.state = .held ∨ q.head? = none ∨ q.current?.isSome = true

theorem startHead_noHead {d : Device} (h : noHead d.queue) : d.startHead = d := by
  unfold Device.startHead
  split
  next o idle hh =>
    rcases h with held | none | busy
    · rw [held]
      rfl
    · exact absurd (hh.symm.trans none) (by simp)
    · exact absurd busy (by simp [idle])
  · rfl

theorem afterEndings_noHead {d : Device} (q0 : OrderQueue) (asked : Bool) (h : noHead d.queue) :
    Idles d (d.afterEndings q0 asked).1 := by
  unfold Device.afterEndings
  split
  · exact Idles.refl d
  split
  · have asks := askPayback_idles .change d
    rw [startHead_noHead (by rw [asks.queue]; exact h)]
    exact asks
  · rw [startHead_noHead h]
    exact Idles.refl d

theorem takeLoop_empty {d : Device} (q0 : OrderQueue) (asked : Bool) (fuel : Nat) (h : d.drive.jobs = []) :
    d.takeLoop q0 fuel asked = d := by
  cases fuel with
  | zero => rfl
  | succ fuel =>
    simp only [Device.takeLoop]
    split
    next hj => exact absurd (h.symm.trans hj) (by simp)
    · rfl

/-- The end of an event with an empty drive and no order to start. -/
theorem conclude_noHead {d : Device} (q0 : OrderQueue) (idle : d.drive.active = none) (empty : d.drive.jobs = [])
    (h : noHead d.queue) : Idles d (d.conclude q0) := by
  have after := afterEndings_noHead q0 false h
  rw [Device.conclude, takeLoop_empty _ _ _ (by rw [after.drive idle]; exact empty)]
  exact after

/-! ### A drop window closes on a REQUIRED unit (R32, R58, R63) -/

/-- What is recorded of a NO_DROP: the order ended, its lane empty, the lane's QUEUED orders ended. -/
structure NoDrop (o : Order) (d e : Device) : Prop where
  frame : d.changesOnly saleParts e
  closed : { o with state := if 0 < o.delivered then .partly else .failed, cause := some .noDrop
                    residue := o.quantity - o.delivered } ∈ e.queue.orders
  lane : ∃ l', e.lane? o.lane = some l' ∧ l'.stock = 0
  changed : e.table.changed[o.lane] = true
  soldOut : ∀ q ∈ d.queue.orders, q.state = .queued → q.lane = o.lane →
    { q with state := .cancelled, cause := some .soldOut, residue := q.quantity - q.delivered } ∈ e.queue.orders

theorem windowExpired_noDrop {d : Device} {j : ActiveJob} {o : Order} {l : Lane} (tags : tagsDistinct d.queue)
    (hj : d.drive.active = some j) (job : j.job = .unitDrive o.lane o.tag) (required : j.dropCheck = .required)
    (hc : d.queue.current? = some o) (hl : d.lane? o.lane = some l) (owes : o.delivered < o.quantity) :
    NoDrop o d d.windowExpired := by
  obtain ⟨ho, current⟩ := current?_mem hc
  have ends := unitFailed_ends (d := d.endJob) .noDrop (currentWith_of hc) owes
  generalize hf : d.endJob.unitFailed o.tag .noDrop = f at ends
  have lane : f.lane? o.lane = some { l with reserved := l.reserved - (o.quantity - o.delivered) } := by
    rw [ends.lanes, if_pos rfl]
    exact congrArg (Option.map _) hl
  have orders : f.queue.orders = changeTag o.tag (Order.close .noDrop) d.queue.orders := ends.orders
  have distinct : tagsDistinct f.queue := by
    rw [tagsDistinct, orders]
    exact tagsDistinct_changeTag (fun _ => rfl) tags
  have emptied := changeLane_frame o.lane (fun l => { l with stock := 0 }) f
  have queue : (f.emptyLane o.lane).queue = f.queue := emptied .queue (by simp)
  have changed : (f.emptyLane o.lane).table.changed[o.lane] = true := changeLane_changed lane _
  have empty : (f.emptyLane o.lane).lane? o.lane =
      some { l with reserved := l.reserved - (o.quantity - o.delivered), stock := 0 } := by
    rw [Device.emptyLane, lane?_changeLane, if_pos rfl, lane]
    rfl
  have cancels := cancelQueued_cancels (d := f.emptyLane o.lane) o.lane .soldOut (by rw [queue]; exact distinct)
  generalize hg : (f.emptyLane o.lane).cancelQueued o.lane .soldOut = g at cancels
  have distinct' : tagsDistinct g.queue := by rw [tagsDistinct, cancels.tags, queue]; exact distinct
  have whole : d.windowExpired = g.conclude d.queue := by simp only [Device.windowExpired, hj, job, required, hf, hg]
  have settled := conclude_settles d.queue g
  rw [whole]
  refine ⟨?_, ?_, ?_, ?_, fun q hq queued at_ => ?_⟩
  · have ended : d.changesOnly saleParts d.endJob :=
      fun p hp => by cases p <;> first | rfl | simp [saleParts, grantParts] at hp
    refine changesOnly_trans (changesOnly_trans ended (changesOnly_mono ends.frame (by simp [saleParts, grantParts]))) ?_
    refine changesOnly_trans (b := f.emptyLane o.lane) (changesOnly_mono emptied (by simp [saleParts, grantParts])) ?_
    exact changesOnly_trans (changesOnly_mono cancels.frame (by simp [saleParts, grantParts])) settled.frame
  · rw [← close_unfinished current owes]
    refine settled.kept distinct' (cancels.kept _ ?_ fun h => ?_) (close_live o _)
    · rw [queue, orders]
      exact mem_changeTag.2 (Or.inr ⟨o, ho, rfl, rfl⟩)
    · have ended := close_live o .noDrop
      obtain ⟨-, queued⟩ := List.mem_filter.1 h
      rw [Bool.and_eq_true, decide_eq_true_eq] at queued
      rw [queued.1] at ended
      exact absurd ended (by simp [OrderState.live])
  · have same := cancels.lanes o.lane
    rw [empty, Option.map_some] at same
    obtain ⟨k, hk, counts⟩ := Option.map_eq_some_iff.1 same
    have stock : k.stock = 0 := congrArg Lane.stock counts
    obtain ⟨r, -, hr⟩ := settled.lanes o.lane k hk
    exact ⟨_, hr, stock⟩
  · rw [settled.changed, cancels.changed]
    exact changed
  · have other : q.tag ≠ o.tag := fun e => by
      rw [eq_of_tag tags hq ho e] at queued
      rw [queued] at current
      exact absurd current (by simp [OrderState.current])
    have member : q ∈ (f.emptyLane o.lane).queue.orders := by
      rw [queue, orders]
      exact mem_changeTag.2 (Or.inl ⟨hq, other⟩)
    rw [← close_queued queued]
    exact settled.kept distinct' (cancels.closed q (List.mem_filter.2 ⟨member, by simp [queued, at_]⟩)) (close_live q _)

/-! ### A fit-check pulse ends (R40) -/

/-- What is recorded of a fit check's outcome. -/
structure FitChecked (n : Fin 64) (pass : Bool) (l : Lane) (d e : Device) : Prop where
  frame : d.changesOnly saleParts e
  lane : ∃ l', e.lane? n = some l' ∧ l'.base = (if pass then .inService else .noMotor) ∧ l'.stock = l.stock
  changed : e.table.changed[n] = true
  rests : d.drive.jobs = [] → d.queue.head? = none → e.drive.active = none

theorem pulseEnded_fitChecked {d : Device} {j : ActiveJob} {n : Fin 64} {l : Lane} (hj : d.drive.active = some j)
    (job : j.job = .fitCheck n) (hl : d.lane? n = some l) (checking : l.base = .checking) :
    FitChecked n j.passSeen l d d.pulseEnded := by
  have stopped := stopWork_stopped n d
  generalize hm : (d.stopWork n).endJob = m at stopped
  have lane := stopped.lane hl
  let record : Lane → Lane := fun l => { l with base := if j.passSeen then .inService else .noMotor }
  have reported : m.fitOutcome n j.passSeen = m.changeLane n record := by
    rw [Device.fitOutcome, lane, if_pos]
    exact decide_eq_true checking
  have lane_job : j.job.lane = n := by rw [job]; rfl
  have whole : d.pulseEnded = (m.changeLane n record).conclude d.queue := by
    simp only [Device.pulseEnded, hj, lane_job, hm, reported]
  have frame := changeLane_frame n record m
  have settled := conclude_settles d.queue (m.changeLane n record)
  have drive : (m.changeLane n record).drive = m.drive := frame .drive (by simp)
  have queue : (m.changeLane n record).queue = m.queue := frame .queue (by simp)
  rw [whole]
  refine ⟨?_, ?_, ?_, fun empty none => ?_⟩
  · refine changesOnly_trans (changesOnly_mono stopped.frame (by simp [saleParts, grantParts])) ?_
    exact changesOnly_trans (changesOnly_mono frame (by simp [saleParts, grantParts])) settled.frame
  · obtain ⟨r, -, hr⟩ := settled.lanes n _ (by rw [lane?_changeLane, if_pos rfl, lane]; rfl)
    exact ⟨_, hr, rfl, rfl⟩
  · rw [settled.changed]
    exact changeLane_changed lane _
  · have idle : (m.changeLane n record).drive.active = .none := by rw [drive]; exact stopped.active
    have rests := conclude_noHead d.queue idle (by rw [drive, stopped.jobs]; exact empty)
      (Or.inr (Or.inl (by rw [queue, stopped.queue]; exact none)))
    rw [rests.drive idle]
    exact idle

/-! ### The drive's timers -/

theorem jobTimer_of {d : Device} {j : ActiveJob} {phase : DrivePhase} (hj : d.drive.active = some j)
    (ph : j.phase = phase) (f : ActiveJob → Timer) : d.jobTimer phase f = f j := by
  rw [Device.jobTimer, hj, Option.filter_some, if_pos (decide_eq_true ph), Option.bind_some]

/-- A change of the sale after the clock has reached a timer's end. -/
theorem frame_reach {d e : Device} {due : Nat} (h : (d.reach due).changesOnly saleParts e) :
    d.changesOnly (.clock :: saleParts) e := by
  refine changesOnly_trans (b := d.reach due) ?_ (changesOnly_mono h fun p hp => List.mem_cons_of_mem _ hp)
  exact fun p hp => by cases p <;> first | rfl | simp at hp

/-- The stall's two timers end the unit with a JAM. -/
theorem stall_event {s : State} {i : Instr} {j : ActiveJob} (awake : s.awake) (hj : s.dev.drive.active = some j)
    (turning : j.phase = .turning)
    (h : (i = .departureTimeout ∧ j.departureTimer.isSome = true) ∨ (i = .turnTimerExpiry ∧ j.turnTimer.isSome = true)) :
    ∃ due, exec i s = .next (s.withDev ((s.dev.reach due).unitFault .jam)) := by
  rcases h with ⟨rfl, runs⟩ | ⟨rfl, runs⟩
  · obtain ⟨due, hd⟩ := Option.isSome_iff_exists.1 runs
    refine ⟨due, ?_⟩
    show Host.Outcome.next (s.event Device.departureTimeout) = _
    rw [event_awake awake, Device.departureTimeout, jobTimer_of hj turning, hd]
    rfl
  · obtain ⟨due, hd⟩ := Option.isSome_iff_exists.1 runs
    refine ⟨due, ?_⟩
    show Host.Outcome.next (s.event Device.turnTimerExpiry) = _
    rw [event_awake awake, Device.turnTimerExpiry, jobTimer_of hj turning, hd]
    rfl

/-- Settles O50: each expiry acts on the active job once the clock has reached it, and its record stands at the end of the
event. -/
theorem stallsWindowsAndPulsesReport : Obligations.StallsWindowsAndPulsesReport := by
  refine ⟨fun s i j o l awake sound hj turning job unseen unmarked hc hl owes timer => ?_,
    fun s j o l due awake sound hj window timer job required hc hl owes => ?_,
    fun s j n l due awake hj pulse timer job hl checking => ?_⟩
  · obtain ⟨due, step⟩ := stall_event awake hj turning timer
    have faults := unitFault_faults (d := s.dev.reach due) .jam sound.2.1 hj job unseen unmarked hc hl owes
    obtain ⟨r, off, lane⟩ := faults.lane
    exact ⟨_, _, step, faults.closed, lane, rfl, rfl, rfl, faults.changed, faults.ended, faults.balance, rfl, rfl,
      frame_reach faults.frame⟩
  · have step : exec .dropWindowExpiry s = .next (s.withDev (s.dev.reach due).windowExpired) := by
      show Host.Outcome.next (s.event Device.dropWindowExpiry) = _
      rw [event_awake awake, Device.dropWindowExpiry, jobTimer_of hj window, timer]
      rfl
    have noDrop := windowExpired_noDrop (d := s.dev.reach due) sound.2.1 hj job required hc hl owes
    obtain ⟨l', lane, empty⟩ := noDrop.lane
    exact ⟨_, l', step, noDrop.closed, lane, empty, noDrop.changed, noDrop.soldOut, rfl, rfl, frame_reach noDrop.frame⟩
  · have step : exec .fitPulseEnd s = .next (s.withDev (s.dev.reach due).pulseEnded) := by
      show Host.Outcome.next (s.event Device.fitPulseEnd) = _
      rw [event_awake awake, Device.fitPulseEnd, jobTimer_of hj pulse, timer]
      rfl
    have checked := pulseEnded_fitChecked (d := s.dev.reach due) hj job hl checking
    obtain ⟨l', lane, base, stock⟩ := checked.lane
    exact ⟨_, l', step, lane, base, stock, checked.changed, checked.rests, rfl, rfl, frame_reach checked.frame⟩

end Sys2Proof.Proofs
end

section
/-! SUPPORT. BEAM BREAK: a stray drop, a drop marked, a unit delivered. -/
namespace Sys2Proof.Proofs

open Sys2Proof.Machine Sys2Proof.Laws

-- One proof at a time: together they wait for the kernel in a thread each, and the memory limit is met.
set_option Elab.async false

/-! ### No order has ended -/

theorem endedSince_nil {q0 q : OrderQueue} (tags : tagsDistinct q0) (same : q.orders = q0.orders) :
    q0.endedSince q = [] := by
  rw [OrderQueue.endedSince, List.filter_eq_nil_iff, same]
  intro o ho
  rw [find?_of_mem tags ho, Option.all_some]
  cases o.state.live <;> simp

/-- With no order ended and nothing listed, an event ends with nothing more. -/
theorem conclude_nothing {d : Device} (tags : tagsDistinct d.queue) (empty : d.drive.jobs = []) :
    d.conclude d.queue = d := by
  have after : d.afterEndings d.queue false = (d, false) := by
    rw [Device.afterEndings, endedSince_nil tags rfl]
    rfl
  rw [Device.conclude, after]
  exact takeLoop_empty _ _ _ empty

/-! ### A unit delivered in an open window (R57) -/

theorem creditUnit_delivered (o : Order) : (creditUnit o).delivered = o.delivered + 1 := by
  unfold creditUnit
  split <;> rfl

theorem creditUnit_charged (o : Order) : (creditUnit o).charged = o.charged + o.price := by
  unfold creditUnit
  split <;> rfl

/-- R60: the last unit ends the order. -/
theorem creditUnit_last {o : Order} (last : o.delivered + 1 = o.quantity) : creditUnit o = o.credit.close .completed :=
  if_pos last

/-- R60: an order with a unit more goes on. -/
theorem creditUnit_more {o : Order} (more : o.delivered + 1 < o.quantity) : creditUnit o = o.credit :=
  if_neg (Nat.ne_of_lt more)

theorem close_completed {o : Order} (current : o.state.current = true) (last : o.delivered + 1 = o.quantity) :
    (o.credit.close .completed).state = .delivered := by
  have started : o.credit.state ≠ .queued := fun queued => absurd current (by
    rw [show o.state = .queued from queued]
    simp [OrderState.current])
  rw [Order.close, Order.endState, if_neg started, if_pos (by exact last)]

theorem Delivers.queue_sound {o : Order} {d m : Device} (h : Delivers o d m) (sound : d.queue.sound)
    (hc : d.queue.current? = some o) : m.queue.sound := by
  obtain ⟨ho, current⟩ := current?_mem hc
  exact (sound_of_orders (q := d.queue.update o.tag creditUnit) h.orders).1.2
    (sound_update sound ho creditUnit_tag fun _ => Or.inr current)

theorem Delivers.member {o : Order} {d m : Device} (h : Delivers o d m) (ho : o ∈ d.queue.orders) :
    creditUnit o ∈ m.queue.orders := by
  rw [h.orders]
  exact mem_changeTag.2 (Or.inr ⟨o, ho, rfl, rfl⟩)

/-- After the last unit no order is current. -/
theorem Delivers.no_current {o : Order} {d m : Device} (h : Delivers o d m) (sound : d.queue.sound)
    (hc : d.queue.current? = some o) (last : o.delivered + 1 = o.quantity) : m.queue.current? = none := by
  rw [OrderQueue.current?, List.find?_eq_none, h.orders]
  intro y hy current
  rcases mem_changeTag.1 hy with ⟨hy, other⟩ | ⟨x, hx, same, rfl⟩
  · obtain rfl : y = o := Option.some.inj ((current?_of_mem sound hy current).symm.trans hc)
    exact other rfl
  · obtain rfl := eq_of_tag sound.2.1 hx (current?_mem hc).1 same
    rw [creditUnit_last last, close_current] at current
    exact Bool.false_ne_true current

/-- Without a head before, there is none after. -/
theorem Delivers.no_head {o : Order} {d m : Device} (h : Delivers o d m) (sound : d.queue.sound)
    (hc : d.queue.current? = some o) (none : d.queue.head? = none) : m.queue.head? = .none := by
  obtain ⟨ho, current⟩ := current?_mem hc
  rw [OrderQueue.head?, List.find?_eq_none] at none ⊢
  rw [h.orders]
  intro y hy queued
  rw [decide_eq_true_eq] at queued
  rcases mem_changeTag.1 hy with ⟨hy, -⟩ | ⟨x, hx, same, rfl⟩
  · exact none y hy (decide_eq_true queued)
  · obtain rfl := eq_of_tag sound.2.1 hx ho same
    unfold creditUnit at queued
    split at queued
    · have ended := close_live x.credit .completed
      rw [queued] at ended
      exact absurd ended (by simp [OrderState.live])
    · rw [show x.state = .queued from queued] at current
      exact absurd current (by simp [OrderState.current])

/-- R55, R60: when the queue starts no order with this unit, the head cannot start. -/
theorem Delivers.noHead {o : Order} {d m : Device} (h : Delivers o d m) (sound : d.queue.sound)
    (hc : d.queue.current? = some o) (owes : o.delivered < o.quantity)
    (starts : d.queue.state = .held ∨ o.holdAfter = true ∨ d.queue.head? = none ∨ o.delivered + 1 < o.quantity) :
    noHead m.queue := by
  obtain ⟨ho, current⟩ := current?_mem hc
  rcases Nat.lt_or_eq_of_le (Nat.succ_le_of_lt owes) with more | last
  · have goes : (creditUnit o).state.current = true := by rw [creditUnit_more more]; exact current
    exact Or.inr (Or.inr (by rw [current?_of_mem (h.queue_sound sound hc) (h.member ho) goes]; rfl))
  · rcases starts with held | after | none | more
    · exact Or.inl (by rw [h.state, held]; simp)
    · exact Or.inl (by rw [h.state, if_pos ⟨last, after⟩])
    · exact Or.inr (Or.inl (h.no_head sound hc none))
    · exact absurd last (Nat.ne_of_lt more)

/-- R56: a HALTED order's next unit is not started, nor any after the last. -/
theorem Delivers.startUnit {o : Order} {d m : Device} (h : Delivers o d m) (sound : d.queue.sound)
    (hc : d.queue.current? = some o) (owes : o.delivered < o.quantity)
    (waits : o.delivered + 1 < o.quantity → o.state = .halted) : m.startUnit = m := by
  obtain ⟨ho, current⟩ := current?_mem hc
  rcases Nat.lt_or_eq_of_le (Nat.succ_le_of_lt owes) with more | last
  · have halted : (creditUnit o).state = .halted := by rw [creditUnit_more more]; exact waits more
    have now_current := current?_of_mem (h.queue_sound sound hc) (h.member ho) (by rw [halted]; rfl)
    simp only [Device.startUnit, now_current, halted, reduceCtorEq, decide_false, Bool.false_and, Bool.false_eq_true,
      if_false]
  · simp only [Device.startUnit, h.no_current sound hc last]

theorem delivers_settled {d m : Device} {o : Order} {l : Lane} (sound : d.queue.sound)
    (hc : d.queue.current? = some o) (hl : d.lane? o.lane = some l) (owes : o.delivered < o.quantity)
    (idle : m.drive.active = none) (jobs : m.drive.jobs = d.drive.jobs) (h : Delivers o d m) :
    let e := m.startUnit.conclude d.queue
    let price := if o.payment = .credit then o.price else 0
    ∃ o' l', e.queue.find? o.tag = some o' ∧ o'.delivered = o.delivered + 1 ∧
      o'.charged = o.charged + o.price ∧ (o.delivered + 1 = o.quantity → o'.state = .delivered ∧ o'.cause = some .completed) ∧
      e.lane? o.lane = some l' ∧ l'.stock = l.stock - 1 ∧ l'.sales = min 65535 (l.sales + 1) ∧
      l'.base = l.base ∧ l'.reserved ≤ l.reserved - 1 ∧
      e.credit.balance = d.credit.balance - price ∧ e.credit.committed ≤ d.credit.committed - price ∧
      (d.drive.jobs = [] → (o.delivered + 1 < o.quantity → o.state = .halted) →
        (d.queue.state = .held ∨ o.holdAfter = true ∨ d.queue.head? = none ∨ o.delivered + 1 < o.quantity) →
        l'.reserved = l.reserved - 1 ∧ e.credit.committed = d.credit.committed - price) ∧
      d.changesOnly saleParts e := by
  obtain ⟨ho, current⟩ := current?_mem hc
  intro e price
  have settled : Settles m e := (startUnit_settles m).trans (conclude_settles _ _)
  have distinct : tagsDistinct m.queue := (h.queue_sound sound hc).2.1
  obtain ⟨balance, committed⟩ := h.credit
  obtain ⟨o', ho', later⟩ := settled.orders distinct _ (h.member ho)
  have tag : o'.tag = o.tag := later.tag.trans (creditUnit_tag o)
  have lane : m.lane? o.lane = some (deliverLane l) := by rw [h.lanes, if_pos rfl, hl]; rfl
  obtain ⟨r, le, hr⟩ := settled.lanes o.lane _ lane
  refine ⟨o', _, ?_, later.delivered.trans (creditUnit_delivered o), later.charged.trans (creditUnit_charged o),
    fun last => ?_, hr, rfl, rfl, rfl, le, settled.balance.trans balance, settled.committed.trans (Nat.le_of_eq committed),
    fun empty waits starts => ?_, ?_⟩
  · rw [← tag]
    exact find?_of_mem (settled.distinct distinct) ho'
  · have ended : creditUnit o = o.credit.close .completed := creditUnit_last last
    obtain rfl := later.ended (by rw [ended]; exact close_live _ _)
    rw [ended]
    exact ⟨close_completed current last, rfl⟩
  · have rests : Idles m e := by
      show Idles m (m.startUnit.conclude d.queue)
      rw [h.startUnit sound hc owes waits]
      exact conclude_noHead _ idle (jobs.trans empty) (h.noHead sound hc owes starts)
    have same : e.lane? o.lane = some (deliverLane l) := by rw [lane?_of_table rests.table, lane]
    exact ⟨congrArg Lane.reserved (Option.some.inj (hr.symm.trans same)), rests.committed.trans committed⟩
  · exact changesOnly_trans (changesOnly_mono h.frame (by simp [saleParts, grantParts])) settled.frame

/-! ### BEAM BREAK -/

theorem exec_beamBreak {s : State} (awake : s.awake) : exec .beamBreak s = .next (s.withDev s.dev.beamBreak) := by
  show Host.Outcome.next (s.event Device.beamBreak) = _
  rw [event_awake awake]

/-- R42: with no open window of a unit drive a break is a stray drop. -/
theorem beamBreak_stray {d : Device} (h : ∀ j, d.drive.active = some j → j.job.tag? = none ∨ j.windowOpen = false) :
    d.beamBreak = d.strayDrop := by
  unfold Device.beamBreak
  split
  · rfl
  next j hj =>
    split
    · rfl
    next tag unit =>
      rcases h j hj with fit | shut
      · exact absurd (fit.symm.trans unit) (by simp)
      · rw [if_neg (by simp [shut])]

theorem beamBreak_open {d : Device} {j : ActiveJob} {n : Fin 64} {tag : Nat} (hj : d.drive.active = some j)
    (job : j.job = .unitDrive n tag) (window : j.windowOpen = true) : d.beamBreak = d.creditDrop tag j := by
  simp only [Device.beamBreak, hj, job, Job.tag?, window, if_true]

/-- Settles O51: a break goes by the phase of the active job; a delivery stands at the end of the event, and with nothing
to start the event releases no more than the unit. -/
theorem beamBreakCreditsTheUnit : Obligations.BeamBreakCreditsTheUnit := by
  refine ⟨fun s awake stray => ?_, fun s j n tag awake hj job window => ⟨fun ph => ?_, fun ph reported empty sound => ?_⟩,
    fun s j o l awake sound hj job window ph hc hl owes => ?_⟩
  · rw [exec_beamBreak awake, beamBreak_stray stray]
    rfl
  · rw [exec_beamBreak awake, beamBreak_open hj job window]
    have marks : s.dev.creditDrop tag j = s.dev.updateJob fun j => { j with dropSeen := true, windowOpen := false } := by
      rcases ph with ph | ph <;> simp only [Device.creditDrop, ph]
    rw [marks, Device.updateJob, hj]
    rfl
  · rw [exec_beamBreak awake, beamBreak_open hj job window]
    simp only [Device.creditDrop, ph, reported]
    exact congrArg (fun d => Host.Outcome.next (s.withDev d)) (conclude_nothing (d := s.dev.endJob) sound.2.1 empty)
  · intro price
    have delivers := unitDelivered_delivers (d := s.dev.endJob) sound.2.1 (currentWith_of hc)
    have drive : (s.dev.endJob.unitDelivered o.tag).drive = s.dev.endJob.drive := delivers.frame .drive (by simp)
    have credits : s.dev.creditDrop o.tag j = (s.dev.endJob.unitDelivered o.tag).startUnit.conclude s.dev.queue := by
      rcases ph with ph | ⟨ph, required⟩
      · simp only [Device.creditDrop, ph]
      · simp only [Device.creditDrop, ph, required]
    obtain ⟨o', l', found, delivered, charged, last, lane, stock, sales, base, reserved, balance, committed, release, frame⟩ :=
      delivers_settled (d := s.dev.endJob) sound hc hl owes (by rw [drive]; rfl) (by rw [drive]) delivers
    refine ⟨s.withDev _, o', l', ?_, found, delivered, charged, last, lane, stock, sales, base, reserved, balance,
      committed, release, rfl, rfl, ?_⟩
    · rw [exec_beamBreak awake, beamBreak_open hj job window, credits]
      rfl
    · refine changesOnly_trans (b := s.dev.endJob) ?_ frame
      exact fun p hp => by cases p <;> first | rfl | simp [saleParts, grantParts] at hp

end Sys2Proof.Proofs
end

section
/-! SUPPORT. The beginning of a warm start-up: the first fit check is taken, a due defrost entered, and the drive and the
heaters are the only claimants. -/
namespace Sys2Proof.Proofs

open Sys2Proof.Machine Sys2Proof.Laws

-- One proof at a time: together they wait for the kernel in a thread each, and the memory limit is met.
set_option Elab.async false

/-! ### Claims of the drive and the heaters alone -/

/-- A claim of the drive or of a heater. -/
def warmClaim (c : Claim) : Prop := c.who = .drive ∨ ∃ z, c.who = .heater z

/-- The claims waiting and granted. -/
def entries (d : Device) : List Claim := d.load.grants ++ d.load.waiters

/-- What start-up and its claims leave. -/
structure Rouses (d e : Device) : Prop where
  frame : d.changesOnly [.drive, .zones, .scanner, .load] e
  set : e.drive.set = d.drive.set
  scanner : e.scanner = { d.scanner with priorityTimer := e.scanner.priorityTimer }
  loadSet : e.load.set = d.load.set
  band : e.load.band = d.load.band
  warm : (∀ c ∈ entries d, warmClaim c) → ∀ c ∈ entries e, warmClaim c
  entries : ∀ c ∈ entries d, c ∈ entries e
  job : ∀ job, d.drive.active.map (·.job) = some job → e.drive.active.map (·.job) = some job

theorem Rouses.refl (d : Device) : Rouses d d where
  frame := changesOnly_refl _ d
  set := rfl
  scanner := rfl
  loadSet := rfl
  band := rfl
  warm := id
  entries _ := id
  job _ := id

theorem Rouses.trans {a b c : Device} (h : Rouses a b) (k : Rouses b c) : Rouses a c where
  frame := changesOnly_trans h.frame k.frame
  set := k.set.trans h.set
  scanner := by
    have same := k.scanner
    rw [h.scanner] at same
    exact same
  loadSet := k.loadSet.trans h.loadSet
  band := k.band.trans h.band
  warm w := k.warm (h.warm w)
  entries x hx := k.entries x (h.entries x hx)
  job x hx := k.job x (h.job x hx)

/-- A zone but for the defrost under way. -/
def zoneCore (r : Zone) : Zone := { r with defrost := none }

/-- What a grant of the drive or of a heater leaves. -/
structure Grants (d e : Device) : Prop where
  rouses : Rouses d e
  zones : ∀ z : Fin 2, zoneCore e.zones[z] = zoneCore d.zones[z]
  same : entries e = entries d

theorem Grants.refl (d : Device) : Grants d d := ⟨Rouses.refl d, fun _ => rfl, rfl⟩

theorem Grants.trans {a b c : Device} (h : Grants a b) (k : Grants b c) : Grants a c :=
  ⟨h.rouses.trans k.rouses, fun z => (k.zones z).trans (h.zones z), k.same.trans h.same⟩

theorem zoneCore_put {v : Vector Zone 2} {z : Fin 2} {r : Zone} (h : zoneCore r = zoneCore v[z]) (y : Fin 2) :
    zoneCore (put v z r)[y] = zoneCore v[y] := by
  rw [get_put]
  split
  next e => rw [h, e]
  · rfl

theorem driveGranted_grants (d : Device) : Grants d d.driveGranted := by
  have made (j k : ActiveJob) (n : Fin 64) (hj : d.drive.active = some j) (hk : k.job = j.job) :
      Grants d ((d.energize n j.companion).updateJob fun _ => k) := by
    refine ⟨⟨?_, rfl, rfl, rfl, rfl, id, fun _ => id, fun job h => ?_⟩, fun _ => rfl, rfl⟩
    · exact fun p hp => by cases p <;> first | rfl | simp at hp
    · show (d.drive.active.map fun _ => k).map (·.job) = _
      rw [hj] at h ⊢
      exact (congrArg some hk).trans h
  unfold Device.driveGranted
  split
  · exact Grants.refl d
  next j hj =>
    split
    next n _ =>
      have same : (d.energize n j.companion).updateJob (·.pulse d.now) =
          (d.energize n j.companion).updateJob fun _ => j.pulse d.now := by
        simp only [Device.updateJob, Device.energize, hj]
        rfl
      rw [same]
      exact made j _ n hj rfl
    next n tag _ =>
      dsimp only
      generalize (d.lane? n).any (·.offHome) = offHome
      have same : (d.energize n j.companion).updateJob (·.turn d.now d.drive.turnMs offHome) =
          (d.energize n j.companion).updateJob fun _ => j.turn d.now d.drive.turnMs offHome := by
        simp only [Device.updateJob, Device.energize, hj]
        rfl
      rw [same]
      exact made j _ n hj rfl

theorem heaterGranted_grants (z : Fin 2) (d : Device) : Grants d (d.heaterGranted z) := by
  refine ⟨⟨?_, rfl, rfl, rfl, rfl, id, fun _ => id, fun _ => id⟩, zoneCore_put rfl, rfl⟩
  exact fun p hp => by cases p <;> first | rfl | simp at hp

theorem granted_grants {d : Device} {c : Claim} {rest : List Claim} (hw : d.load.waiters = c :: rest)
    (hc : warmClaim c) : Grants d (granted d c rest) := by
  have moved : Grants d { d with load := d.load.grantHead c rest } := by
    have same : entries { d with load := d.load.grantHead c rest } = entries d := by
      simp [entries, LoadBudget.grantHead, hw]
    refine ⟨⟨?_, rfl, rfl, rfl, rfl, fun w => by rw [same]; exact w, fun x => by rw [same]; exact id, fun _ => id⟩,
      fun _ => rfl, same⟩
    exact fun p hp => by cases p <;> first | rfl | simp at hp
  refine moved.trans ?_
  unfold granted
  rcases hc with who | ⟨z, who⟩
  · rw [who]
    exact driveGranted_grants _
  · rw [who]
    exact heaterGranted_grants z _

/-- The grant test among such claims. -/
theorem grantTest_grants {d : Device} (h : ∀ c ∈ entries d, warmClaim c) : Grants d d.grantTest := by
  refine grantLoop_induct (R := fun a b => (∀ c ∈ entries a, warmClaim c) → Grants a b) (fun a _ => Grants.refl a)
    (fun f g w => (f w).trans (g ((f w).rouses.warm w))) (fun hw _ _ w => granted_grants hw (w _ ?_)) _ d h
  rw [entries, hw]
  exact List.mem_append_right _ List.mem_cons_self

/-- A claim of the drive or a heater is made: it waits or is granted. -/
theorem claim_rouses {d : Device} {c : Claim} (hc : warmClaim c) (h : ∀ x ∈ entries d, warmClaim x) :
    Rouses d (d.claim c) ∧ (∀ z : Fin 2, zoneCore (d.claim c).zones[z] = zoneCore d.zones[z]) ∧
      c ∈ entries (d.claim c) := by
  let e : Device := { d with load := { d.load with waiters := d.load.waiters ++ [c] } }
  have joined : entries e = entries d ++ [c] := (List.append_assoc _ _ _).symm
  have warm : ∀ x ∈ entries e, warmClaim x := fun x hx => by
    rw [joined] at hx
    rcases List.mem_append.1 hx with hx | hx
    · exact h x hx
    · rw [List.mem_singleton.1 hx]
      exact hc
  have waits : Rouses d e := by
    refine ⟨?_, rfl, rfl, rfl, rfl, fun _ => warm, fun x hx => ?_, fun _ => id⟩
    · exact fun p hp => by cases p <;> first | rfl | simp at hp
    · rw [joined]
      exact List.mem_append_left _ hx
  have grants : Grants e (d.claim c) := grantTest_grants warm
  refine ⟨waits.trans grants.rouses, grants.zones, ?_⟩
  rw [grants.same, joined]
  exact List.mem_append_right _ List.mem_cons_self

/-! ### The first fit check (R20, R21) -/

theorem mem_fitChecks {t : LaneTable} {job : Job} (h : job ∈ t.fitChecks) :
    ∃ n l, job = .fitCheck n ∧ t.slots[n] = some l ∧ l.base = .checking := by
  obtain ⟨n, hn, rfl⟩ := List.mem_map.1 h
  obtain ⟨there, checking⟩ := (Option.any_eq_true_iff_get _ _).1 (List.mem_filter.1 hn).2
  exact ⟨n, _, rfl, (Option.some_get there).symm, of_decide_eq_true checking⟩

/-- The first fit check is of the lowest lane in CHECKING. -/
theorem fitChecks_head {d : Device} {n : Fin 64}
    (low : ∀ m : Fin 64, m < n → ∀ l, d.lane? m = some l → l.base ≠ .checking)
    (checking : ∃ l, d.lane? n = some l ∧ l.base = .checking) : ∃ rest, d.table.fitChecks = .fitCheck n :: rest := by
  obtain ⟨l, hl, base⟩ := checking
  have first : allLanes.find? (fun n => d.table.slots[n].any (·.base = .checking)) = some n := by
    refine find?_of_lowest ?_ (fun m hm => ?_) (upTo_ascending 63) (mem_allLanes n)
    · show (d.lane? n).any _ = true
      rw [hl]
      exact decide_eq_true base
    · show (d.lane? m).any _ = false
      cases h : d.lane? m with
      | none => rfl
      | some k => exact decide_eq_false (low m hm k h)
  rw [← List.head?_filter] at first
  obtain ⟨rest, hr⟩ := List.head?_eq_some_iff.1 first
  exact ⟨rest.map Job.fitCheck, by rw [LaneTable.fitChecks, hr, List.map_cons]⟩

/-- What the taking of the first fit check leaves. -/
structure TakesCheck (d e : Device) : Prop where
  rouses : Rouses d e
  zones : ∀ z : Fin 2, zoneCore e.zones[z] = zoneCore d.zones[z]
  first : ∀ job rest, d.table.fitChecks = job :: rest → e.drive.active.map (·.job) = some job
  none : d.table.fitChecks = [] → e = d

theorem takeFrom_takesCheck {d : Device} (q0 : OrderQueue) (idle : d.drive.active = none)
    (listed : d.drive.jobs = d.table.fitChecks) (warm : ∀ c ∈ entries d, warmClaim c) :
    TakesCheck d (d.takeFrom q0) := by
  cases hf : d.table.fitChecks with
  | nil =>
    have same : d.takeFrom q0 = d := takeLoop_empty _ _ _ (listed.trans hf)
    rw [same]
    exact ⟨Rouses.refl d, fun _ => rfl, fun _ _ h => absurd (hf.symm.trans h) (by simp), fun _ => rfl⟩
  | cons job rest =>
    obtain ⟨n, l, rfl, hl, checking⟩ := mem_fitChecks (t := d.table) (job := job) (by rw [hf]; exact List.mem_cons_self)
    let e : Device := { d with drive := { d.drive with jobs := rest, active := some (newJob (.fitCheck n) l) } }
    have active : Rouses d e := by
      refine ⟨?_, rfl, rfl, rfl, rfl, id, fun _ => id, fun job h => ?_⟩
      · exact fun p hp => by cases p <;> first | rfl | simp at hp
      · rw [idle] at h
        cases h
    obtain ⟨claims, zones, -⟩ := claim_rouses (d := e) (c := driveClaim 1 (.fitCheck n)) (Or.inl rfl) warm
    have job_ : (e.claim (driveClaim 1 (.fitCheck n))).drive.active.map (·.job) = some (.fitCheck n) := claims.job _ rfl
    obtain ⟨k, hk, -⟩ := Option.map_eq_some_iff.1 job_
    have taken : Device.takeJob (.fitCheck n) (withJobs rest d) = e.claim (driveClaim 1 (.fitCheck n)) := by
      have lane : (withJobs rest d).lane? n = some l := hl
      simp only [Device.takeJob, lane, checking, if_true]
      rfl
    have whole : d.takeFrom q0 = e.claim (driveClaim 1 (.fitCheck n)) :=
      takeLoop_takes idle (listed.trans hf) taken hk q0 _ false
    rw [whole]
    refine ⟨active.trans claims, zones, fun job' rest' h => ?_, fun h => absurd (hf.symm.trans h) (by simp)⟩
    rw [← (List.cons.inj (hf.symm.trans h)).1]
    exact job_

/-! ### Due defrosts (R130) -/

/-- R130, R131: a zone at the check of its due defrost. -/
def dueZone (r : Zone) : Zone :=
  if r.defrostDue && (r.state = .satisfied || r.state = .calling) then
    { r with state := .defrost, sinceDefrost := 0, sinceTimer := none, defrostDue := false }
  else r

theorem dueZone_core (r : Zone) : zoneCore (dueZone r) = dueZone (zoneCore r) := by
  by_cases due : (r.defrostDue && (r.state = .satisfied || r.state = .calling)) = true
  · exact (congrArg zoneCore (if_pos due)).trans (if_pos (by exact due)).symm
  · exact (congrArg zoneCore (if_neg due)).trans (if_neg (by exact due)).symm

/-- What the check of a zone's due defrost leaves while the zone is not CALLING. -/
structure ChecksDue (z : Fin 2) (d e : Device) : Prop where
  rouses : Rouses d e
  zones : ∀ y : Fin 2, zoneCore e.zones[y] = if y = z then dueZone (zoneCore d.zones[z]) else zoneCore d.zones[y]
  claim : (dueZone d.zones[z]).state = .defrost → d.zones[z].state ≠ .defrost → heaterClaim z ∈ entries e

theorem checkDue_checksDue {z : Fin 2} {d : Device} (still : d.zones[z].state ≠ .calling)
    (warm : ∀ c ∈ entries d, warmClaim c) : ChecksDue z d (d.checkDue z) := by
  simp only [Device.checkDue]
  split
  next due =>
    have core : dueZone (zoneCore d.zones[z]) =
        zoneCore { d.zones[z] with state := .defrost, sinceDefrost := 0, sinceTimer := none, defrostDue := false } :=
      if_pos due
    let entered : Zone → Zone := fun r =>
      { r with sinceDefrost := 0, sinceTimer := none, defrostDue := false,
               defrost := some { endTemp := r.set.defrostEnd, maxMinutes := r.set.defrostMax, timer := none } }
    let e : Device := (d.updateZone z entered).setZoneState z .defrost
    have eq : e = (d.updateZone z entered).updateZone z fun r => { r with state := .defrost } := by
      show (d.updateZone z entered).setZoneState z .defrost = _
      simp only [Device.setZoneState]
      refine if_pos ?_
      simp only [updateZone_zones, get_put, if_true, Zone.valve, entered, still, decide_false, reduceCtorEq]
    have moved : Rouses d e := by
      rw [eq]
      refine ⟨?_, rfl, rfl, rfl, rfl, id, fun _ => id, fun _ => id⟩
      exact fun p hp => by cases p <;> first | rfl | simp at hp
    have zones (y : Fin 2) : zoneCore e.zones[y] = if y = z then dueZone (zoneCore d.zones[z]) else zoneCore d.zones[y] := by
      rw [eq, core]
      simp only [updateZone_zones, get_put, if_true]
      split <;> rfl
    obtain ⟨claims, zones', made⟩ := claim_rouses (d := e) (c := heaterClaim z) (Or.inr ⟨z, rfl⟩) (moved.warm warm)
    exact ⟨moved.trans claims, fun y => (zones' y).trans (zones y), fun _ _ => made⟩
  next idle =>
    have same : dueZone d.zones[z] = d.zones[z] := if_neg idle
    refine ⟨Rouses.refl d, fun y => ?_, fun h h' => absurd (same ▸ h) h'⟩
    split
    next e => rw [← dueZone_core, same, e]
    · rfl

/-! ### Warm start-up begins (R45, R130, R190) -/

/-- What the beginning of warm start-up leaves. -/
structure Begins (d e : Device) : Prop where
  rouses : Rouses d e
  zones : ∀ z : Fin 2, zoneCore e.zones[z] = dueZone (zoneCore d.zones[z])
  claims : ∀ z : Fin 2, (dueZone d.zones[z]).state = .defrost → d.zones[z].state ≠ .defrost → heaterClaim z ∈ entries e
  first : ∀ job rest, d.table.fitChecks = job :: rest → e.drive.active.map (·.job) = some job

theorem dueZone_state {a b : Zone} (h : zoneCore a = zoneCore b) :
    a.state = b.state ∧ (dueZone a).state = (dueZone b).state := by
  have due : zoneCore (dueZone a) = zoneCore (dueZone b) := by rw [dueZone_core, dueZone_core, h]
  exact ⟨(congrArg Zone.state h :), (congrArg Zone.state due :)⟩

theorem beginWarm_begins {d : Device} (idle : d.drive.active = none) (listed : d.drive.jobs = d.table.fitChecks)
    (warm : ∀ c ∈ entries d, warmClaim c) (still : ∀ z : Fin 2, d.zones[z].state ≠ .calling) : Begins d d.beginWarm := by
  have takes := takeFrom_takesCheck d.queue idle listed warm
  generalize ha : d.takeFrom d.queue = a at takes
  have zero := checkDue_checksDue (z := 0) (d := a)
    (by rw [(dueZone_state (takes.zones 0)).1]; exact still 0) (takes.rouses.warm warm)
  generalize hb : a.checkDue 0 = b at zero
  have other : zoneCore b.zones[(1 : Fin 2)] = zoneCore d.zones[(1 : Fin 2)] :=
    ((zero.zones 1).trans (if_neg (by decide))).trans (takes.zones 1)
  have one := checkDue_checksDue (z := 1) (d := b)
    (by rw [(dueZone_state other).1]; exact still 1) (zero.rouses.warm (takes.rouses.warm warm))
  have whole : d.beginWarm = b.checkDue 1 := by rw [← hb, ← ha]; rfl
  rw [whole]
  refine ⟨(takes.rouses.trans zero.rouses).trans one.rouses, ?_, ?_, fun job rest h => ?_⟩
  · refine Fin.forall_fin_two.2 ⟨?_, ?_⟩
    · rw [one.zones, if_neg (by decide), zero.zones, if_pos rfl, takes.zones]
    · rw [one.zones, if_pos rfl, other]
  · refine Fin.forall_fin_two.2 ⟨fun due was => ?_, fun due was => ?_⟩
    · obtain ⟨state, after⟩ := dueZone_state (takes.zones 0)
      exact one.rouses.entries _ (zero.claim (after.trans due) (by rw [state]; exact was))
    · obtain ⟨state, after⟩ := dueZone_state other
      exact one.claim (after.trans due) (by rw [state]; exact was)
  · exact one.rouses.job _ (zero.rouses.job _ (takes.first job rest h))

end Sys2Proof.Proofs
end

section
/-! SUPPORT. A warm reset's values, and what the RESET pin holds back. -/
namespace Sys2Proof.Proofs

open Sys2Proof.Machine Sys2Proof.Laws

-- One proof at a time: together they wait for the kernel in a thread each, and the memory limit is met.
set_option Elab.async false

/-! ### The warm reset's values, block by block -/

theorem warmDrive_frame (d : Device) : d.changesOnly [.table, .drive, .scanner] d.warmDrive := (warmDrive_spec d).2.2

/-- R45: the records of the drive. -/
theorem warmDrive_drive (d : Device) : d.warmDrive.drive =
    { d.drive with energized := none, rows := 0, cols := 0, camConfirmed := none, camTimer := none, jobs := []
                   active := none, strayCount := 0 } := by
  unfold Device.warmDrive
  split
  · rfl
  next n _ =>
    dsimp only
    rw [(stopMotors_spec n d).1]

/-- R45: the energized lane with its cam confirmed open is off-home. -/
theorem warmDrive_lane (d : Device) (n : Fin 64) : d.warmDrive.lane? n = (d.lane? n).map fun l =>
    { l with offHome := l.offHome || (d.drive.energized = some n && d.drive.camConfirmed = some .opened) } := by
  unfold Device.warmDrive
  split
  next off =>
    rw [off]
    simp only [reduceCtorEq, decide_false, Bool.false_and, Bool.or_false]
    exact Option.map_id'.symm
  next m on =>
    refine (stopMotors_lane m n d).trans ?_
    by_cases e : n = m
    · rw [if_pos e, e, on]
      simp only [decide_true, Bool.true_and]
      rfl
    · have other : (some m = some n) = False := eq_false fun h => e (Option.some.inj h).symm
      rw [if_neg e, on]
      simp only [other, decide_false, Bool.false_and, Bool.or_false]
      exact Option.map_id'.symm

theorem warmDrive_stamp (d : Device) : d.warmDrive.table.stampCounter = d.table.stampCounter := by
  unfold Device.warmDrive
  split
  · rfl
  · show (Device.stopMotors _ d).table.stampCounter = _
    unfold Device.stopMotors
    split
    · exact (updateLane_changed _ _ _).2
    · rfl

theorem warmDrive_scanner (d : Device) :
    d.warmDrive.scanner = { d.scanner with priorityTimer := none, priorityWaiting := 0 } := by
  unfold Device.warmDrive
  split
  · rfl
  · show (Device.stopMotors _ d).scanner = _
    unfold Device.stopMotors
    split
    · rw [updateLane_eq]
      rfl
    · rfl

section blocks
variable (d : Device)

theorem warmReset_credit : d.warmReset.credit = { d.credit with committed := 0, pending := .no } := by
  show { d.warmDrive.credit with committed := 0, pending := .no } = _
  rw [show d.warmDrive.credit = d.credit from warmDrive_frame d .credit (by simp)]

theorem warmReset_coins : d.warmReset.coins = d.coins.warm :=
  congrArg CoinAcceptance.warm (warmDrive_frame d .coins (by simp))

theorem warmReset_payout : d.warmReset.payout = d.payout.warm :=
  congrArg Payout.warm (warmDrive_frame d .payout (by simp))

theorem warmReset_now : d.warmReset.now = d.now := warmDrive_frame d .clock (by simp)

theorem warmReset_zone (z : Fin 2) : d.warmReset.zones[z] = Zone.warmReset d.now d.zones[z] := by
  have zones : d.warmDrive.zones = d.zones := warmDrive_frame d .zones (by simp)
  have now : d.warmDrive.now = d.now := warmDrive_frame d .clock (by simp)
  show (mapAll (Zone.warmReset d.warmDrive.now) d.warmDrive.zones)[z] = _
  rw [get_mapAll, zones, now]

theorem warmReset_compressor : d.warmReset.compressor = d.compressor.warm d.now := by
  have compressor : d.warmDrive.compressor = d.compressor := warmDrive_frame d .compressor (by simp)
  have now : d.warmDrive.now = d.now := warmDrive_frame d .clock (by simp)
  show d.warmDrive.compressor.warm d.warmDrive.now = _
  rw [compressor, now]

theorem warmReset_input (i : Fin 4) : d.warmReset.inputs[i] = Input.warm d.now d.inputs[i] := by
  have inputs : d.warmDrive.inputs = d.inputs := warmDrive_frame d .inputs (by simp)
  have now : d.warmDrive.now = d.now := warmDrive_frame d .clock (by simp)
  show (mapAll (Input.warm d.warmDrive.now) d.warmDrive.inputs)[i] = _
  rw [get_mapAll, inputs, now]

theorem warmReset_load :
    d.warmReset.load = { d.load with band := .normal, supply := none, grants := [], waiters := [] } := by
  show { d.warmDrive.load with band := .normal, supply := none, grants := [], waiters := [] } = _
  rw [show d.warmDrive.load = d.load from warmDrive_frame d .load (by simp)]

theorem warmReset_charge : d.warmReset.powerLossCharge = d.powerLossCharge := warmDrive_frame d .charge (by simp)

end blocks

theorem lane?_warmReset (d : Device) (n : Fin 64) : d.warmReset.lane? n = (d.lane? n).map fun l =>
    { l with reserved := 0
             offHome := l.offHome || (d.drive.energized = some n && d.drive.camConfirmed = some .opened) } := by
  rw [warmReset_lane, warmDrive_lane, Option.map_map]
  rfl

/-- R169: an input's count at a warm reset. -/
theorem inputWarm_eq (now : Nat) (r : Input) : Input.warm now r =
    { r with timer := if r.timer.isSome ∨ r.debounced = none then some (now + 50) else none } := by
  unfold Input.warm firstCount
  cases r.timer <;> cases r.debounced <;> rfl

/-! ### After the entry of a warm reset (R190, R191) -/

/-- What a warm reset leaves of a device, its zones apart. -/
structure WarmValues (d e : Device) : Prop where
  conditions : e.conditions = { latched := 2#16, mask := 0#16 }
  lanes : ∀ n, e.lane? n = (d.lane? n).map fun l =>
    { l with reserved := 0
             offHome := l.offHome || (d.drive.energized = some n && d.drive.camConfirmed = some .opened) }
  stamp : e.table.stampCounter = d.table.stampCounter
  changed : e.table.changed = Vector.replicate 64 false
  queue : e.queue = { orders := [], state := .running, unitPos := .none }
  credit : e.credit = { d.credit with committed := 0, pending := .no }
  coins : e.coins = d.coins.warm
  payout : e.payout = d.payout.warm
  compressor : e.compressor = d.compressor.warm e.now
  band : e.load.band = .normal
  loadSet : e.load.set = d.load.set
  charge : e.powerLossCharge = d.powerLossCharge
  driveSet : e.drive.set = d.drive.set
  setups : e.scanner.setups = d.scanner.setups
  period : e.scanner.period = d.scanner.period
  inputs : ∀ i : Fin 4, e.inputs[i] = Input.warm e.now d.inputs[i]
  claims : ∀ c ∈ entries e, warmClaim c

theorem Rouses.warmValues {d e : Device} (h : Rouses d.warmReset e) : WarmValues d e := by
  have now : e.now = d.now := (h.frame .clock (by simp)).trans (warmReset_now d)
  have table : e.table = d.warmReset.table := h.frame .table (by simp)
  have inputs : e.inputs = d.warmReset.inputs := h.frame .inputs (by simp)
  have scanner : d.warmReset.scanner = d.warmDrive.scanner.warm := rfl
  exact {
    conditions := h.frame .conditions (by simp)
    lanes := fun n => (lane?_of_table table n).trans (lane?_warmReset d n)
    stamp := (congrArg LaneTable.stampCounter table).trans (warmDrive_stamp d)
    changed := congrArg LaneTable.changed table
    queue := h.frame .queue (by simp)
    credit := (h.frame .credit (by simp)).trans (warmReset_credit d)
    coins := (h.frame .coins (by simp)).trans (warmReset_coins d)
    payout := (h.frame .payout (by simp)).trans (warmReset_payout d)
    compressor := by
      rw [now]
      exact (h.frame .compressor (by simp)).trans (warmReset_compressor d)
    band := h.band
    loadSet := by rw [h.loadSet, warmReset_load]
    charge := (h.frame .charge (by simp)).trans (warmReset_charge d)
    driveSet := h.set.trans (show d.warmDrive.drive.set = d.drive.set by rw [warmDrive_drive])
    setups := by rw [h.scanner, scanner, warmDrive_scanner]; rfl
    period := by rw [h.scanner, scanner, warmDrive_scanner]; rfl
    inputs := fun i => by rw [inputs, warmReset_input, now]
    claims := h.warm fun c hc => absurd hc List.not_mem_nil }

/-- R130, R143: a zone's defrost is due at a warm reset, one cut short among them. -/
abbrev defrostOwed (r : Zone) : Prop := r.defrostDue = true ∨ r.state = .defrost

/-- What a warm reset leaves of a zone, its warm start-up begun or held back. -/
structure ZoneWarm (begun : Prop) [Decidable begun] (r r' : Zone) : Prop where
  exposure : r'.exposure = r.exposure
  set : r'.set = r.set
  warm : r'.warm = r.warm
  air : r'.air = none
  alarm : r'.lastAlarm = r.lastAlarm
  state : r'.state = if r.set.enabled = false then .off else if defrostOwed r ∧ begun then .defrost else .satisfied
  held : ¬ begun → r'.defrostDue = decide (defrostOwed r) ∧ r'.sinceDefrost = r.sinceDefrost
  entered : r'.state = .defrost → r'.defrostDue = false ∧ r'.sinceDefrost = 0

section zones
variable {begun : Prop} [Decidable begun] {now : Nat} {r r' : Zone}

theorem warmReset_due (now : Nat) (r : Zone) : (Zone.warmReset now r).defrostDue = decide (defrostOwed r) := by
  show (r.defrostDue || decide (r.state = .defrost)) = _
  rw [Bool.decide_or, Bool.decide_eq_true]

theorem warmReset_state (now : Nat) (r : Zone) :
    (Zone.warmReset now r).state = if r.set.enabled = false then .off else .satisfied := by
  cases enabled : r.set.enabled <;> simp [Zone.warmReset, enabled]

theorem warmReset_still (now : Nat) (r : Zone) :
    (Zone.warmReset now r).state ≠ .calling ∧ (Zone.warmReset now r).state ≠ .defrost := by
  rw [warmReset_state]
  split <;> simp

/-- Held back, no due defrost is entered. -/
theorem zoneWarm_held (waits : ¬ begun) : ZoneWarm begun r (Zone.warmReset now r) where
  exposure := rfl
  set := rfl
  warm := rfl
  air := rfl
  alarm := rfl
  state := by rw [warmReset_state, if_neg (fun h : defrostOwed r ∧ begun => waits h.2)]
  held _ := ⟨warmReset_due now r, rfl⟩
  entered h := absurd h (warmReset_still now r).2

/-- The zone once warm start-up has begun. -/
theorem zoneWarm_begun (begins : begun) (h : zoneCore r' = dueZone (zoneCore (Zone.warmReset now r))) :
    ZoneWarm begun r r' := by
  rw [← dueZone_core] at h
  by_cases enters : r.set.enabled = true ∧ defrostOwed r
  · obtain ⟨enabled, owed⟩ := enters
    have satisfied : (Zone.warmReset now r).state = .satisfied := by rw [warmReset_state, enabled]; rfl
    have due : dueZone (Zone.warmReset now r) = { Zone.warmReset now r with
        state := .defrost, sinceDefrost := 0, sinceTimer := none, defrostDue := false } :=
      if_pos (by rw [warmReset_due, satisfied, decide_eq_true owed]; rfl)
    rw [due] at h
    refine ⟨(congrArg Zone.exposure h :), (congrArg Zone.set h :), (congrArg Zone.warm h :), (congrArg Zone.air h :),
      (congrArg Zone.lastAlarm h :), ?_, fun waits => absurd begins waits,
      fun _ => ⟨(congrArg Zone.defrostDue h :), (congrArg Zone.sinceDefrost h :)⟩⟩
    rw [if_neg (by simp [enabled]), if_pos ⟨owed, begins⟩]
    exact (congrArg Zone.state h :)
  · have due : dueZone (Zone.warmReset now r) = Zone.warmReset now r := if_neg fun fires => by
      rw [warmReset_due, warmReset_state, Bool.and_eq_true, decide_eq_true_eq] at fires
      refine enters ⟨?_, fires.1⟩
      cases enabled : r.set.enabled with
      | true => rfl
      | false => exact absurd fires.2 (by simp [enabled])
    rw [due] at h
    have state : r'.state = (Zone.warmReset now r).state := (congrArg Zone.state h :)
    refine ⟨(congrArg Zone.exposure h :), (congrArg Zone.set h :), (congrArg Zone.warm h :), (congrArg Zone.air h :),
      (congrArg Zone.lastAlarm h :), ?_, fun waits => absurd begins waits, fun defrost => ?_⟩
    · rw [state, warmReset_state]
      by_cases off : r.set.enabled = false
      · rw [if_pos off, if_pos off]
      · rw [if_neg off, if_neg off, if_neg fun h => enters ⟨by simpa using off, h.1⟩]
    · exact absurd (state.symm.trans defrost) (warmReset_still now r).2

end zones

/-- Warm start-up begun right after the reset's values are taken. -/
theorem beginWarm_warmReset (d : Device) : Begins d.warmReset d.warmReset.beginWarm :=
  beginWarm_begins (by show d.warmDrive.drive.active = none; rw [warmDrive_drive]) rfl
    (fun c hc => absurd hc List.not_mem_nil) fun z => by rw [warmReset_zone]; exact (warmReset_still _ _).1

/-- The zones once warm start-up has begun, each claim of a heater made with the entry of its defrost. -/
theorem beginWarm_zone {begun : Prop} [Decidable begun] (begins : begun) (d : Device) (z : Fin 2) :
    ZoneWarm begun d.zones[z] d.warmReset.beginWarm.zones[z] ∧
      (d.warmReset.beginWarm.zones[z].state = .defrost → heaterClaim z ∈ entries d.warmReset.beginWarm) := by
  have starts := beginWarm_warmReset d
  have core := starts.zones z
  refine ⟨zoneWarm_begun (now := d.now) begins (by rw [core, warmReset_zone]), fun defrost => starts.claims z ?_ ?_⟩
  · rw [← dueZone_core] at core
    exact (congrArg Zone.state core).symm.trans defrost
  · rw [warmReset_zone]
    exact (warmReset_still _ _).2

/-! ### The RESET pin and RESTART -/

/-- A warm reset entered: by the pin it is held, 100 ms after RESTART its start-up begins. -/
theorem exec_warmReset {s : State} {i : Instr}
    (h : (i = .resetPin ∧ s.awake) ∨ (i = .restartTimeout ∧ s.port.restartTimer.isSome = true)) :
    (i = .resetPin ∧ exec i s = .next { s with dev := s.dev.warmReset
                                               port := s.port.warm s.dev.now .resetPin .heldInReset }) ∨
    (i = .restartTimeout ∧ ∃ due, exec i s = .next { s with dev := (s.dev.reach due).warmReset.beginWarm
                                                            port := s.port.warm (s.dev.reach due).now .restart .warmStartup }) := by
  rcases h with ⟨rfl, awake⟩ | ⟨rfl, runs⟩
  · refine Or.inl ⟨rfl, congrArg Host.Outcome.next (if_neg ?_)⟩
    exact fun held => (held_iff s).1 held awake
  · obtain ⟨due, hd⟩ := Option.isSome_iff_exists.1 runs
    refine Or.inr ⟨rfl, due, ?_⟩
    show Host.Outcome.next s.restartTimeout = _
    simp only [State.restartTimeout, hd]
    rfl

theorem next_event_held {s : State} (held : ¬ s.awake) (f : Device → Device) :
    (Host.Outcome.next (s.event f) : Result) = .next s := congrArg _ (event_held held f)

/-- R190: what the held RESET pin keeps from acting. -/
theorem exec_held {s : State} {i : Instr} (held : ¬ s.awake) (save : s.port.save = none)
    (timer : s.port.restartTimer = none) (request : ¬ isRequest i) (power : i ≠ .powerOn) (release : i ≠ .resetRelease)
    (fetch : ∀ n, i ≠ .fetchReply n) (discard : ∀ b, i ≠ .requestDiscarded b) (cam : ∀ l, i ≠ .camLineEdge l)
    (input : ∀ k l, i ≠ .inputLineEdge k l) (confirm : ∀ l, i ≠ .confirmLineEdge l) (fan : i ≠ .fanRunonTimer) :
    exec i s = .next s := by
  have pin : s.port.held = true := (held_iff s).2 held
  cases i with
  | powerOn => exact absurd rfl power
  | resetRelease => exact absurd rfl release
  | fetchReply n => exact absurd rfl (fetch n)
  | requestDiscarded b => exact absurd rfl (discard b)
  | camLineEdge l => exact absurd rfl (cam l)
  | inputLineEdge k l => exact absurd rfl (input k l)
  | confirmLineEdge l => exact absurd rfl (confirm l)
  | fanRunonTimer => exact absurd rfl fan
  | resetPin => exact congrArg Host.Outcome.next (if_pos pin)
  | restartTimeout =>
    show Host.Outcome.next s.restartTimeout = _
    simp only [State.restartTimeout, timer]
  | startupEnd b =>
    have phase : s.port.phase = .heldInReset := Classical.not_not.1 held
    show Host.Outcome.next (s.startupEnd b) = _
    simp only [State.startupEnd, phase]
  | secondTick =>
    show Host.Outcome.next s.secondTick = _
    simp only [State.secondTick, pin, if_true]
  | savePageWritten b =>
    show Host.Outcome.next (s.pageWritten b) = _
    simp only [State.pageWritten, save]
  | saveRetryTimer =>
    show Host.Outcome.next s.saveRetry = _
    simp only [State.saveRetry, save]
  | badFrame b => exact absurd (Or.inr (Or.inl ⟨b, rfl⟩)) request
  | unknownRequest b => exact absurd (Or.inr (Or.inr ⟨b, rfl⟩)) request
  | camConfirm | departureTimeout | turnTimerExpiry | beamBreak | dropWindowExpiry | fitPulseEnd | linkSlot
  | identifyTimer | linkFrame | linkReplyTimeout | coinTimeout | pulseOnEnd | pulseGapEnd | chuteWindowClose | chuteCount
  | sinceDefrostTimer | defrostTimer | dripTimer | zoneMinuteTimer | restTimer | startTimer | confirmChange | runTimer
  | periodTimer | priorityTimer | conversionEnd | inputChange | linkFirstByte => exact next_event_held held _
  | _ => exact absurd (Or.inl rfl) request

end Sys2Proof.Proofs
end

section
/-! SUPPORT. The entry of a warm reset, the release of the RESET pin, and what the pin holds back meanwhile. -/
namespace Sys2Proof.Proofs

open Sys2Proof.Machine Sys2Proof.Laws

-- One proof at a time: together they wait for the kernel in a thread each, and the memory limit is met.
set_option Elab.async false

theorem Rouses.warmValues_reach {d e : Device} {due : Nat} (h : Rouses (d.reach due).warmReset e) : WarmValues d e :=
  { h.warmValues with }

/-- The state after the entry of a warm reset. -/
structure WarmEntry (i : Instr) (s t : State) : Prop where
  port : ∃ now, t.port = s.port.warm now (if i = .resetPin then .resetPin else .restart)
    (if i = .resetPin then .heldInReset else .warmStartup)
  mem : t.mem = s.mem
  values : WarmValues s.dev t.dev
  zones : ∀ z : Fin 2, ZoneWarm (i ≠ .resetPin) s.dev.zones[z] t.dev.zones[z]
  claims : ∀ z : Fin 2, t.dev.zones[z].state = .defrost → heaterClaim z ∈ entries t.dev
  held : i = .resetPin → t.dev.now = s.dev.now ∧ t.dev.drive.active = none ∧ t.dev.drive.energized = none ∧
    t.dev.load.grants = [] ∧ t.dev.load.waiters = []

theorem warmEntry {s : State} {i : Instr}
    (h : (i = .resetPin ∧ s.awake) ∨ (i = .restartTimeout ∧ s.port.restartTimer.isSome = true)) :
    ∃ t, exec i s = .next t ∧ WarmEntry i s t := by
  rcases exec_warmReset h with ⟨rfl, step⟩ | ⟨rfl, due, step⟩
  · refine ⟨_, step, ⟨_, rfl⟩, rfl, (Rouses.refl _).warmValues, fun z => ?_, fun z defrost => ?_, fun _ => ?_⟩
    · rw [warmReset_zone]
      exact zoneWarm_held (fun h => h rfl)
    · rw [warmReset_zone] at defrost
      exact absurd defrost (warmReset_still _ _).2
    · have drive := warmDrive_drive s.dev
      exact ⟨warmReset_now s.dev, (congrArg Drive.active drive :), (congrArg Drive.energized drive :), rfl, rfl⟩
  · have begins : Instr.restartTimeout ≠ .resetPin := by simp
    exact ⟨_, step, ⟨_, rfl⟩, rfl, (beginWarm_warmReset (s.dev.reach due)).rouses.warmValues_reach,
      fun z => (beginWarm_zone begins (s.dev.reach due) z).1, fun z => (beginWarm_zone begins (s.dev.reach due) z).2,
      fun h => absurd h begins⟩

/-- R190: the release of the pin begins warm start-up. -/
theorem exec_release {s : State} (held : ¬ s.awake) : exec .resetRelease s =
    .next { s with dev := s.dev.warmReset.beginWarm, port := s.port.warm s.dev.now .resetPin .warmStartup } :=
  congrArg Host.Outcome.next (if_pos ((held_iff s).2 held))

theorem release_first {d : Device} {n : Fin 64} (low : ∀ m : Fin 64, m < n → ∀ l, d.lane? m = some l → l.base ≠ .checking)
    (checking : ∃ l, d.lane? n = some l ∧ l.base = .checking) :
    d.warmReset.beginWarm.drive.active.map (·.job) = some (.fitCheck n) := by
  have kept {m : Fin 64} {l : Lane} (h : d.warmReset.lane? m = some l) : ∃ k, d.lane? m = some k ∧ l.base = k.base := by
    rw [lane?_warmReset] at h
    obtain ⟨k, hk, rfl⟩ := Option.map_eq_some_iff.1 h
    exact ⟨k, hk, rfl⟩
  obtain ⟨l, hl, base⟩ := checking
  obtain ⟨rest, hr⟩ := fitChecks_head (d := d.warmReset) (n := n)
    (fun m hm k hk => by
      obtain ⟨k', hk', same⟩ := kept hk
      rw [same]
      exact low m hm k' hk')
    ⟨_, (lane?_warmReset d n).trans (congrArg (Option.map _) hl), base⟩
  exact (beginWarm_warmReset d).first _ rest hr

theorem release_zone {d : Device} {z : Fin 2} (enabled : d.zones[z].set.enabled = true)
    (due : d.zones[z].defrostDue = true) : d.warmReset.beginWarm.zones[z].state = .defrost ∧
      heaterClaim z ∈ entries d.warmReset.beginWarm := by
  obtain ⟨zone, claim⟩ := beginWarm_zone (begun := True) trivial d z
  have state : d.warmReset.beginWarm.zones[z].state = .defrost := by
    rw [zone.state, if_neg fun off => absurd (enabled.symm.trans off) (by simp), if_pos ⟨Or.inl due, trivial⟩]
  exact ⟨state, claim state⟩

theorem compressorWarm_fan (now : Nat) (c : Compressor) : (c.warm now).fanTimer =
    if c.state = .starting ∨ c.state = .running then some (now + 60000) else c.fanTimer := by
  show (if c.relay then _ else _) = _
  unfold Compressor.relay
  cases c.state <;> rfl

end Sys2Proof.Proofs
end

section
/-! SUPPORT. A power-on's values: the lanes, the zones' charge and spoil check, the first fit check, the scanner's start. -/
namespace Sys2Proof.Proofs

open Sys2Proof.Machine Sys2Proof.Laws

-- One proof at a time: together they wait for the kernel in a thread each, and the memory limit is met.
set_option Elab.async false

/-! ### The spoil check (R138) -/

theorem has_raise_other {c k : Condition} (h : c ≠ k) (s : Conditions) : (s.raise k).has c = s.has c := by
  have other : (Condition.only k).getLsbD c.bit = false := by
    cases c <;> cases k <;> first | rfl | exact absurd rfl h
  simp only [Conditions.has, Conditions.raise, BitVec.getLsbD_or, other, Bool.or_false]

theorem changeLane_imageFault (n : Fin 64) (f : Lane → Lane) (d : Device) :
    (d.changeLane n f).conditions.has .imageFault = d.conditions.has .imageFault := by
  unfold Device.changeLane Device.joinChanged
  split
  · rfl
  · split
    · rfl
    · exact has_raise_other (by simp) _

theorem changeLane_stamp (n : Fin 64) (f : Lane → Lane) (d : Device) :
    (d.changeLane n f).table.stampCounter = d.table.stampCounter := by
  unfold Device.changeLane Device.joinChanged
  split
  · rfl
  · split <;> rfl

/-- R138: a lane at its zone's spoil check. -/
def spoiledLane (z : Fin 2) (r : Zone) (l : Lane) : Lane :=
  { l with spoiled := l.spoiled || (l.zone = z && (l.laneClass = .perishable && r.set.allowance ≤ r.exposure - l.baseline)) }

/-- What a spoil check changes: the lanes it marks, the changed-lanes set and LANE_CHANGED. -/
structure SpoilMarks (z : Fin 2) (xs : List (Fin 64)) (d e : Device) : Prop where
  frame : d.changesOnly [.conditions, .table] e
  lanes : ∀ n, e.lane? n = if n ∈ xs then (d.lane? n).map (spoiledLane z d.zones[z]) else d.lane? n
  stamp : e.table.stampCounter = d.table.stampCounter
  fault : e.conditions.has .imageFault = d.conditions.has .imageFault

theorem spoils_eq {z : Fin 2} {r : Zone} {l : Lane} (h : (l.zone = z && r.spoils l) = true) :
    spoiledLane z r l = { l with spoiled := true } := by
  simp only [Zone.spoils, Bool.and_eq_true, decide_eq_true_eq] at h
  obtain ⟨zone, ⟨perishable, -⟩, reached⟩ := h
  rw [spoiledLane, decide_eq_true zone, decide_eq_true perishable, decide_eq_true reached, Bool.and_true, Bool.and_true,
    Bool.or_true]

theorem not_spoils_eq {z : Fin 2} {r : Zone} {l : Lane} (h : ¬ (l.zone = z && r.spoils l) = true) :
    spoiledLane z r l = l := by
  have same : (l.spoiled || (l.zone = z && (l.laneClass = .perishable && r.set.allowance ≤ r.exposure - l.baseline))) =
      l.spoiled := by
    simp only [Zone.spoils] at h
    cases spoiled : l.spoiled with
    | true => rfl
    | false =>
      rw [spoiled] at h
      simp only [Bool.false_or]
      simpa using h
  rw [spoiledLane, same]

theorem spoilLane_marks (z : Fin 2) (n : Fin 64) (d : Device) : SpoilMarks z [n] d (d.spoilLane z n) := by
  have unmarked (h : (d.lane? n).map (spoiledLane z d.zones[z]) = d.lane? n) : SpoilMarks z [n] d d := by
    refine ⟨changesOnly_refl _ d, fun m => ?_, rfl, rfl⟩
    split
    next e => rw [List.mem_singleton.1 e, h]
    · rfl
  unfold Device.spoilLane
  split
  next vacant => exact unmarked (by rw [vacant]; rfl)
  next l hl =>
    split
    next spoils =>
      refine ⟨changeLane_frame n _ d, fun m => ?_, changeLane_stamp n _ d, changeLane_imageFault n _ d⟩
      rw [lane?_changeLane]
      simp only [List.mem_singleton]
      split
      next e =>
        rw [e, hl, Option.map_some, Option.map_some, spoils_eq spoils]
      · rfl
    next stays => exact unmarked (by rw [hl, Option.map_some, not_spoils_eq stays])

theorem spoiledLane_twice (z : Fin 2) (r : Zone) (l : Lane) : spoiledLane z r (spoiledLane z r l) = spoiledLane z r l := by
  by_cases h : (l.zone = z && r.spoils l) = true
  · rw [spoils_eq h]
    rfl
  · rw [not_spoils_eq h, not_spoils_eq h]

theorem SpoilMarks.cons {z : Fin 2} {n : Fin 64} {xs : List (Fin 64)} {a b c : Device} (h : SpoilMarks z [n] a b)
    (k : SpoilMarks z xs b c) : SpoilMarks z (n :: xs) a c := by
  have zones : b.zones = a.zones := h.frame .zones (by simp)
  refine ⟨changesOnly_trans h.frame k.frame, fun m => ?_, k.stamp.trans h.stamp, k.fault.trans h.fault⟩
  have here := h.lanes m
  simp only [List.mem_singleton] at here
  rw [k.lanes, here, zones]
  by_cases e : m = n
  · have mem : m ∈ n :: xs := by rw [e]; exact List.mem_cons_self
    have twice : spoiledLane z a.zones[z] ∘ spoiledLane z a.zones[z] = spoiledLane z a.zones[z] :=
      funext (spoiledLane_twice z _)
    rw [if_pos e, if_pos mem, Option.map_map, twice, ite_self]
  · simp only [e, if_false, List.mem_cons, false_or]

theorem spoilFold_marks (z : Fin 2) (xs : List (Fin 64)) :
    ∀ d : Device, SpoilMarks z xs d (xs.foldl (Device.spoilLane z) d) := by
  induction xs with
  | nil => exact fun d => ⟨changesOnly_refl _ d, fun n => (if_neg List.not_mem_nil).symm, rfl, rfl⟩
  | cons n xs ih => exact fun d => (spoilLane_marks z n d).cons (ih _)

theorem spoilCheck_marks (z : Fin 2) (d : Device) : SpoilMarks z allLanes d (d.spoilCheck z) := spoilFold_marks z allLanes d

/-! ### A zone at power-on (R142) -/

/-- R142: a zone's exposure takes the charge when the image was loaded. -/
def charged (loaded : Bool) (charge : Nat) (r : Zone) : Zone :=
  if loaded then { r with exposure := satAdd 65535 r.exposure charge } else r

/-- What a zone's power-on changes. -/
structure ZoneStarts (loaded : Bool) (z : Fin 2) (d e : Device) : Prop where
  frame : d.changesOnly [.conditions, .table, .zones] e
  zones : ∀ y : Fin 2, e.zones[y] =
    if y = z then Zone.atPowerOn d.now (charged loaded d.powerLossCharge d.zones[z]) else d.zones[y]
  lanes : ∀ n, e.lane? n =
    if loaded then (d.lane? n).map (spoiledLane z (charged loaded d.powerLossCharge d.zones[z])) else d.lane? n
  stamp : e.table.stampCounter = d.table.stampCounter
  fault : e.conditions.has .imageFault = d.conditions.has .imageFault

theorem updateZone_frame (z : Fin 2) (f : Zone → Zone) (d : Device) : d.changesOnly [.zones] (d.updateZone z f) :=
  fun p hp => by cases p <;> first | rfl | simp at hp

theorem zonePowerOn_starts (loaded : Bool) (z : Fin 2) (d : Device) : ZoneStarts loaded z d (d.zonePowerOn loaded z) := by
  cases loaded with
  | false =>
    refine ⟨changesOnly_mono (updateZone_frame z _ d) (by simp), fun y => ?_, fun n => rfl, rfl, rfl⟩
    exact get_put ..
  | true =>
    let b := d.updateZone z fun r => { r with exposure := satAdd 65535 r.exposure d.powerLossCharge }
    have marks := spoilCheck_marks z b
    have whole : d.zonePowerOn true z = (b.spoilCheck z).updateZone z (Zone.atPowerOn (b.spoilCheck z).now) := rfl
    rw [whole]
    generalize b.spoilCheck z = c at marks
    obtain ⟨frame, lanes, stamp, fault⟩ := marks
    have at_ : b.zones[z] = charged true d.powerLossCharge d.zones[z] := by
      show (d.updateZone z _).zones[z] = _
      rw [updateZone_zones, get_put, if_pos rfl, charged, if_pos rfl]
    have zones : c.zones = b.zones := frame .zones (by simp)
    have now : c.now = d.now := frame .clock (by simp)
    refine ⟨?_, fun y => ?_, fun n => ?_, stamp, fault⟩
    · refine changesOnly_trans (b := b) (changesOnly_mono (updateZone_frame z _ d) (by simp)) ?_
      exact changesOnly_trans (changesOnly_mono frame (by simp)) (changesOnly_mono (updateZone_frame z _ _) (by simp))
    · rw [updateZone_zones, get_put, now, zones, at_]
      split
      · rfl
      next other =>
        show (d.updateZone z _).zones[y] = _
        rw [updateZone_zones, get_put, if_neg other]
    · refine (lanes n).trans ?_
      rw [if_pos (mem_allLanes n), at_]
      rfl

end Sys2Proof.Proofs
end

section
/-! SUPPORT. The end of a power-on start-up (R187): what the blocks' rules make of the defaults or the saved fields. -/
namespace Sys2Proof.Proofs

open Sys2Proof.Machine Sys2Proof.Laws

-- One proof at a time: together they wait for the kernel in a thread each, and the memory limit is met.
set_option Elab.async false

/-! ### Before the first fit check is taken -/

/-- What the rules change before the fit checks are taken. -/
structure PowersOn (loaded : Bool) (d m : Device) : Prop where
  frame : d.changesOnly [.conditions, .table, .drive, .zones, .compressor, .inputs] m
  driveSet : m.drive.set = d.drive.set
  compressor : m.compressor = Compressor.atPowerOn d.now d.compressor
  inputs : ∀ i : Fin 4, m.inputs[i] = Input.atPowerOn d.now d.inputs[i]
  zones : ∀ z : Fin 2, m.zones[z] = Zone.atPowerOn d.now (charged loaded d.powerLossCharge d.zones[z])
  lanes : ∀ n, m.lane? n = (d.lane? n).map fun l =>
    if loaded then spoiledLane 1 (charged loaded d.powerLossCharge d.zones[(1 : Fin 2)])
      (spoiledLane 0 (charged loaded d.powerLossCharge d.zones[(0 : Fin 2)]) l.atPowerOn)
    else l.atPowerOn
  stamp : m.table.stampCounter = d.table.stampCounter
  fault : m.conditions.has .imageFault = d.conditions.has .imageFault

theorem beforeTaking_powersOn (loaded : Bool) (d : Device) : PowersOn loaded d (beforeTaking loaded d) := by
  have zero := zonePowerOn_starts loaded 0 (lanesPowerOn d)
  generalize hb : (lanesPowerOn d).zonePowerOn loaded 0 = b at zero
  have one := zonePowerOn_starts loaded 1 b
  have whole : beforeTaking loaded d = listPowerOn (b.zonePowerOn loaded 1) := by rw [← hb]; rfl
  generalize b.zonePowerOn loaded 1 = c at one whole
  rw [whole]
  have now : c.now = d.now := (one.frame .clock (by simp)).trans (zero.frame .clock (by simp))
  have charge : b.powerLossCharge = d.powerLossCharge := zero.frame .charge (by simp)
  have drive : c.drive = d.drive := (one.frame .drive (by simp)).trans (zero.frame .drive (by simp))
  have compressor : c.compressor = d.compressor := (one.frame .compressor (by simp)).trans (zero.frame .compressor (by simp))
  have inputs : c.inputs = d.inputs := (one.frame .inputs (by simp)).trans (zero.frame .inputs (by simp))
  have other : b.zones[(1 : Fin 2)] = d.zones[(1 : Fin 2)] := (zero.zones 1).trans (if_neg (by decide))
  have lanes (n : Fin 64) : (lanesPowerOn d).lane? n = (d.lane? n).map Lane.atPowerOn := get_mapAll ..
  refine ⟨?_, (congrArg Drive.set drive :), ?_, fun i => ?_, Fin.forall_fin_two.2 ⟨?_, ?_⟩, fun n => ?_,
    one.stamp.trans zero.stamp, one.fault.trans zero.fault⟩
  · have first : d.changesOnly [.conditions, .table, .drive, .zones, .compressor, .inputs] (lanesPowerOn d) :=
      fun p hp => by cases p <;> first | rfl | simp at hp
    refine changesOnly_trans (changesOnly_trans first (changesOnly_mono zero.frame (by simp))) ?_
    refine changesOnly_trans (changesOnly_mono one.frame (by simp)) ?_
    exact fun p hp => by cases p <;> first | rfl | simp at hp
  · show Compressor.atPowerOn c.now c.compressor = _
    rw [now, compressor]
  · show (mapAll (Input.atPowerOn c.now) c.inputs)[i] = _
    rw [get_mapAll, now, inputs]
  · exact (one.zones 0).trans ((if_neg (by decide)).trans ((zero.zones 0).trans (if_pos rfl)))
  · refine (one.zones 1).trans ((if_pos rfl).trans ?_)
    rw [other, charge, show b.now = d.now from zero.frame .clock (by simp)]
  · refine (one.lanes n).trans ?_
    rw [zero.lanes, lanes, other, charge]
    cases loaded with
    | false => rfl
    | true =>
      simp only [if_true, Option.map_map]
      rfl

/-! ### The scanner's start (R166) -/

theorem startNext_setups (now : Nat) (s : Scanner) :
    (s.startNext now).setups = s.setups ∧ (s.startNext now).period = s.period := by
  unfold Scanner.startNext
  split
  · exact ⟨rfl, rfl⟩
  split
  · exact ⟨rfl, rfl⟩
  split
  · exact ⟨rfl, rfl⟩
  split
  · exact ⟨rfl, rfl⟩
  · exact ⟨rfl, rfl⟩

/-- A converter at rest with no pass. -/
structure Resting (s : Scanner) : Prop where
  converting : s.converting = none
  waiting : s.priorityWaiting = 0
  pass : s.pass = none

theorem askPass_resting {now : Nat} {s : Scanner} (h : Resting s) : (s.askPass now).pass = some 0 := by
  obtain ⟨converting, waiting, pass⟩ := h
  simp only [Scanner.askPass, Scanner.startNext, converting, waiting, pass, Option.isSome_none, Bool.false_eq_true, if_false,
    Nat.lt_irrefl, if_true]
  rfl

/-! ### The rules' whole effect -/

/-- What R187's rules make of a device at its power-on values. -/
structure Started (loaded : Bool) (d t : Device) : Prop where
  queue : t.queue = d.queue
  credit : t.credit = d.credit
  stamp : t.table.stampCounter = d.table.stampCounter
  driveSet : t.drive.set = d.drive.set
  payout : t.payout = d.payout
  poll : t.coins.pollPeriod = d.coins.pollPeriod
  classes : t.coins.classes = d.coins.classes
  cashbox : t.coins.cashbox = d.coins.cashbox
  identify : t.coins.exchange.map (·.message) = some .identify
  loadSet : t.load.set = d.load.set
  charge : t.powerLossCharge = d.powerLossCharge
  compressor : t.compressor = Compressor.atPowerOn t.now d.compressor
  setups : t.scanner.setups = d.scanner.setups
  period : t.scanner.period = d.scanner.period
  pass : t.scanner.pass = some 0
  references : ∀ i : Fin 4, t.inputs[i].reference = d.inputs[i].reference
  zones : ∀ z : Fin 2, zoneCore t.zones[z] =
    zoneCore (Zone.atPowerOn d.now (charged loaded d.powerLossCharge d.zones[z]))
  lanes : ∀ n, t.lane? n = (d.lane? n).map fun l =>
    if loaded then spoiledLane 1 (charged loaded d.powerLossCharge d.zones[(1 : Fin 2)])
      (spoiledLane 0 (charged loaded d.powerLossCharge d.zones[(0 : Fin 2)]) l.atPowerOn)
    else l.atPowerOn
  fault : t.conditions.has .imageFault = d.conditions.has .imageFault
  grants : (∀ n, d.lane? n = none) → t.load.grants = []

section started
variable {loaded : Bool} {d t : Device} (h : Started loaded d t)
include h

theorem Started.restTimer : t.compressor.restTimer = some (t.now + 1000 * t.compressor.set.minRest) := by
  rw [h.compressor]
  rfl

theorem Started.compressorSet : t.compressor.set = d.compressor.set := by
  rw [h.compressor]
  rfl

theorem Started.zone (z : Fin 2) : t.zones[z].set = d.zones[z].set ∧
    t.zones[z].state = (if d.zones[z].set.enabled then .satisfied else .off) ∧
    t.zones[z].exposure = (charged loaded d.powerLossCharge d.zones[z]).exposure := by
  have core := h.zones z
  have set : (charged loaded d.powerLossCharge d.zones[z]).set = d.zones[z].set := by cases loaded <;> rfl
  have state : t.zones[z].state =
      if (charged loaded d.powerLossCharge d.zones[z]).set.enabled then .satisfied else .off :=
    (congrArg Zone.state core :)
  exact ⟨(congrArg Zone.set core).trans set, by rw [state, set], (congrArg Zone.exposure core :)⟩

theorem Started.vacant (none : ∀ n, d.lane? n = .none) (n : Fin 64) : t.lane? n = .none := by
  rw [h.lanes, none]
  rfl

end started

theorem powerOnRules_started {loaded : Bool} {d : Device} (fresh : Fresh d) (rests : Resting d.scanner) :
    Started loaded d (d.powerOnRules loaded) := by
  have powers := beforeTaking_powersOn loaded d
  have stays := beforeTaking_fresh loaded fresh
  have listed : (beforeTaking loaded d).drive.jobs = (beforeTaking loaded d).table.fitChecks := rfl
  rw [powerOnRules_eq]
  generalize beforeTaking loaded d = m at powers stays listed
  have none_ : entries m = [] := by rw [entries, stays.grants, stays.waiters]; rfl
  have takes := takeFrom_takesCheck m.queue stays.active listed fun c hc => by rw [none_] at hc; cases hc
  generalize m.takeFrom m.queue = e at takes
  have kept := takes.rouses.frame
  have now : e.now = d.now := (kept .clock (by simp)).trans (powers.frame .clock (by simp))
  have coins : e.coins = d.coins := (kept .coins (by simp)).trans (powers.frame .coins (by simp))
  have table : e.table = m.table := kept .table (by simp)
  have inputs : e.inputs = m.inputs := kept .inputs (by simp)
  have load : m.load = d.load := powers.frame .load (by simp)
  have scanner : e.scanner = { d.scanner with priorityTimer := e.scanner.priorityTimer } := by
    have same : m.scanner = d.scanner := powers.frame .scanner (by simp)
    rw [← same]
    exact takes.rouses.scanner
  have started : ((e.startScanning).send .identify).scanner =
      Scanner.askPass e.now { e.scanner with periodTimer := some (e.now + e.scanner.period) } := rfl
  have setups := startNext_setups e.now
    { e.scanner with periodTimer := some (e.now + e.scanner.period), passPending := true }
  exact {
    queue := (kept .queue (by simp)).trans (powers.frame .queue (by simp))
    credit := (kept .credit (by simp)).trans (powers.frame .credit (by simp))
    stamp := (congrArg LaneTable.stampCounter table).trans powers.stamp
    driveSet := takes.rouses.set.trans powers.driveSet
    payout := (kept .payout (by simp)).trans (powers.frame .payout (by simp))
    poll := (congrArg CoinAcceptance.pollPeriod coins :)
    classes := (congrArg CoinAcceptance.classes coins :)
    cashbox := (congrArg CoinAcceptance.cashbox coins :)
    identify := rfl
    loadSet := takes.rouses.loadSet.trans (congrArg LoadBudget.set load)
    charge := (kept .charge (by simp)).trans (powers.frame .charge (by simp))
    compressor := by
      show e.compressor = Compressor.atPowerOn e.now d.compressor
      rw [now]
      exact (kept .compressor (by simp)).trans powers.compressor
    setups := by
      rw [started]
      refine setups.1.trans ?_
      rw [scanner]
    period := by
      rw [started]
      refine setups.2.trans ?_
      rw [scanner]
    pass := by
      rw [started]
      refine askPass_resting ?_
      rw [scanner]
      exact ⟨rests.converting, rests.waiting, rests.pass⟩
    references := fun i => by
      show e.inputs[i].reference = _
      rw [inputs, powers.inputs]
      rfl
    zones := fun z => (takes.zones z).trans (congrArg zoneCore (powers.zones z))
    lanes := fun n => (lane?_of_table table n).trans (powers.lanes n)
    fault := (congrArg (Conditions.has .imageFault) (kept .conditions (by simp))).trans powers.fault
    grants := fun vacant => by
      have empty : m.table.fitChecks = [] := List.eq_nil_iff_forall_not_mem.2 fun job hj => by
        obtain ⟨n, l, -, hl, -⟩ := mem_fitChecks hj
        have there := powers.lanes n
        rw [vacant] at there
        exact absurd (hl.symm.trans there) (by simp)
      show e.load.grants = []
      rw [takes.none empty]
      exact stays.grants }

end Sys2Proof.Proofs
end

section
/-! SUPPORT. Power-on, the ends of start-up, the seconds count; and every reset together. -/
namespace Sys2Proof.Proofs

open Sys2Proof.Machine Sys2Proof.Laws

-- One proof at a time: together they wait for the kernel in a thread each, and the memory limit is met.
set_option Elab.async false

/-! ### Power-on (R181, R187) -/

theorem powerOn_input (d : Device) (i : Fin 4) :
    d.powerOn.inputs[i] = { State.reset.dev.inputs[i] with line := d.inputs[i].line } := by
  have blank : State.reset.dev.inputs[i] = Input.default := get_replicate ..
  rw [blank]
  exact get_mapAll ..

/-! ### The end of a power-on start-up (R187) -/

theorem imageFinding_eq (answers : Bool) (m : Memory) : imageFinding answers m =
    if answers = false then .defaultsAbsent
    else if (m.read 0).toNat ≠ 3 ∨ n16 (m.read 1) (m.read 2) ≠ 1908 then .defaultsFormat
    else if u16 (crc16 (m.readAll 0 1906)).toNat = m.readAll 1906 2 then .loaded
    else .defaultsCheck := by
  cases answers with
  | false => rfl
  | true =>
    have bytes : imageLength - 2 = 1906 := rfl
    simp only [imageFinding, bytes, Bool.or_eq_true, decide_eq_true_eq, Bool.not_true, Bool.false_eq_true, if_false,
      reduceCtorEq]
    rfl

/-- The saved fields do not touch the conditions, and do not rest on them. -/
theorem awoken_loadFields (s : State) (bs : List Byte) :
    (awoken s).loadFields bs = { s.dev.powerOn.loadFields bs with conditions := s.dev.conditions } := by
  unfold Device.loadFields
  dsimp only
  rfl

theorem loadFields_resting {d : Device} (bs : List Byte) (h : Resting d.scanner) : Resting (d.loadFields bs).scanner := by
  unfold Device.loadFields
  dsimp only
  exact ⟨h.converting, h.waiting, h.pass⟩

theorem loadFields_balance (d : Device) (bs : List Byte) : (d.loadFields bs).credit.balance = d.credit.balance := by
  unfold Device.loadFields
  rfl

theorem powerOn_fresh (d : Device) : Fresh d.powerOn := ⟨rfl, rfl, rfl, rfl, rfl, rfl, rfl, rfl⟩

theorem awoken_exposure (s : State) (z : Fin 2) : (awoken s).zones[z].exposure = 0 := by
  have blank : (awoken s).zones[z] = Zone.default := get_replicate ..
  rw [blank]
  rfl

/-- The rules' device at the end of a power-on start-up. -/
def startedUp (answers : Bool) (s : State) : Device :=
  ((awoken s).loadImage (imageFinding answers s.mem) s.mem).powerOnRules (imageFinding answers s.mem = .loaded)

theorem exec_startupEnd_powerOn {s : State} {answers : Bool} (phase : s.port.phase = .powerOnStartup) :
    exec (.startupEnd answers) s = .next { s with
      dev := if imageFinding answers s.mem = .loaded then (startedUp answers s).raise .poweredOn
             else ((startedUp answers s).raise .poweredOn).raise .imageFault
      port := { s.port with phase := .running, imageStatus := imageFinding answers s.mem } } := by
  show Host.Outcome.next (s.startupEnd answers) = _
  simp only [State.startupEnd, phase]
  rfl

/-- The image loaded: the rules start from the saved fields. -/
theorem startedUp_loaded {s : State} {answers : Bool} (h : imageFinding answers s.mem = .loaded) :
    Started true { s.dev.powerOn.loadFields (s.mem.readAll 3 1903) with conditions := s.dev.conditions }
      (startedUp answers s) := by
  have image : (awoken s).loadImage (imageFinding answers s.mem) s.mem = (awoken s).loadFields (s.mem.readAll 3 1903) :=
    if_pos h
  rw [startedUp, image, decide_eq_true h, ← awoken_loadFields]
  exact powerOnRules_started (loadFields_fresh _ (awoken_fresh s)) (loadFields_resting _ ⟨rfl, rfl, rfl⟩)

/-- No image: the rules start from the defaults. -/
theorem startedUp_defaults {s : State} {answers : Bool} (h : imageFinding answers s.mem ≠ .loaded) :
    Started false (awoken s) (startedUp answers s) := by
  have image : (awoken s).loadImage (imageFinding answers s.mem) s.mem = awoken s := if_neg h
  rw [startedUp, image, decide_eq_false h]
  exact powerOnRules_started (awoken_fresh s) ⟨rfl, rfl, rfl⟩

/-- R20: a lane's base state at power-on. -/
theorem atPowerOn_base (l : Lane) :
    l.atPowerOn.base = if l.base = .jammed ∨ l.base = .offline then l.base else .checking := by
  unfold Lane.atPowerOn
  cases l.base <;> rfl

/-- R20, R142: a loaded lane after both zones' spoil checks. -/
theorem loadedLane_eq {zones : Vector Zone 2} {r : Fin 2 → Zone}
    (same : ∀ z : Fin 2, zones[z].set = (r z).set ∧ zones[z].exposure = (r z).exposure) (l : Lane) :
    spoiledLane 1 (r 1) (spoiledLane 0 (r 0) l.atPowerOn) =
      { l with reserved := 0
               base := (if l.base = .jammed ∨ l.base = .offline then l.base else .checking)
               spoiled := l.spoiled || (l.laneClass = .perishable &&
                 zones[l.zone].set.allowance ≤ zones[l.zone].exposure - l.baseline) } := by
  obtain ⟨set, exposure⟩ := same l.zone
  have own (z : Fin 2) (p : Fin 2 → Bool) : ((z = 0 && p 0) || (z = 1 && p 1)) = p z := by
    revert z
    exact Fin.forall_fin_two.2 ⟨by simp, by simp⟩
  have spoiled := own l.zone fun z =>
    l.laneClass = .perishable && decide ((r z).set.allowance ≤ (r z).exposure - l.baseline)
  rw [set, exposure, ← spoiled, ← Bool.or_assoc, ← atPowerOn_base]
  rfl

/-- R187: the saved fields as the rules leave them. -/
structure SavedFields (d t : Device) : Prop where
  stamp : t.table.stampCounter = d.table.stampCounter
  driveSet : t.drive.set = d.drive.set
  payoutSet : t.payout.set = d.payout.set
  tubes : t.payout.tubes = d.payout.tubes
  poll : t.coins.pollPeriod = d.coins.pollPeriod
  classes : t.coins.classes = d.coins.classes
  cashbox : t.coins.cashbox = d.coins.cashbox
  maxCredit : t.credit.maxCredit = d.credit.maxCredit
  loadSet : t.load.set = d.load.set
  charge : t.powerLossCharge = d.powerLossCharge
  compressorSet : t.compressor.set = d.compressor.set
  setups : t.scanner.setups = d.scanner.setups
  period : t.scanner.period = d.scanner.period
  references : ∀ i : Fin 4, t.inputs[i].reference = d.inputs[i].reference
  zones : ∀ z : Fin 2, t.zones[z].set = d.zones[z].set ∧
    t.zones[z].state = (if d.zones[z].set.enabled then .satisfied else .off) ∧
    t.zones[z].exposure = min 65535 (d.zones[z].exposure + d.powerLossCharge)
  lanes : ∀ n, t.lane? n = (d.lane? n).map fun l =>
    { l with reserved := 0
             base := (if l.base = .jammed ∨ l.base = .offline then l.base else .checking)
             spoiled := l.spoiled || (l.laneClass = .perishable &&
               t.zones[l.zone].set.allowance ≤ t.zones[l.zone].exposure - l.baseline) }

theorem Started.savedFields {d t : Device} (h : Started true d t) : SavedFields d t where
  stamp := h.stamp
  driveSet := h.driveSet
  payoutSet := congrArg Payout.set h.payout
  tubes := congrArg Payout.tubes h.payout
  poll := h.poll
  classes := h.classes
  cashbox := h.cashbox
  maxCredit := congrArg Credit.maxCredit h.credit
  loadSet := h.loadSet
  charge := h.charge
  compressorSet := h.compressorSet
  setups := h.setups
  period := h.period
  references := h.references
  zones := h.zone
  lanes n := by
    have same (z : Fin 2) : t.zones[z].set = (charged true d.powerLossCharge d.zones[z]).set ∧
        t.zones[z].exposure = (charged true d.powerLossCharge d.zones[z]).exposure :=
      ⟨(h.zone z).1, (h.zone z).2.2⟩
    rw [h.lanes]
    exact congrArg (fun f => (d.lane? n).map f) (funext fun l => loadedLane_eq same l)

/-! ### The end of a warm start-up (R103, R108, R189) -/

theorem servePayback_unasked {d : Device} (h : d.credit.pending = .no) : d.servePayback = d := by
  simp only [Device.servePayback, h, RefundPending.plan?]

/-- R103: what a coin-in-flight marker leaves. -/
structure CoinFound (d e : Device) : Prop where
  frame : d.changesOnly [.conditions, .coins] e
  marker : e.coins.marker = none
  uncertain : ∀ m, d.coins.marker = some m →
    e.coins.uncertain = some { coinClass := m.coinClass, value := m.value, route := m.route, routeState := none,
                               cause := .reset } ∧
    e.conditions.has .coinUncertain = true ∧ e.conditions.has .creditChanged = true

theorem findCoinMarker_found {d : Device} (unasked : d.credit.pending = .no) : CoinFound d d.findCoinMarker := by
  unfold Device.findCoinMarker
  split
  next unmarked => exact ⟨changesOnly_refl _ d, unmarked, fun m h => absurd (unmarked.symm.trans h) (by simp)⟩
  next m hm =>
    dsimp only
    rw [Device.endHandshake, servePayback_unasked (by exact unasked)]
    refine ⟨?_, rfl, fun k hk => ?_⟩
    · exact fun p hp => by cases p <;> first | rfl | simp at hp
    · obtain rfl := Option.some.inj (hm.symm.trans hk)
      exact ⟨rfl, raised_has _ _, has_raise _ _ _ (raised_has _ _)⟩

theorem exec_startupEnd_warm {s : State} (phase : s.port.phase = .warmStartup) :
    exec (.startupEnd true) s = .next s.endWarm := by
  show Host.Outcome.next (s.startupEnd true) = _
  simp only [State.startupEnd, phase]

/-- What the end of a warm start-up leaves. -/
structure WarmEnd (s t : State) : Prop where
  phase : t.port.phase = .running
  image : t.port.imageStatus = s.port.imageStatus
  mem : t.mem = s.mem
  frame : s.dev.changesOnly [.conditions, .coins, .scanner] t.dev
  marker : t.dev.coins.marker = none
  uncertain : ∀ m, s.dev.coins.marker = some m →
    t.dev.coins.uncertain = some { coinClass := m.coinClass, value := m.value, route := m.route, routeState := none,
                                   cause := .reset } ∧
    t.dev.conditions.has .coinUncertain = true ∧ t.dev.conditions.has .creditChanged = true
  lastSave : t.port.lastSave = if s.port.saveMarker then some .abandoned else s.port.lastSave
  unmarked : t.port.saveMarker = false
  ended : s.port.saveMarker = true → t.dev.conditions.has .saveEnded = true
  identify : t.dev.coins.exchange.map (·.message) = some .identify

theorem endWarm_warmEnd {s : State} (unasked : s.dev.credit.pending = .no) : WarmEnd s s.endWarm := by
  have found := findCoinMarker_found unasked
  obtain ⟨frame, marker, uncertain⟩ := found
  unfold State.endWarm
  dsimp only
  generalize s.dev.findCoinMarker = d at frame marker uncertain
  have started : s.dev.changesOnly [.conditions, .coins, .scanner] ((d.startScanning).send .identify) := by
    refine changesOnly_trans (changesOnly_mono frame (by simp)) ?_
    exact fun p hp => by cases p <;> first | rfl | simp at hp
  split
  next marked =>
    refine ⟨rfl, rfl, rfl, ?_, marker, fun m hm => ?_, (if_pos marked).symm, rfl, fun _ => raised_has _ _, rfl⟩
    · refine changesOnly_trans started ?_
      exact fun p hp => by cases p <;> first | rfl | simp at hp
    · obtain ⟨record, coin, credit⟩ := uncertain m hm
      exact ⟨record, has_raise _ _ _ coin, has_raise _ _ _ credit⟩
  next unmarked =>
    exact ⟨rfl, rfl, rfl, started, marker, uncertain, (if_neg unmarked).symm, by simpa using unmarked,
      fun marked => absurd marked unmarked, rfl⟩

/-! ### Every reset -/

/-- Settles O48: a warm reset by its values and what its start-up claims, the power-on by what R187 makes of the defaults or
the saved fields. -/
theorem resetsEmptyAndKeep : Obligations.ResetsEmptyAndKeep := by
  refine ⟨⟨fun s i entered => ?_, fun s awake => ?_, fun s held => ⟨?_, fun i => exec_held held⟩⟩, ?_⟩
  · obtain ⟨t, step, ⟨now, port⟩, mem, values, zones, claims, held⟩ := warmEntry entered
    obtain ⟨conditions, lanes, stamp, changed, queue, credit, coins, payout, compressor, band, loadSet, charge, driveSet,
      setups, period, inputs, warm⟩ := values
    refine ⟨t, step, by rw [port]; rfl, by rw [port]; rfl, by rw [port]; rfl, by rw [port]; rfl, by rw [port]; rfl,
      by rw [port]; rfl, by rw [port]; rfl, by rw [port]; rfl, by rw [port]; rfl, mem, conditions, lanes, stamp, changed,
      queue, credit, by rw [coins]; rfl, by rw [coins]; rfl, by rw [coins]; rfl, by rw [coins]; rfl, by rw [coins]; rfl,
      by rw [coins]; rfl, by rw [payout]; rfl, by rw [payout]; rfl, fun k => ?_, fun z => ?_, by rw [compressor]; rfl,
      by rw [compressor]; rfl, by rw [compressor]; rfl, ?_, band, loadSet, charge, driveSet, by rw [payout]; rfl,
      by rw [coins]; rfl, by rw [compressor]; rfl, setups, period, fun k => ?_, warm, held⟩
    · rw [payout]
      exact get_mapAll ..
    · obtain ⟨exposure, set, warmth, air, alarm, state, waits, entered⟩ := zones z
      exact ⟨exposure, set, warmth, air, alarm, state, fun pin => waits fun h => h pin,
        fun defrost => ⟨(entered defrost).1, (entered defrost).2, claims z defrost⟩⟩
    · rw [compressor]
      exact compressorWarm_fan _ _
    · rw [inputs]
      exact inputWarm_eq _ _
  · exact congrArg Host.Outcome.next (if_neg fun held => (held_iff s).1 held awake)
  · have starts := beginWarm_warmReset s.dev
    exact ⟨_, exec_release held, rfl, rfl, rfl, congrArg OrderQueue.orders starts.rouses.warmValues.queue,
      fun n low checking => release_first low checking, fun z enabled due => release_zone enabled due⟩
  · refine ⟨fun s => ⟨_, rfl, rfl, rfl, rfl, powerOn_input s.dev⟩, fun s answers phase => ?_, fun s phase unasked => ?_,
      fun s due awake timer => ?_⟩
    · have step := exec_startupEnd_powerOn (answers := answers) phase
      have finding := imageFinding_eq answers s.mem
      by_cases loaded : imageFinding answers s.mem = .loaded
      · rw [if_pos loaded] at step
        have started := startedUp_loaded loaded
        have orders := (loadFields_fresh (s.mem.readAll 3 1903) (powerOn_fresh s.dev)).orders
        have balance : (s.dev.powerOn.loadFields (s.mem.readAll 3 1903)).credit.balance = 0 := loadFields_balance _ _
        intro format sound
        generalize s.dev.powerOn.loadFields (s.mem.readAll 3 1903) = d at started orders balance ⊢
        obtain ⟨stamp, driveSet, payoutSet, tubes, poll, classes, cashbox, maxCredit, loadSet, charge, compressorSet, setups,
          period, references, zones, lanes⟩ := started.savedFields
        exact ⟨_, step, rfl, rfl, finding, raised_has _ _,
          (congrArg OrderQueue.orders started.queue).trans orders, (congrArg Credit.balance started.credit).trans balance,
          started.pass, started.identify, started.restTimer, fun defaults => absurd loaded defaults,
          fun _ => ⟨(has_raise_other (by simp) _).trans started.fault, stamp, driveSet, payoutSet, tubes, poll, classes,
            cashbox, maxCredit, loadSet, charge, compressorSet, setups, period, references, zones, lanes⟩⟩
      · rw [if_neg loaded] at step
        have started := startedUp_defaults loaded
        exact ⟨_, step, rfl, rfl, finding, has_raise _ _ _ (raised_has _ _), congrArg OrderQueue.orders started.queue,
          congrArg Credit.balance started.credit, started.pass, started.identify, started.restTimer,
          fun _ => ⟨raised_has _ _, started.vacant default_lane, congrArg Credit.maxCredit started.credit,
            started.grants default_lane, started.loadSet, congrArg CompressorSettings.minRest started.compressorSet,
            fun z => (started.zone z).2.2.trans (awoken_exposure s z)⟩,
          fun image => absurd image loaded⟩
    · obtain ⟨running, image, mem, frame, marker, uncertain, lastSave, unmarked, ended, identify⟩ :=
        endWarm_warmEnd unasked
      exact ⟨_, exec_startupEnd_warm phase, running, image, mem, frame, marker, uncertain, lastSave, unmarked, ended,
        identify⟩
    · have pin : s.port.held = false := Bool.eq_false_iff.2 fun held => (held_iff s).1 held awake
      show Host.Outcome.next s.secondTick = _
      simp only [State.secondTick, pin, Bool.false_eq_true, if_false, timer]
      rfl

end Sys2Proof.Proofs
end

section
/-! SUPPORT. The sales reads, answered with their records, and the requests that write settings alone. -/
namespace Sys2Proof.Proofs

open Sys2Proof.Machine Sys2Proof.Laws

-- One proof at a time: together they wait for the kernel in a thread each, and the memory limit is met.
set_option Elab.async false

/-- Settles O15: each read is a query, answered OK from the records that the rule names. -/
theorem salesReadsCarryTheirRecords : Obligations.SalesReadsCarryTheirRecords := fun _ h =>
  ⟨congrArg Host.Outcome.next (query_taken h driveReply), congrArg Host.Outcome.next (query_taken h queueReply),
    congrArg Host.Outcome.next (query_taken h creditReply), congrArg Host.Outcome.next (query_taken h classReply),
    congrArg Host.Outcome.next (query_taken h cashboxReply), congrArg Host.Outcome.next (query_taken h tubesReply),
    congrArg Host.Outcome.next (query_taken h payoutReply), congrArg Host.Outcome.next (query_taken h linkReply)⟩

/-! ### Ranges of named values -/

/-- The model's range check and the statements' word agree. -/
theorem within_iff {lo hi : Nat} {n : Option Nat} : within lo hi n = true ↔ named lo hi n := by
  simp [within, named, Option.all_eq_true]

theorem withinT_iff {lo hi : Int} {t : Option Int} : withinT lo hi t = true ↔ namedT lo hi t := by
  simp [withinT, namedT, Option.all_eq_true]

/-- A named value within the codes 0 and 1 is a code of an enumeration of two. -/
theorem coded_of_named {α : Type} {f : Nat → Option α} {n : Option Nat} (zero : (f 0).isSome = true)
    (one : (f 1).isSome = true) (h : named 0 1 n) : coded f n = true := by
  rw [coded, Option.all_eq_true]
  intro v hv
  obtain ⟨-, top⟩ := h v hv
  match v, top with
  | 0, _ => exact zero
  | 1, _ => exact one

/-! ### The settings requests -/

/-- A request on the records that is taken, its reply without a body. -/
theorem request_okay {s : State} (h : s.taking) {f : Device → Device × Reply} {d : Device} (taken : f s.dev = okay d) :
    Host.Outcome.next (φ := Fault) (ρ := Refusal) (s.request f) = .next ((s.withDev d).replied .ok []) := by
  rw [request_taken h, taken]
  rfl

/-- Settles O23: each request passes its range check and is one write of the settings it names. -/
theorem settingsRequestsWriteTheirSettings : Obligations.SettingsRequestsWriteTheirSettings := by
  intro s h
  refine ⟨fun a limit window stray => ?_, fun a on gap stray => ?_, fun a period count => ?_,
    fun a rest run window mode polarity hot => ?_, fun period low high => ?_⟩
  · refine request_okay (f := amendDrive a) h ?_
    rw [amendDrive, within_iff.2 limit, within_iff.2 window, within_iff.2 stray]
    rfl
  · refine request_okay (f := amendPayout a) h ?_
    rw [amendPayout, within_iff.2 on, within_iff.2 gap, within_iff.2 stray]
    rfl
  · refine request_okay (f := amendLink a) h ?_
    rw [amendLink, within_iff.2 period, within_iff.2 count]
    rfl
  · have range : CompressorAmend.inRange a = true := by
      rw [CompressorAmend.inRange, within_iff.2 rest, within_iff.2 run, within_iff.2 window, withinT_iff.2 hot,
        coded_of_named rfl rfl mode, coded_of_named rfl rfl polarity]
      rfl
    refine request_okay (f := amendCompressor a) h ?_
    rw [amendCompressor, if_pos range]
    rfl
  · refine request_okay (f := amendScan period) h ?_
    rw [amendScan, decide_eq_true low, decide_eq_true high]
    rfl

end Sys2Proof.Proofs
end

section
/-! SUPPORT. What grants make of the drive's active job, and the end of an event that has ended no order or can start
none. -/
namespace Sys2Proof.Proofs

open Sys2Proof.Machine Sys2Proof.Laws

-- One proof at a time: together they wait for the kernel in a thread each, and the memory limit is met.
set_option Elab.async false

/-! ### The active job when load is granted (R26, R40) -/

/-- What grants make of an active job: all stays but its energizing, and its phase stays or is that of its grant. -/
structure Goes (j k : ActiveJob) : Prop where
  job : k.job = j.job
  companion : k.companion = j.companion
  turns : k.turns = j.turns
  extraTurns : k.extraTurns = j.extraTurns
  dropCheck : k.dropCheck = j.dropCheck
  turnCount : k.turnCount = j.turnCount
  turnTarget : k.turnTarget = j.turnTarget
  dropSeen : k.dropSeen = j.dropSeen
  supplyMark : k.supplyMark = j.supplyMark
  phase : k.phase = j.phase ∨ (k.phase = .turning ∧ j.job.tag?.isSome = true) ∨ (k.phase = .pulse ∧ j.job.tag? = none)

theorem Goes.refl (j : ActiveJob) : Goes j j := ⟨rfl, rfl, rfl, rfl, rfl, rfl, rfl, rfl, rfl, Or.inl rfl⟩

theorem Goes.trans {a b c : ActiveJob} (h : Goes a b) (k : Goes b c) : Goes a c where
  job := k.job.trans h.job
  companion := k.companion.trans h.companion
  turns := k.turns.trans h.turns
  extraTurns := k.extraTurns.trans h.extraTurns
  dropCheck := k.dropCheck.trans h.dropCheck
  turnCount := k.turnCount.trans h.turnCount
  turnTarget := k.turnTarget.trans h.turnTarget
  dropSeen := k.dropSeen.trans h.dropSeen
  supplyMark := k.supplyMark.trans h.supplyMark
  phase := by
    rcases k.phase with same | granted
    · rw [same]; exact h.phase
    · rw [h.job] at granted; exact Or.inr granted

/-- A unit drive that waits for load waits on or is TURNING. -/
theorem Goes.unit_phase {j k : ActiveJob} {n : Fin 64} {tag : Nat} (h : Goes j k) (job : j.job = .unitDrive n tag)
    (wait : j.phase = .waitLoad) : k.phase = .waitLoad ∨ k.phase = .turning := by
  rcases h.phase with same | ⟨turning, -⟩ | ⟨-, fit⟩
  · exact Or.inl (same.trans wait)
  · exact Or.inr turning
  · rw [job] at fit
    cases fit

/-- The active job goes on from one record to another. -/
def JobGoes (d e : Device) : Prop := ∀ j, d.drive.active = some j → ∃ k, e.drive.active = some k ∧ Goes j k

theorem JobGoes.refl (d : Device) : JobGoes d d := fun j hj => ⟨j, hj, Goes.refl j⟩

theorem JobGoes.trans {a b c : Device} (h : JobGoes a b) (k : JobGoes b c) : JobGoes a c := fun j hj => by
  obtain ⟨x, hx, jx⟩ := h j hj
  obtain ⟨y, hy, xy⟩ := k x hx
  exact ⟨y, hy, jx.trans xy⟩

/-- A drive that stands as it was. -/
theorem JobGoes.of_drive {d e : Device} (h : e.drive = d.drive) : JobGoes d e := fun j hj =>
  ⟨j, by rw [h]; exact hj, Goes.refl j⟩

/-- With no active job there is none to go on. -/
theorem JobGoes.of_idle {d e : Device} (idle : d.drive.active = none) : JobGoes d e := fun _ hj =>
  absurd (idle.symm.trans hj) (by simp)

theorem driveGranted_goes (d : Device) : JobGoes d d.driveGranted := by
  intro j hj
  cases job : j.job with
  | fitCheck n =>
    simp only [Device.driveGranted, hj, job, Device.updateJob, Device.energize]
    exact ⟨_, rfl, rfl, rfl, rfl, rfl, rfl, rfl, rfl, rfl, rfl, Or.inr (Or.inr ⟨rfl, by rw [job]; rfl⟩)⟩
  | unitDrive n tag =>
    simp only [Device.driveGranted, hj, job, Device.updateJob, Device.energize]
    exact ⟨_, rfl, rfl, rfl, rfl, rfl, rfl, rfl, rfl, rfl, rfl, Or.inr (Or.inl ⟨rfl, by rw [job]; rfl⟩)⟩

theorem granted_goes (d : Device) (c : Claim) (rest : List Claim) :
    JobGoes d (granted d c rest) ∧ (granted d c rest).drive.jobs = d.drive.jobs := by
  by_cases hc : c.who = .drive
  · simp only [granted, hc, Device.onGrant]
    exact ⟨driveGranted_goes { d with load := d.load.grantHead c rest }, driveGranted_jobs _⟩
  · have same : (granted d c rest).drive = d.drive := onGrant_drive hc _
    exact ⟨JobGoes.of_drive same, by rw [same]⟩

theorem grantTest_goes (d : Device) : JobGoes d d.grantTest ∧ d.grantTest.drive.jobs = d.drive.jobs :=
  grantLoop_induct (R := fun a b => JobGoes a b ∧ b.drive.jobs = a.drive.jobs) (fun a => ⟨JobGoes.refl a, rfl⟩)
    (fun f g => ⟨f.1.trans g.1, g.2.trans f.2⟩) (fun _ _ _ => granted_goes _ _ _) _ d

theorem claim_goes (c : Claim) (d : Device) : JobGoes d (d.claim c) ∧ (d.claim c).drive.jobs = d.drive.jobs :=
  grantTest_goes { d with load := { d.load with waiters := d.load.waiters ++ [c] } }

/-- What follows the endings of an event ends no active job. -/
theorem saleSteps_goes {d e : Device} (h : SaleSteps d e) : JobGoes d e := by
  refine saleSteps_induct JobGoes.refl JobGoes.trans (fun {a b} s => ?_) h
  cases s with
  | money frame => exact .of_drive (frame .drive (by simp))
  | plan kind req lines => exact .of_drive (by rw [planned_eq])
  | wait => exact .of_drive rfl
  | grant => exact (granted_goes _ _ _).1
  | refuse _ idle => exact .of_idle idle
  | discard idle => exact .of_idle idle
  | take _ _ idle => exact .of_idle idle
  | head => exact .of_drive rfl
  | unit => exact fun j hj => ⟨j, hj, Goes.refl j⟩

/-! ### A drive without a claim -/

/-- A drive that has no claim stands as it was, and gets none. -/
def LeavesUnclaimed (d e : Device) : Prop :=
  d.load.claimsOf .drive = 0 → e.drive = d.drive ∧ e.load.claimsOf .drive = 0

theorem LeavesUnclaimed.trans {a b c : Device} (h : LeavesUnclaimed a b) (k : LeavesUnclaimed b c) :
    LeavesUnclaimed a c := fun free => by
  obtain ⟨drive, free'⟩ := h free
  obtain ⟨drive', free''⟩ := k free'
  exact ⟨drive'.trans drive, free''⟩

theorem LeavesUnclaimed.of_same {d e : Device} (drive : e.drive = d.drive) (load : e.load = d.load) :
    LeavesUnclaimed d e := fun free => ⟨drive, by rw [load]; exact free⟩

/-- Another claimant's claim. -/
theorem claim_unclaimed {c : Claim} (hc : c.who ≠ .drive) (d : Device) : LeavesUnclaimed d (d.claim c) := by
  intro free
  let waits : Device := { d with load := { d.load with waiters := d.load.waiters ++ [c] } }
  have others : waits.load.claimsOf .drive = 0 :=
    Nat.le_zero.1 ((claimsSub_join d.load hc).count.trans (Nat.le_of_eq free))
  exact grantTest_noDrive others

theorem markRefund_unclaimed (k : RefundPending) (d : Device) : LeavesUnclaimed d (d.markRefund k) := by
  unfold Device.markRefund
  split
  · exact .of_same rfl rfl
  · exact .of_same rfl rfl

theorem makePlan_unclaimed (kind : PlanKind) (req : Requested) (lines : List (Fin 6 × Nat)) (d : Device) :
    LeavesUnclaimed d (d.makePlan kind req lines) := by
  have made : LeavesUnclaimed d (planned kind req lines d) := by
    rw [planned_eq]
    exact .of_same rfl rfl
  refine made.trans ?_
  simp only [Device.makePlan]
  split
  · exact .of_same rfl rfl
  · exact claim_unclaimed (c := payoutClaim) (by simp [payoutClaim]) (planned kind req lines d)

theorem askPayback_unclaimed (k : RefundPending) (d : Device) : LeavesUnclaimed d (d.askPayback k) := by
  refine (markRefund_unclaimed (d.credit.pending.join k) d).trans ?_
  show LeavesUnclaimed _ (Device.servePayback _)
  unfold Device.servePayback
  split
  · exact .of_same rfl rfl
  split
  · refine (markRefund_unclaimed .no _).trans ?_
    dsimp only
    split
    · exact .of_same rfl rfl
    · exact makePlan_unclaimed _ _ _ _
  · exact .of_same rfl rfl

/-! ### The end of an event that has ended no order, or can start none (R49, R55) -/

/-- Nothing is taken from a list in order. -/
theorem takeLoop_rests {d : Device} (list : d.drive.listSound) (q0 : OrderQueue) (fuel : Nat) (asked : Bool) :
    d.takeLoop q0 fuel asked = d := by
  cases hj : d.drive.active with
  | none => exact takeLoop_empty q0 asked fuel (list hj)
  | some j => exact takeLoop_active hj q0 asked fuel

/-- A change of one order that ends none: none has ended since. -/
theorem endedSince_changeTag {q0 q : OrderQueue} {tag : Nat} {f : Order → Order} (tags : tagsDistinct q0)
    (orders : q.orders = changeTag tag f q0.orders)
    (live : ∀ o ∈ q0.orders, o.tag = tag → (f o).state.live = true) : q0.endedSince q = [] := by
  rw [OrderQueue.endedSince, List.filter_eq_nil_iff, orders]
  intro x hx
  rcases mem_changeTag.1 hx with ⟨hx, -⟩ | ⟨y, hy, ty, rfl⟩
  · rw [find?_of_mem tags hx, Option.all_some]
    cases x.state.live <;> simp
  · rw [live y hy ty]
    simp

/-- With no order ended, an event ends with the taking from the list. -/
theorem conclude_unended {q0 : OrderQueue} {d : Device} (none : q0.endedSince d.queue = []) :
    d.conclude q0 = d.takeFrom q0 := by
  have after : d.afterEndings q0 false = (d, false) := by
    rw [Device.afterEndings, none]
    rfl
  rw [Device.conclude, after]
  rfl

/-- R55: the head cannot start: none may, or a gate is closed. -/
def Startless (d : Device) : Prop := noHead d.queue ∨ d.gatesOpen = false

theorem startHead_startless {d : Device} (h : Startless d) : d.startHead = d := by
  rcases h with none | shut
  · exact startHead_noHead none
  · unfold Device.startHead
    split
    · rw [shut, Bool.and_false, if_neg (by simp)]
    · rfl

/-- The gates rest on the inputs. -/
theorem gatesOpen_of_inputs {d e : Device} (h : e.inputs = d.inputs) : e.gatesOpen = d.gatesOpen := by
  simp only [Device.gatesOpen, Device.onRef, h]

theorem askPayback_startless {d : Device} (k : RefundPending) (h : Startless d) : Startless (d.askPayback k) := by
  have frame := (saleSteps_settles (askPayback_steps k d)).frame
  refine h.imp (fun none => ?_) fun shut => ?_
  · rw [(askPayback_idles k d).queue]; exact none
  · rw [gatesOpen_of_inputs (frame .inputs (by simp [saleParts, grantParts]))]; exact shut

/-- When no order can start, an event ends with change asked for or with nothing. -/
theorem conclude_startless {d : Device} (q0 : OrderQueue) (list : d.drive.listSound) (h : Startless d) :
    d.conclude q0 = d ∨ d.conclude q0 = d.askPayback .change := by
  have after : (d.afterEndings q0 false).1 = d ∨ (d.afterEndings q0 false).1 = d.askPayback .change := by
    unfold Device.afterEndings
    split
    · exact Or.inl rfl
    split
    · exact Or.inr (startHead_startless (askPayback_startless .change h))
    · exact Or.inl (startHead_startless h)
  have listed : (d.askPayback .change).drive.listSound := fun idle => by
    cases hj : d.drive.active with
    | none =>
      rw [(askPayback_idles .change d).drive hj]
      exact list hj
    | some j =>
      obtain ⟨k, hk, -⟩ := saleSteps_goes (askPayback_steps .change d) j hj
      exact absurd (idle.symm.trans hk) (by simp)
  rw [Device.conclude]
  rcases after with same | asked
  · exact Or.inl (by rw [same]; exact takeLoop_rests list _ _ _)
  · exact Or.inr (by rw [asked]; exact takeLoop_rests listed _ _ _)

/-- What the end of an event leaves when no order can start. -/
theorem conclude_idles {d : Device} (q0 : OrderQueue) (list : d.drive.listSound) (h : Startless d) :
    Idles d (d.conclude q0) ∧ LeavesUnclaimed d (d.conclude q0) := by
  rcases conclude_startless q0 list h with same | asked
  · rw [same]
    exact ⟨Idles.refl d, .of_same rfl rfl⟩
  · rw [asked]
    exact ⟨askPayback_idles .change d, askPayback_unclaimed .change d⟩

end Sys2Proof.Proofs
end

section
/-! SUPPORT. A unit that is posted and taken from an idle drive's list, and PLACE ORDER into an idle queue. -/
namespace Sys2Proof.Proofs

open Sys2Proof.Machine Sys2Proof.Laws

-- One proof at a time: together they wait for the kernel in a thread each, and the memory limit is met.
set_option Elab.async false

/-! ### A unit posted and taken (R24, R25, R56) -/

/-- R56: a unit of the current order is posted. -/
theorem startUnit_posts {d : Device} {o : Order} (hc : d.queue.current? = some o) (driving : o.state = .driving)
    (idle : d.queue.unitPos = .none) (owes : o.delivered < o.quantity) (gates : d.gatesOpen = true) :
    d.startUnit = postUnit o d := by
  simp only [Device.startUnit, hc, driving, idle, owes, gates, decide_true, Bool.and_self, if_true]
  rfl

/-- R4: what is sellable is in service, neither spoiled nor held, with the units to spare. -/
theorem unsellable_none_iff {l : Lane} {q r : Nat} : l.unsellable q r = none ↔
    l.base = .inService ∧ l.spoiled = false ∧ l.held = false ∧ q + l.reserved ≤ l.stock + r := by
  constructor
  · intro h
    unfold Lane.unsellable at h
    split at h
    · cases h
    split at h
    · cases h
    split at h
    · cases h
    split at h
    · cases h
    next service spoiled held spare =>
      exact ⟨not_not.1 service, Bool.eq_false_iff.2 spoiled, Bool.eq_false_iff.2 held, Nat.not_lt.1 spare⟩
  · rintro ⟨service, spoiled, held, spare⟩
    rw [Lane.unsellable, if_neg (not_not.2 service), spoiled, if_neg (by simp), held, if_neg (by simp),
      if_neg (Nat.not_lt.2 spare)]

/-- What the taking of a unit drive leaves: the active job with the lane's settings copied, and its claim. -/
structure TakesUnit (n : Fin 64) (tag : Nat) (l : Lane) (d e : Device) : Prop where
  frame : d.changesOnly grantParts e
  jobs : e.drive.jobs = []
  active : ∃ j, e.drive.active = some j ∧ Goes (newJob (.unitDrive n tag) l) j
  claim : unitClaim (.unitDrive n tag) l.companion ∈ e.load.grants ++ e.load.waiters

/-- R24, R25: the one unit drive listed in an idle drive is taken when its lane can give the unit reserved for it. -/
theorem takeFrom_takesUnit {d : Device} {n : Fin 64} {tag : Nat} {l : Lane} (q0 : OrderQueue)
    (idle : d.drive.active = none) (listed : d.drive.jobs = [.unitDrive n tag]) (hl : d.lane? n = some l)
    (sells : l.unsellable 1 1 = none) : TakesUnit n tag l d (d.takeFrom q0) := by
  let job : Job := .unitDrive n tag
  let waits : Device := { withJobs [] d with drive := { (withJobs [] d).drive with active := some (newJob job l) } }
  have goes := claim_goes (driveClaim (unitLoad l.companion) job) waits
  obtain ⟨j, hj, newj⟩ := goes.1 _ rfl
  have taken : Device.takeJob job (withJobs [] d) = waits.claim (driveClaim (unitLoad l.companion) job) := by
    have fits : (withJobs [] d).unitRefusal n = none := by
      rw [Device.unitRefusal, show (withJobs [] d).lane? n = some l from hl]
      exact sells
    simp only [job, Device.takeJob, fits]
    rw [show (withJobs [] d).lane? n = some l from hl]
    rfl
  have whole : d.takeFrom q0 = waits.claim (driveClaim (unitLoad l.companion) job) :=
    takeLoop_takes idle listed taken hj q0 _ false
  rw [whole]
  refine ⟨?_, goes.2, ⟨j, hj, newj⟩, ?_⟩
  · refine changesOnly_trans (b := waits) ?_ (claim_frame _ waits)
    exact fun p hp => by cases p <;> first | rfl | simp [grantParts] at hp
  · rw [claim_entries]
    exact List.mem_append_right _ (List.mem_singleton_self _)

/-! ### The checks of PLACE ORDER (R50 to R53) -/

theorem picksLane_sells {p : Placement} {d : Device} {n : Fin 64} {l : Lane} (h : picksLane p d n l) :
    d.lane? n = some l ∧ l.unsellable p.quantity 0 = none := by
  rcases h with ⟨-, -, hl, service, spoiled, held, spare⟩ | ⟨-, -, -, first⟩
  · exact ⟨hl, unsellable_none_iff.2 ⟨service, spoiled, held, spare⟩⟩
  · have sells := List.find?_some first
    exact ⟨(mem_vendOrder.1 (List.mem_of_find?_eq_some first)).1, Option.isNone_iff_eq_none.1 sells⟩

/-- R51 checks 3 and 4: the lane a placement picks is the one it is resolved to. -/
theorem resolve_picks {p : Placement} {d : Device} {n : Fin 64} {l : Lane} (h : picksLane p d n l) :
    Placement.resolve p d = .ok (n, l) := by
  obtain ⟨hl, sells⟩ := picksLane_sells h
  rcases h with ⟨choice, target, -⟩ | ⟨choice, -, -, first⟩
  · simp only [Placement.resolve, choice, target, index_val, Option.bind_some, hl, Option.map_some, sells]
  · have carried : (d.carriers p.target).isEmpty = false :=
      List.isEmpty_eq_false_iff_exists_mem.2
        ⟨(n, l), mem_carriers.2 ⟨hl, (mem_vendOrder.1 (List.mem_of_find?_eq_some first)).2.1⟩⟩
    simp only [Placement.resolve, choice, carried, first, Bool.false_eq_true, if_false]

theorem passesChecks_inRange {p : Placement} {d : Device} {pay : Payment} {n : Fin 64} {l : Lane}
    (h : passesChecks p d pay n l) : Placement.inRange p = true := by
  obtain ⟨tag, some_, few, payment, -, -, picks, -⟩ := h
  have tagged : (p.tag != 0) = true := bne_iff_ne.2 (Nat.ne_of_gt tag)
  have quantity : within 1 4 (some p.quantity) = true := within_iff.2 fun v hv => Option.some.inj hv ▸ ⟨some_, few⟩
  have paid : coded paymentOf (some p.payment) = true := by rw [coded, Option.all_some, payment]; rfl
  rw [Placement.inRange, tagged, quantity, paid]
  rcases picks with ⟨choice, target, -⟩ | ⟨choice, code, -⟩
  · simp only [choice, target, n.isLt, decide_true, Bool.and_self]
  · simpa only [choice, Bool.and_self, Bool.true_and, bne_iff_ne] using code

/-- R52: the credit checks pass. -/
theorem creditRefusal_affords {d : Device} {cost : Nat} {inexactOk : Bool} (h : d.affords cost inexactOk) :
    creditRefusal inexactOk cost d = none := by
  obtain ⟨still, enough, exact_⟩ := h
  have paid : ¬ d.credit.uncommitted < cost := by rw [Credit.uncommitted]; omega
  simp only [creditRefusal, still, if_neg paid, Bool.false_eq_true, if_false]
  rw [if_neg]
  intro refused
  simp only [Bool.and_eq_true, bne_iff_ne, Bool.not_eq_true'] at refused
  rcases exact_ with ok | planned
  · exact absurd (ok.symm.trans refused.2) (by simp)
  · exact refused.1.2 planned

/-- R53: a placement that passes its checks is taken. -/
theorem placeOrder_passes {p : Placement} {d : Device} {pay : Payment} {n : Fin 64} {l : Lane}
    (h : passesChecks p d pay n l) :
    placeOrder p d = (place (orderOf p pay n l) d, reply .ok (placedReply d (orderOf p pay n l))) := by
  have range := passesChecks_inRange h
  obtain ⟨-, -, -, payment, room, fresh, picks, affords⟩ := h
  have absent : d.queue.find? p.tag = none := List.find?_eq_none.2 fun o ho => by simpa using fresh o ho
  have order : Placement.order p n l = orderOf p pay n l := by simp only [Placement.order, payment]; rfl
  have pays : (if Placement.isCredit p then creditRefusal (flagBit p.flags 2) (l.price * p.quantity) d else none) = none := by
    split
    next credit =>
      rw [Placement.isCredit, payment, decide_eq_true_eq, Option.some.injEq] at credit
      exact creditRefusal_affords (affords credit)
    · rfl
  have roomy : ¬ Config.maxOrders ≤ d.queue.orders.length := Nat.not_le.2 room
  rw [placeOrder, if_pos range, placeChecked, if_neg roomy, absent, if_neg (by simp), resolve_picks picks]
  simp only [pays, order]
  rfl

/-- R53: the order at the tail, its units reserved and its cost committed; then the head and the list. -/
theorem place_eq {d : Device} {o : Order} {l : Lane} (hl : d.lane? o.lane = some l) :
    place o d = (d.placed o l).startHead.takeFrom d.queue := by
  have reserved : ({ d with queue := { d.queue with orders := d.queue.orders ++ [o] } } : Device).reserve o.lane o.quantity =
      Device.setSlot o.lane (some { l with reserved := l.reserved + o.quantity })
        { d with queue := { d.queue with orders := d.queue.orders ++ [o] } } :=
    updateLane_some (d := { d with queue := { d.queue with orders := d.queue.orders ++ [o] } }) hl _
  simp only [place, reserved, Device.placed]
  split <;> rfl

/-! ### PLACE ORDER into an idle queue (R55) -/

/-- No order of the queue is live: an order at its tail is its head. -/
theorem head?_append {q : OrderQueue} {o : Order} (ended : ∀ x ∈ q.orders, x.state.live = false)
    (queued : o.state = .queued) : OrderQueue.head? { q with orders := q.orders ++ [o] } = some o := by
  have none : q.orders.find? (·.state = .queued) = none := List.find?_eq_none.2 fun x hx => by
    have past := ended x hx
    cases st : x.state <;> simp_all [OrderState.live]
  show List.find? _ (q.orders ++ [o]) = _
  rw [List.find?_append, none, Option.none_or, List.find?_cons_of_pos (by simpa using queued)]

/-- No order of the queue is live: an order at its tail is the current one when it is DRIVING or HALTED. -/
theorem current?_append {q : OrderQueue} {o : Order} (ended : ∀ x ∈ q.orders, x.state.live = false) :
    OrderQueue.current? { q with orders := q.orders ++ [o] } = if o.state.current then some o else none := by
  have none : q.orders.find? (·.state.current) = none := List.find?_eq_none.2 fun x hx current =>
    absurd (ended x hx) (by simp [current_live current])
  show List.find? _ (q.orders ++ [o]) = _
  rw [List.find?_append, none, Option.none_or, List.find?_singleton]

/-- R55: the head drives and its unit is posted, in an idle queue that runs with open gates. -/
theorem startHead_posts {d : Device} {o : Order} (hc : d.queue.current? = none) (hh : d.queue.head? = some o)
    (running : d.queue.state = .running) (gates : d.gatesOpen = true) (idle : d.queue.unitPos = .none)
    (owes : o.delivered < o.quantity) (now : (d.updateOrder o.tag drives).queue.current? = some (drives o)) :
    d.startHead = postUnit (drives o) (d.updateOrder o.tag drives) := by
  rw [← startUnit_posts (d := d.updateOrder o.tag drives) now rfl idle owes gates]
  simp only [Device.startHead, hc, hh, running, gates, decide_true, Bool.and_self, if_true]
  rfl

/-- The orders when the one at the tail drives, its tag a fresh one. -/
theorem changeTag_append {orders : List Order} {o : Order} {f : Order → Order} (fresh : ∀ x ∈ orders, x.tag ≠ o.tag) :
    changeTag o.tag f (orders ++ [o]) = orders ++ [f o] := by
  have same := changeTag_absent (f := f) fresh
  rw [changeTag] at same ⊢
  rw [List.map_append, same, List.map_singleton, if_pos rfl]

/-- Settles O25: the placed order is the head of an idle queue, so it drives; its unit is posted, and taken at once. -/
theorem placeOrderStartsOnAnIdleQueue : Obligations.PlaceOrderStartsOnAnIdleQueue := by
  intro s p pay n l h checks ended running door flap idle empty pos o
  obtain ⟨-, some_, -, -, -, fresh, picks, -⟩ := id checks
  obtain ⟨hl, sells⟩ := picksLane_sells picks
  obtain ⟨service, spoiled, held, spare⟩ := unsellable_none_iff.1 sells
  let d := s.dev.placed o l
  have gates : d.gatesOpen = true := by
    show (s.dev.onRef .door && s.dev.onRef .flap) = true
    rw [door, flap]
    rfl
  have driven : (d.updateOrder o.tag drives).queue = { s.dev.queue with orders := s.dev.queue.orders ++ [drives o] } :=
    congrArg (fun x => { s.dev.queue with orders := x }) (changeTag_append fresh)
  have posted : d.startHead = postUnit (drives o) (d.updateOrder o.tag drives) :=
    startHead_posts (current?_append ended) (head?_append ended rfl) running gates pos some_
      (by rw [driven]; exact current?_append (o := drives o) ended)
  have queue : d.startHead.queue = { s.dev.queue with orders := s.dev.queue.orders ++ [drives o], unitPos := .posted } := by
    rw [posted]
    exact congrArg (fun q : OrderQueue => { q with unitPos := .posted }) driven
  have lane : d.startHead.lane? n = some { l with reserved := l.reserved + p.quantity } := by
    rw [posted]
    exact (lane?_setSlot n n _ _).trans (if_pos rfl)
  have takes := takeFrom_takesUnit (d := d.startHead) (n := n) (tag := p.tag) s.dev.queue (by rw [posted]; exact idle)
    (by rw [posted]; exact congrArg (· ++ [Job.unitDrive n p.tag]) empty) lane
    (unsellable_none_iff.2 ⟨service, spoiled, held, by show 1 + (l.reserved + p.quantity) ≤ l.stock + 1; omega⟩)
  generalize he : d.startHead.takeFrom s.dev.queue = e at takes
  obtain ⟨j, hj, goes⟩ := takes.active
  have queue' : e.queue = d.startHead.queue := takes.frame .queue (by simp [grantParts])
  have table : e.table = d.startHead.table := takes.frame .table (by simp [grantParts])
  have credit : e.credit = d.startHead.credit := takes.frame .credit (by simp [grantParts])
  refine ⟨(s.withDev e).replied .ok (placedReply s.dev o), j, ?_, rfl, ?_, ?_, ?_, ?_, ?_, hj, takes.jobs, goes.job,
    goes.unit_phase rfl rfl, goes.companion, goes.turns, goes.extraTurns, goes.dropCheck, ?_, ?_⟩
  · show Host.Outcome.next (s.request (placeOrder p)) = _
    rw [request_taken h, placeOrder_passes checks, place_eq hl, ← he]
    rfl
  · exact (congrArg OrderQueue.orders queue').trans (congrArg OrderQueue.orders queue)
  · exact (congrArg OrderQueue.unitPos queue').trans (congrArg OrderQueue.unitPos queue)
  · exact ((congrArg OrderQueue.state queue').trans (congrArg OrderQueue.state queue)).trans running
  · exact table.trans (by rw [posted]; rfl)
  · exact credit.trans (by rw [posted]; rfl)
  · rw [goes.job]
    exact takes.claim
  · refine changesOnly_trans (b := d.startHead) ?_ (changesOnly_mono takes.frame (by simp [grantParts]))
    rw [posted]
    exact fun q hq => by cases q <;> first | rfl | simp [grantParts] at hq

end Sys2Proof.Proofs
end

section
/-! SUPPORT. HALT DRIVE and RESUME DRIVE. -/
namespace Sys2Proof.Proofs

open Sys2Proof.Machine Sys2Proof.Laws

-- One proof at a time: together they wait for the kernel in a thread each, and the memory limit is met.
set_option Elab.async false

/-! ### Work that stops, its job staying active (R26, R27) -/

theorem stopWork_frame (n : Fin 64) (d : Device) : d.changesOnly (.table :: grantParts) (d.stopWork n) :=
  changesOnly_trans (changesOnly_mono (stopMotors_frame n d) (by simp [grantParts]))
    (changesOnly_mono (giveBack_frame .drive (d.stopMotors n)) fun _ hp => List.mem_cons_of_mem _ hp)

theorem stopWork_queue (n : Fin 64) (d : Device) : (d.stopWork n).queue = d.queue :=
  stopWork_frame n d .queue (by simp [grantParts])

theorem stopWork_lane (n k : Fin 64) (d : Device) :
    (d.stopWork n).lane? k = if k = n then (d.lane? n).map (stoppedLane d) else d.lane? k :=
  (lane?_of_table (giveBack_frame .drive (d.stopMotors n) .table (by simp [grantParts])) k).trans (stopMotors_lane n k d)

/-- The drive whose job, TURNING, has stopped: off, with its jobs as they were. -/
theorem stopWork_drive {d : Device} {j : ActiveJob} (n : Fin 64) (claims : d.driveClaims)
    (hj : d.drive.active = some j) (turning : j.phase = .turning) : (d.stopWork n).drive =
      { d.drive with energized := none, rows := 0, cols := 0, camConfirmed := none, camTimer := none } := by
  obtain ⟨drive, load, -⟩ := stopMotors_spec n d
  rw [← drive]
  refine (giveBack_freed (d := d.stopMotors n) fun c waits who => ?_).1
  rw [load] at waits
  obtain ⟨k, hk, wait⟩ := claims.2.1 c waits who
  obtain rfl := Option.some.inj (hj.symm.trans hk)
  exact absurd (turning.symm.trans wait) (by simp)

theorem stopWork_unclaimed {d : Device} {j : ActiveJob} (n : Fin 64) (claims : d.driveClaims)
    (hj : d.drive.active = some j) (turning : j.phase = .turning) : (d.stopWork n).load.claimsOf .drive = 0 :=
  (stopWork_freed n hj (Or.inl turning)).free claims

/-! ### HALT DRIVE (R36, R65) -/

/-- The orders with one HALTED: none has ended. -/
theorem halted_unended {q0 q : OrderQueue} {tag : Nat} (tags : tagsDistinct q0)
    (orders : q.orders = changeTag tag halts q0.orders) : q0.endedSince q = [] :=
  endedSince_changeTag tags orders fun _ _ _ => rfl

theorem orderHalted_current {d : Device} {o : Order} (hc : d.queue.current? = some o) :
    d.orderHalted o.tag = d.updateOrder o.tag halts := by
  simp only [Device.orderHalted, currentWith_of hc]
  rfl

/-- The active job is the unit drive of an order, not yet reported. -/
theorem unitOf_active {v : Drive} {j : ActiveJob} {n : Fin 64} {tag : Nat} (hj : v.active = some j)
    (job : j.job = .unitDrive n tag) (open_ : unreported j = true) : v.unitOf tag = some j := by
  rw [Drive.unitOf, hj, Option.filter_some, if_pos]
  rw [job, Bool.and_eq_true]
  exact ⟨decide_eq_true rfl, open_⟩

/-- A job that is no unit drive of the order is none of its units. -/
theorem unitOf_other {v : Drive} {j : ActiveJob} {tag : Nat} (hj : v.active = some j) (other : j.job.tag? ≠ some tag) :
    v.unitOf tag = none := by
  rw [Drive.unitOf, hj, Option.filter_some, if_neg]
  simp [other]

/-- R36, R65: the unit and its order HALTED. -/
def haltedUnit (tag : Nat) (d : Device) : Device :=
  ((d.updateJob (·.halt false)).setUnitPos .halted).updateOrder tag halts

theorem haltedUnit_frame (tag : Nat) (d : Device) : d.changesOnly [.drive, .queue] (haltedUnit tag d) :=
  fun p hp => by cases p <;> first | rfl | simp at hp

/-- R36: a halt of a TURNING unit whose drop is not seen. -/
theorem haltOrder_turning {d : Device} {o : Order} {j : ActiveJob} {n : Fin 64} (hc : d.queue.current? = some o)
    (driving : o.state = .driving) (hj : d.drive.active = some j) (job : j.job = .unitDrive n o.tag)
    (turning : j.phase = .turning) (unseen : j.dropSeen = false) :
    d.haltOrder false = haltedUnit o.tag (d.stopWork n) := by
  have lane : j.job.lane = n := by rw [job]; rfl
  have current : (((d.stopWork n).updateJob (·.halt false)).setUnitPos .halted).queue.current? = some o := by
    rw [setUnitPos_queue, updateJob_queue, stopWork_queue]
    exact hc
  rw [haltedUnit, ← orderHalted_current current]
  simp only [Device.haltOrder, hc, driving, if_true, unitOf_active hj job (unreported_turning turning), Device.haltActive,
    turning, lane, unseen, Bool.false_eq_true, if_false]

theorem halt_unrevoked (j : ActiveJob) : j.halt false =
    { j with phase := .halted, departureTimer := none, turnTimer := none, openedAt := none } := by
  rw [ActiveJob.halt, Bool.or_false]

/-- R36: a halt of an order that has no unit active: a listed one leaves the list. -/
theorem haltOrder_listed {d : Device} {o : Order} (hc : d.queue.current? = some o) (driving : o.state = .driving)
    (absent : d.drive.unitOf o.tag = none) :
    d.haltOrder false = ((d.unlist o.tag).setUnitPos .none).updateOrder o.tag halts := by
  rw [← orderHalted_current (d := (d.unlist o.tag).setUnitPos .none) hc]
  simp only [Device.haltOrder, hc, driving, if_true, absent]

theorem haltOrder_stands {d : Device} {o : Order} (hc : d.queue.current? = some o) (halted : o.state = .halted) :
    d.haltOrder false = d := by
  simp only [Device.haltOrder, hc, halted, reduceCtorEq, if_false]

/-- R65: with a current order the request halts it. -/
theorem exec_haltDrive {s : State} {o : Order} {e : Device} (h : s.taking) (hc : s.dev.queue.current? = some o)
    (halts : (s.dev.haltOrder false).conclude s.dev.queue = e) :
    exec .haltDrive s = .next ((s.withDev e).replied .ok []) := by
  refine request_okay (f := haltDrive) h ?_
  rw [haltDrive, hc, ← halts]
  rfl

/-- The end of an event that has halted an order, its drive's list in order. -/
theorem conclude_halted {d e : Device} {tag : Nat} (tags : tagsDistinct d.queue)
    (orders : e.queue.orders = changeTag tag halts d.queue.orders) (list : e.drive.listSound) :
    e.conclude d.queue = e :=
  (conclude_unended (halted_unended tags orders)).trans (takeLoop_rests list _ _ _)

/-! ### RESUME DRIVE (R38, R66) -/

theorem resumeDrive_halted {d : Device} {o : Order} (hc : d.queue.current? = some o) (halted : o.state = .halted)
    (gates : d.gatesOpen = true) : resumeDrive d = okay (resumeAt d.queue.unitPos (d.updateOrder o.tag drives)) := by
  simp only [resumeDrive, hc, halted, gates, ne_eq, not_true_eq_false, if_false, Bool.not_true, Bool.false_eq_true]
  rfl

/-- R66: without open gates nothing is resumed. -/
theorem resumeDrive_shut {d : Device} {o : Order} (hc : d.queue.current? = some o) (halted : o.state = .halted)
    (gates : d.gatesOpen = false) : resumeDrive d = refuse .notAllowed d := by
  simp only [resumeDrive, hc, halted, gates, ne_eq, not_true_eq_false, if_false, Bool.not_false, if_true]

/-- R38: the unit's claim joins the waiters. -/
theorem resumeUnit_claims {d : Device} {j : ActiveJob} (hj : d.drive.active = some j) (halted : j.phase = .halted) :
    d.resumeUnit = (d.updateJob waitsAgain).claim (driveClaim (unitLoad j.companion) j.job) := by
  simp only [Device.resumeUnit, hj, Option.filter_some, halted, decide_true, if_true]
  rfl

/-- Settles O28: a halt or a resumption is one change of the unit and the order, and the event ends with no more. -/
theorem haltAndResumeDrive : Obligations.HaltAndResumeDrive := by
  refine ⟨fun s o h sound list claims hc => ⟨fun j n driving hj job turning unseen => ?_, fun j driving hj other => ?_,
    fun halted => ?_⟩, fun s o h hc halted => ⟨fun shut => ?_, fun door flap posted => ?_,
    fun j n door flap pos hj job phase => ?_⟩⟩
  · have drive := stopWork_drive n claims hj turning
    let e := haltedUnit o.tag (s.dev.stopWork n)
    have drive' : e.drive = { s.dev.drive with
        active := some { j with phase := .halted, departureTimer := none, turnTimer := none, openedAt := none }
        energized := none, rows := 0, cols := 0, camConfirmed := none, camTimer := none } := by
      show ((s.dev.stopWork n).updateJob (·.halt false)).drive = _
      rw [updateJob_drive, drive, ← halt_unrevoked, hj]
      rfl
    have queue : e.queue = { (s.dev.queue.update o.tag halts) with unitPos := .halted } := by
      show ({ (s.dev.stopWork n).queue with unitPos := UnitPosition.halted } : OrderQueue).update o.tag halts = _
      rw [stopWork_queue]
      rfl
    have whole : (s.dev.haltOrder false).conclude s.dev.queue = e := by
      rw [haltOrder_turning hc driving hj job turning unseen]
      exact conclude_halted (e := e) sound.2.1 (congrArg OrderQueue.orders queue)
        fun idle => absurd ((congrArg Drive.active drive').symm.trans idle) (by simp)
    refine ⟨_, exec_haltDrive h hc whole, rfl, queue, drive', ?_, fun opened l hl => ?_, ?_⟩
    · exact claimsOf_zero.1 (stopWork_unclaimed n claims hj turning)
    · have lane : e.lane? n = (s.dev.lane? n).map (stoppedLane s.dev) := (stopWork_lane n n s.dev).trans (if_pos rfl)
      obtain ⟨l', -, rfl⟩ := Option.map_eq_some_iff.1 (lane.symm.trans hl)
      simp [stoppedLane, opened]
    · refine changesOnly_trans (b := s.dev.stopWork n) (changesOnly_mono (stopWork_frame n s.dev) (by simp [grantParts])) ?_
      exact changesOnly_mono (haltedUnit_frame o.tag _) (by simp [grantParts])
  · refine exec_haltDrive h hc ?_
    rw [haltOrder_listed hc driving (unitOf_other hj other)]
    exact conclude_halted sound.2.1 rfl fun idle => absurd (hj.symm.trans idle) (by simp)
  · refine exec_haltDrive h hc ?_
    rw [haltOrder_stands hc halted, conclude_unended (endedSince_nil sound.2.1 rfl)]
    exact takeLoop_rests list _ _ _
  · show Host.Outcome.next (s.request resumeDrive) = _
    rw [request_taken h, resumeDrive_shut hc halted shut]
    rfl
  · refine request_okay (f := resumeDrive) h ?_
    rw [resumeDrive_halted hc halted (by rw [Device.gatesOpen, door, flap]; rfl), posted]
    rfl
  · let d : Device := (s.dev.updateOrder o.tag drives).setUnitPos .posted
    have frame := claim_frame (driveClaim (unitLoad j.companion) j.job) (d.updateJob waitsAgain)
    have goes := claim_goes (driveClaim (unitLoad j.companion) j.job) (d.updateJob waitsAgain)
    have entries := claim_entries (driveClaim (unitLoad j.companion) j.job) (d.updateJob waitsAgain)
    have resumes : resumeDrive s.dev =
        okay ((d.updateJob waitsAgain).claim (driveClaim (unitLoad j.companion) j.job)) := by
      rw [resumeDrive_halted hc halted (by rw [Device.gatesOpen, door, flap]; rfl), pos,
        ← resumeUnit_claims (d := d) hj phase]
      rfl
    generalize (d.updateJob waitsAgain).claim (driveClaim (unitLoad j.companion) j.job) = e at *
    obtain ⟨k, hk, kj⟩ := goes.1 (waitsAgain j) (by rw [updateJob_drive]; exact congrArg (Option.map waitsAgain) hj)
    refine ⟨_, k, request_okay (f := resumeDrive) h resumes, rfl, frame .queue (by simp [grantParts]), hk, kj.job,
      kj.turnCount, kj.turnTarget, kj.dropSeen, kj.supplyMark, kj.unit_phase job rfl, goes.2, ?_, ?_⟩
    · show _ ∈ e.load.grants ++ e.load.waiters
      rw [entries]
      exact List.mem_append_right _ (List.mem_singleton_self _)
    · refine changesOnly_trans (b := d.updateJob waitsAgain) ?_ (changesOnly_mono frame fun _ hp => List.mem_cons_of_mem _ hp)
      exact fun p hp => by cases p <;> first | rfl | simp [grantParts] at hp

end Sys2Proof.Proofs
end

section
/-! SUPPORT. Orders given up by request, with the unit in the drive: SKIP ORDER and CLEAR QUEUE. -/
namespace Sys2Proof.Proofs

open Sys2Proof.Machine Sys2Proof.Laws

-- One proof at a time: together they wait for the kernel in a thread each, and the memory limit is met.
set_option Elab.async false

/-! ### The ending of an order by its tag (R48, R49) -/

theorem endOrder_live {d : Device} {o : Order} (cause : EndCause) (tags : tagsDistinct d.queue)
    (ho : o ∈ d.queue.orders) (live : o.state.live = true) :
    Ends o cause (o.quantity - o.delivered) d (d.endOrder o.tag cause) := by
  rcases endOrder_cases o.tag cause d with ⟨none, -⟩ | ⟨x, hx, tag, -, -, ends⟩
  · rw [OrderQueue.liveOrder?, find?_of_mem tags ho, Option.filter_some, if_pos live] at none
    cases none
  · obtain rfl := eq_of_tag tags hx ho tag
    exact ends

/-- An order that has ended does not end again. -/
theorem endOrder_past {d : Device} {o : Order} (cause : EndCause) (tags : tagsDistinct d.queue)
    (ho : o ∈ d.queue.orders) (past : o.state.live = false) : d.endOrder o.tag cause = d := by
  rcases endOrder_cases o.tag cause d with ⟨-, same⟩ | ⟨x, hx, tag, live, -⟩
  · exact same
  · obtain rfl := eq_of_tag tags hx ho tag
    exact absurd (live.symm.trans past) (by simp)

/-- The orders of other tags are found as before. -/
theorem find?_changeTag_other {orders : List Order} {tag t : Nat} {f : Order → Order} (same : ∀ x, (f x).tag = x.tag)
    (other : t ≠ tag) : (changeTag tag f orders).find? (·.tag = t) = orders.find? (·.tag = t) := by
  induction orders with
  | nil => rfl
  | cons x rest ih =>
    rw [changeTag] at ih ⊢
    rw [List.map_cons, List.find?_cons, List.find?_cons, ih]
    by_cases e : x.tag = tag
    · rw [if_pos e, same, e, decide_eq_false (Ne.symm other)]
    · rw [if_neg e]

/-- R57, R60: the last unit of an order ends it. -/
theorem unitDelivered_raises {d : Device} {o : Order} (tags : tagsDistinct d.queue) (hc : d.queue.current? = some o)
    (last : o.delivered + 1 = o.quantity) : (d.unitDelivered o.tag).conditions.has .orderEnded = true := by
  obtain ⟨ho, current⟩ := current?_mem hc
  simp only [Device.unitDelivered, currentWith_of hc, last, if_true]
  generalize he : Device.setUnitPos .none _ = e
  obtain ⟨-, queue, -⟩ := credited_delivers e he.symm
  have distinct : tagsDistinct e.queue := by rw [tagsDistinct, queue]; exact tagsDistinct_changeTag credit_tag tags
  have member : o.credit ∈ e.queue.orders := by rw [queue]; exact mem_changeTag.2 (Or.inr ⟨o, ho, rfl, rfl⟩)
  have ends := endOrder_live .completed distinct member (current_live (s := o.state) current)
  rw [show o.tag = o.credit.tag from rfl, ends.raised]
  exact raised_has _ _

/-! ### An order given up (R35, R39, R67) -/

/-- R35: the unit is reported DELIVERED when its drop was seen. -/
def report (seen : Bool) (tag : Nat) (d : Device) : Device := if seen then d.unitDelivered tag else d

/-- R48, R57, R60: the record of an order given up, a unit whose drop was seen being delivered first. -/
def givenUp (seen : Bool) (cause : EndCause) (o : Order) : Order :=
  if seen then o.credit.close (if o.delivered + 1 = o.quantity then .completed else cause) else o.close cause

theorem givenUp_live (seen : Bool) (cause : EndCause) (o : Order) : (givenUp seen cause o).state.live = false := by
  unfold givenUp
  split
  · exact close_live _ _
  · exact close_live _ _

theorem givenUp_tag (seen : Bool) (cause : EndCause) (o : Order) : (givenUp seen cause o).tag = o.tag := by
  unfold givenUp
  split <;> rfl

/-- What the giving up of the current order records. -/
structure GivesUp (seen : Bool) (cause : EndCause) (o : Order) (d e : Device) : Prop where
  reports : Reports d e
  orders : e.queue.orders = changeTag o.tag (givenUp seen cause) d.queue.orders
  pos : e.queue.unitPos = .none
  held : d.queue.state = .held → e.queue.state = .held
  ended : e.conditions.has .orderEnded = true
  lane : ∀ l, d.lane? o.lane = some l → ∃ l', e.lane? o.lane = some l' ∧ l'.stock = l.stock - seen.toNat ∧
    l'.base = l.base ∧ l'.reserved = l.reserved - seen.toNat - (o.quantity - (o.delivered + seen.toNat))

theorem givesUp_unseen {d : Device} {o : Order} (cause : EndCause) (tags : tagsDistinct d.queue)
    (hc : d.queue.current? = some o) : GivesUp false cause o d (d.endOrder o.tag cause) := by
  obtain ⟨ho, current⟩ := current?_mem hc
  have ends := endOrder_live cause tags ho (current_live current)
  refine ⟨endOrder_reports _ _ _, ends.orders, by rw [ends.pos, if_pos current], fun held => ?_, ?_, fun l hl => ?_⟩
  · rw [ends.state, held, ite_self]
  · rw [ends.raised]
    exact raised_has _ _
  · refine ⟨{ l with reserved := l.reserved - (o.quantity - o.delivered) }, ?_, rfl, rfl, rfl⟩
    rw [ends.lanes, if_pos rfl, hl]
    rfl

theorem givesUp_seen {d : Device} {o : Order} (cause : EndCause) (tags : tagsDistinct d.queue)
    (hc : d.queue.current? = some o) : GivesUp true cause o d ((d.unitDelivered o.tag).endOrder o.tag cause) := by
  obtain ⟨ho, current⟩ := current?_mem hc
  have delivers := unitDelivered_delivers tags (currentWith_of hc)
  have raises := unitDelivered_raises (d := d) tags hc
  have reports := unitDelivered_reports o.tag d
  generalize d.unitDelivered o.tag = f at delivers raises reports
  have distinct : tagsDistinct f.queue := by
    rw [tagsDistinct, delivers.orders]
    exact tagsDistinct_changeTag creditUnit_tag tags
  have member := delivers.member ho
  have lane (l : Lane) (hl : d.lane? o.lane = some l) : f.lane? o.lane = some (deliverLane l) := by
    rw [delivers.lanes, if_pos rfl, hl]
    rfl
  by_cases last : o.delivered + 1 = o.quantity
  · have ended : creditUnit o = givenUp true cause o := by rw [creditUnit_last last, givenUp, if_pos rfl, if_pos last]
    have past : (creditUnit o).state.live = false := by rw [ended]; exact givenUp_live _ _ _
    have same : f.endOrder o.tag cause = f := by
      rw [← creditUnit_tag o]
      exact endOrder_past cause distinct member past
    rw [same]
    refine ⟨reports, ?_, delivers.pos, fun held => ?_, raises last, fun l hl => ⟨_, lane l hl, rfl, rfl, ?_⟩⟩
    · rw [delivers.orders]
      refine changeTag_congr fun x hx tag => ?_
      rw [eq_of_tag tags hx ho tag]
      exact ended
    · rw [delivers.state, held, ite_self]
    · show l.reserved - 1 = l.reserved - 1 - (o.quantity - (o.delivered + 1))
      omega
  · have goes : creditUnit o = o.credit := if_neg last
    rw [goes] at member
    have ends := endOrder_live cause distinct member (current_live (s := o.state) current)
    rw [show o.credit.tag = o.tag from rfl] at ends
    refine ⟨reports.trans (endOrder_reports _ _ _), ?_, ?_, fun held => ?_, ?_, fun l hl => ?_⟩
    · rw [ends.orders, delivers.orders, credit_tag, changeTag_changeTag creditUnit_tag]
      refine changeTag_congr fun x hx tag => ?_
      rw [eq_of_tag tags hx ho tag, Function.comp, goes, givenUp, if_pos rfl, if_neg last]
    · rw [ends.pos, if_pos (show o.credit.state.current = true from current)]
    · rw [ends.state, delivers.state, held, ite_self, ite_self]
    · rw [ends.raised]
      exact raised_has _ _
    · refine ⟨{ deliverLane l with reserved := (deliverLane l).reserved - (o.quantity - (o.delivered + 1)) }, ?_, rfl, rfl, rfl⟩
      rw [ends.lanes, if_pos (show o.lane = o.credit.lane from rfl), lane l hl]
      rfl

theorem report_givesUp {d : Device} {o : Order} (seen : Bool) (cause : EndCause) (tags : tagsDistinct d.queue)
    (hc : d.queue.current? = some o) : GivesUp seen cause o d ((report seen o.tag d).endOrder o.tag cause) := by
  cases seen with
  | false => exact givesUp_unseen cause tags hc
  | true => exact givesUp_seen cause tags hc

/-! ### The unit drive abandoned (R39) -/

/-- A unit set aside: the queue and the money as they were, the lanes but for an OFF_HOME mark. -/
structure SetsAside (d m : Device) : Prop where
  frame : d.changesOnly (.table :: grantParts) m
  lanes : ∀ n l, d.lane? n = some l → ∃ off, m.lane? n = some { l with offHome := off }

theorem SetsAside.queue {d m : Device} (h : SetsAside d m) : m.queue = d.queue := h.frame .queue (by simp [grantParts])

/-- A change of the claimants alone sets aside. -/
theorem setsAside_of_claimants {d m : Device} (h : d.changesOnly grantParts m) : SetsAside d m where
  frame := changesOnly_mono h fun _ hp => List.mem_cons_of_mem _ hp
  lanes n l hl := ⟨l.offHome, by rw [lane?_of_table (h .table (by simp [grantParts]))]; exact hl⟩

theorem stopWork_setsAside (n : Fin 64) (d : Device) : SetsAside d (d.stopWork n) where
  frame := stopWork_frame n d
  lanes k l hl := by
    rw [stopWork_lane]
    split
    next e =>
      subst e
      rw [hl]
      exact ⟨_, rfl⟩
    · exact ⟨l.offHome, hl⟩

theorem SetsAside.endJob {d m : Device} (h : SetsAside d m) : SetsAside d m.endJob where
  frame := changesOnly_trans h.frame fun p hp => by cases p <;> first | rfl | simp [grantParts] at hp
  lanes := h.lanes

/-- R39: the active unit of an order is freed of its claim and ends, with its report. -/
theorem abandon_active {d : Device} {j : ActiveJob} {tag : Nat} (found : d.drive.unitOf tag = some j) :
    ∃ m, Freed d m ∧ SetsAside d m ∧ d.abandon tag = report j.dropSeen tag m.endJob := by
  obtain ⟨hj, ht, -⟩ := unitOf_some found
  have unit : j.job.tag?.isSome = true := by rw [ht]; rfl
  have still := setsAside_of_claimants (changesOnly_refl grantParts d)
  simp only [Device.abandon, found]
  cases ph : j.phase with
  | waitLoad =>
    exact ⟨_, withdrawDrive_freed hj ph, setsAside_of_claimants (withdraw_frame .drive d), rfl⟩
  | turning => exact ⟨_, stopWork_freed j.job.lane hj (Or.inl ph), stopWork_setsAside _ d, rfl⟩
  | halted => exact ⟨d, unclaimed_freed hj unit (Or.inl ph), still, rfl⟩
  | window => exact ⟨d, unclaimed_freed hj unit (Or.inr (Or.inl ph)), still, rfl⟩
  | pulse => exact ⟨d, unclaimed_freed hj unit (Or.inr (Or.inr ph)), still, rfl⟩

/-- R67, R68: whatever is in the drive, the current order is given up once its unit is set aside. -/
theorem giveUp_reports (o : Order) (cause : EndCause) (d : Device) :
    ∃ m seen, SetsAside d m ∧ d.giveUp o cause = (report seen o.tag m).endOrder o.tag cause := by
  have still := setsAside_of_claimants (changesOnly_refl grantParts d)
  unfold Device.giveUp
  split
  · cases found : d.drive.unitOf o.tag with
    | none =>
      refine ⟨d.unlist o.tag, false, setsAside_of_claimants fun p hp => ?_, ?_⟩
      · cases p <;> first | rfl | simp [grantParts] at hp
      · simp only [Device.abandon, found]
        rfl
    | some j =>
      obtain ⟨m, -, aside, abandons⟩ := abandon_active found
      exact ⟨m.endJob, j.dropSeen, aside.endJob, by rw [abandons]⟩
  · exact ⟨d, false, still, rfl⟩

/-- What is left of an order's unit that is set aside: an idle drive, off, without a claim. -/
structure Vacates (d m : Device) : Prop where
  aside : SetsAside d m
  active : m.drive.active = none
  jobs : m.drive.jobs = d.drive.jobs
  off : m.drive.energized = none
  free : m.load.claimsOf .drive = 0

/-- R67: with an idle drive, or the order's unit active in it, the unit is set aside and its drop reported. -/
theorem giveUp_vacates {d : Device} {o : Order} (cause : EndCause) (current : o.state.current = true)
    (matrix : d.drive.matrixSound) (claims : d.driveClaims)
    (unit : (d.queue.unitPos = .none ∧ d.drive.active = none) ∨
      (d.queue.unitPos ≠ .none ∧ ∃ j, d.drive.active = some j ∧ j.job = .unitDrive o.lane o.tag ∧
        (j.phase = .window → j.dropCheck = .required) ∧ j.phase ≠ .pulse)) :
    ∃ m, Vacates d m ∧
      d.giveUp o cause = (report (d.drive.active.any (·.dropSeen)) o.tag m).endOrder o.tag cause := by
  rcases unit with ⟨pos, idle⟩ | ⟨pos, j, hj, job, window, -⟩
  · have off : d.drive.energized = none := Option.eq_none_iff_forall_ne_some.2 fun n hn => by
      obtain ⟨j, hj, -⟩ := matrix.2 n hn
      exact absurd (idle.symm.trans hj) (by simp)
    have still := setsAside_of_claimants (changesOnly_refl grantParts d)
    refine ⟨d, ⟨still, idle, rfl, off, no_driveClaim claims idle⟩, ?_⟩
    rw [Device.giveUp, idle, pos, current]
    rfl
  · have open_ : unreported j = true := by
      simp only [unreported, Bool.not_eq_true', Bool.and_eq_false_iff, decide_eq_false_iff_not]
      by_cases ph : j.phase = .window
      · exact Or.inr (by rw [window ph]; simp)
      · exact Or.inl ph
    obtain ⟨m, freed, aside, abandons⟩ := abandon_active (unitOf_active hj job open_)
    refine ⟨m.endJob, ⟨aside.endJob, rfl, freed.jobs claims, (freed.off claims matrix).1, freed.free claims⟩, ?_⟩
    have taken : (o.state.current && decide (d.queue.unitPos ≠ .none)) = true := by rw [current, decide_eq_true pos]; rfl
    rw [Device.giveUp, if_pos taken, abandons, hj]
    rfl

end Sys2Proof.Proofs
end

section
/-! SUPPORT. SKIP ORDER and CLEAR QUEUE. -/
namespace Sys2Proof.Proofs

open Sys2Proof.Machine Sys2Proof.Laws

-- One proof at a time: together they wait for the kernel in a thread each, and the memory limit is met.
set_option Elab.async false

/-! ### SKIP ORDER (R67) -/

/-- R67: the request gives a live order up. -/
theorem exec_skipOrder {s : State} {o : Order} {e : Device} (h : s.taking) (tags : tagsDistinct s.dev.queue)
    (ho : o ∈ s.dev.queue.orders) (tagged : o.tag ≠ 0) (live : o.state.live = true)
    (gives : (s.dev.giveUp o .skipped).conclude s.dev.queue = e) :
    exec (.skipOrder o.tag) s = .next ((s.withDev e).replied .ok []) := by
  refine request_okay (f := skipOrder o.tag) h ?_
  simp only [skipOrder, if_neg tagged, find?_of_mem tags ho, live, Bool.not_true, Bool.false_eq_true, if_false, gives]

/-- R67: an order that has ended is not skipped. -/
theorem exec_skipOrder_past {s : State} {o : Order} (h : s.taking) (tags : tagsDistinct s.dev.queue)
    (ho : o ∈ s.dev.queue.orders) (tagged : o.tag ≠ 0) (past : o.state.live = false) :
    exec (.skipOrder o.tag) s = .next (s.replied .notAllowed []) := by
  have refused : skipOrder o.tag s.dev = refuse .notAllowed s.dev := by
    simp only [skipOrder, if_neg tagged, find?_of_mem tags ho, past, Bool.not_false, if_true]
  show Host.Outcome.next (s.request (skipOrder o.tag)) = _
  rw [request_taken h, refused]
  rfl

/-- R67: a QUEUED order is in no drive: it ends. -/
theorem giveUp_queued {o : Order} (queued : o.state = .queued) (cause : EndCause) (d : Device) :
    d.giveUp o cause = d.endOrder o.tag cause := by
  rw [Device.giveUp, queued]
  rfl

/-- R55: no order starts at the end of a QUEUED one in a HELD queue or beside a current order. -/
theorem Ends.noHead {o : Order} {cause : EndCause} {units : Nat} {d e : Device} (h : Ends o cause units d e)
    (sound : d.queue.sound) (ho : o ∈ d.queue.orders) (queued : o.state = .queued)
    (waits : d.queue.state = .held ∨ d.queue.current?.isSome = true) : noHead e.queue := by
  refine waits.imp (fun held => by rw [h.state, held, ite_self]) fun busy => Or.inr ?_
  have closed : (d.queue.update o.tag (Order.close cause)).sound :=
    sound_update sound ho (fun _ => rfl) fun current => absurd current (by simp [close_current])
  rw [(sound_of_orders (q := d.queue.update o.tag (Order.close cause)) h.orders).2,
    current?_update sound closed ho (by rw [queued]; rfl) (close_current o cause)]
  exact busy

/-- The job in the drive at the end of an event that starts nothing. -/
theorem conclude_job {d : Device} (q0 : OrderQueue) (list : d.drive.listSound) (h : Startless d) :
    (d.conclude q0).drive.active.map (·.job) = d.drive.active.map (·.job) := by
  cases hj : d.drive.active with
  | none => rw [(conclude_idles q0 list h).1.drive hj, hj]
  | some j =>
    obtain ⟨k, hk, goes⟩ := saleSteps_goes (conclude_steps q0 d) j hj
    rw [hk]
    exact congrArg some goes.job

/-- R48, R57, R60: the fields of the record of a current order given up. -/
theorem givenUp_record {o : Order} (seen : Bool) (cause : EndCause) (current : o.state.current = true)
    (owes : o.delivered < o.quantity) :
    let got := o.delivered + seen.toNat
    let r := givenUp seen cause o
    r.delivered = got ∧ r.residue = o.quantity - got ∧ r.charged = o.charged + (if seen then o.price else 0) ∧
      r.state = (if got = o.quantity then .delivered else if 0 < got then .partly else .failed) ∧
      r.cause = some (if got = o.quantity then .completed else cause) := by
  cases seen with
  | false =>
    simp only [givenUp, Bool.false_eq_true, if_false, Bool.toNat_false, Nat.add_zero, if_neg (Nat.ne_of_lt owes),
      close_unfinished current owes, and_self]
  | true =>
    simp only [givenUp, if_true, Bool.toNat_true]
    split
    next last => exact ⟨rfl, rfl, rfl, close_completed current last, rfl⟩
    next more =>
      have left : o.credit.delivered < o.credit.quantity := Nat.lt_of_le_of_ne owes more
      simp only [close_unfinished (o := o.credit) current left]
      exact ⟨rfl, rfl, rfl, rfl, trivial⟩

/-- What the giving up of the current order leaves at the end of an event in a HELD queue. -/
structure Skipped (o : Order) (seen : Bool) (cause : EndCause) (d e : Device) : Prop where
  found : e.queue.find? o.tag = some (givenUp seen cause o)
  lane : ∀ l, d.lane? o.lane = some l → ∃ l', e.lane? o.lane = some l' ∧ l'.stock = l.stock - seen.toNat ∧
    l'.base = l.base ∧ l'.reserved = l.reserved - seen.toNat - (o.quantity - (o.delivered + seen.toNat))
  active : e.drive.active = none
  off : e.drive.energized = none
  pos : e.queue.unitPos = .none
  free : e.load.claimsOf .drive = 0
  ended : e.conditions.has .orderEnded = true
  frame : d.changesOnly saleParts e

/-- R35, R39, R67: the unit set aside, its drop reported, the order ends; nothing starts and nothing is taken. -/
theorem skipped_of_vacates {d m : Device} {o : Order} (seen : Bool) (cause : EndCause) (sound : d.queue.sound)
    (hc : d.queue.current? = some o) (held : d.queue.state = .held) (empty : d.drive.jobs = []) (vacates : Vacates d m) :
    Skipped o seen cause d (((report seen o.tag m).endOrder o.tag cause).conclude d.queue) := by
  have queue : m.queue = d.queue := vacates.aside.queue
  have gives := report_givesUp (d := m) seen cause (by rw [queue]; exact sound.2.1) (by rw [queue]; exact hc)
  generalize (report seen o.tag m).endOrder o.tag cause = a at gives
  obtain ⟨reports, orders, pos, holds, ended, lane⟩ := gives
  rw [queue] at orders holds
  have idle : a.drive.active = none := by rw [reports.drive]; exact vacates.active
  have jobs : a.drive.jobs = [] := by rw [reports.drive, vacates.jobs]; exact empty
  obtain ⟨idles, unclaimed⟩ := conclude_idles d.queue (fun _ => jobs) (Or.inl (Or.inl (holds held)))
  have settles := conclude_settles d.queue a
  generalize a.conclude d.queue = e at idles unclaimed settles
  have drive : e.drive = m.drive := (idles.drive idle).trans reports.drive
  refine ⟨?_, fun l hl => ?_, ?_, ?_, ?_, ?_, settles.conditions _ ended, ?_⟩
  · have tags : tagsDistinct a.queue := by
      rw [tagsDistinct, orders]
      exact tagsDistinct_changeTag (givenUp_tag seen cause) sound.2.1
    have member : givenUp seen cause o ∈ a.queue.orders := by
      rw [orders]
      exact mem_changeTag.2 (Or.inr ⟨o, (current?_mem hc).1, rfl, rfl⟩)
    rw [idles.queue, ← givenUp_tag seen cause o]
    exact find?_of_mem tags member
  · obtain ⟨off, hm⟩ := vacates.aside.lanes o.lane l hl
    rw [lane?_of_table idles.table]
    have kept := lane _ hm
    exact kept
  · rw [drive]; exact vacates.active
  · rw [drive]; exact vacates.off
  · rw [idles.queue]; exact pos
  · exact (unclaimed (by rw [reports.load]; exact vacates.free)).2
  · refine changesOnly_trans (b := m) (changesOnly_mono vacates.aside.frame (by simp [saleParts, grantParts])) ?_
    exact changesOnly_trans (changesOnly_mono reports.frame (by simp [saleParts])) settles.frame

/-! ### CLEAR QUEUE (R68) -/

/-- What the giving up of the current order, if any, leaves of the queue: the other orders, and none current. -/
structure Clears (d e : Device) : Prop where
  frame : d.changesOnly saleParts e
  tags : e.queue.orders.map (·.tag) = d.queue.orders.map (·.tag)
  kept : ∀ o ∈ d.queue.orders, o.state.current = false → o ∈ e.queue.orders
  only : ∀ o ∈ e.queue.orders, o.state.current = false
  ended : ∀ o ∈ d.queue.orders, o.state.current = true → e.conditions.has .orderEnded = true

theorem clearCurrent_clears {d : Device} (sound : d.queue.sound) : Clears d d.clearCurrent := by
  unfold Device.clearCurrent
  cases hc : d.queue.current? with
  | none =>
    have noCurrent : ∀ o ∈ d.queue.orders, o.state.current = false := fun o ho => by
      simpa using List.find?_eq_none.1 hc o ho
    exact ⟨changesOnly_refl _ d, rfl, fun _ ho _ => ho, noCurrent,
      fun o ho current => absurd (current.symm.trans (noCurrent o ho)) (by simp)⟩
  | some c =>
    obtain ⟨hm, current⟩ := current?_mem hc
    obtain ⟨m, seen, aside, gives⟩ := giveUp_reports c .cleared d
    have queue := aside.queue
    have given := report_givesUp (d := m) seen .cleared (by rw [queue]; exact sound.2.1) (by rw [queue]; exact hc)
    rw [← gives] at given
    obtain ⟨reports, orders, -, -, ended, -⟩ := given
    rw [queue] at orders
    refine ⟨?_, ?_, fun o ho other => ?_, fun o ho => ?_, fun _ _ _ => ended⟩
    · exact changesOnly_trans (changesOnly_mono aside.frame (by simp [saleParts, grantParts]))
        (changesOnly_mono reports.frame (by simp [saleParts]))
    · rw [orders]
      exact tags_changeTag c.tag (givenUp_tag seen .cleared)
    · rw [orders]
      refine mem_changeTag.2 (Or.inl ⟨ho, fun same => ?_⟩)
      rw [eq_of_tag sound.2.1 ho hm same, current] at other
      exact absurd other (by simp)
    · rw [orders] at ho
      rcases mem_changeTag.1 ho with ⟨ho, other⟩ | ⟨y, -, -, rfl⟩
      · refine Bool.eq_false_iff.2 fun now => other ?_
        rw [Option.some.inj ((current?_of_mem sound ho now).symm.trans hc)]
      · exact Bool.eq_false_iff.2 fun now =>
          absurd ((current_live now).symm.trans (givenUp_live seen .cleared y)) (by simp)

theorem endAll_settles (cause : EndCause) (xs : List Order) : ∀ d : Device, Settles d (endAll cause xs d) :=
  foldl_rel (f := fun (d : Device) (o : Order) => d.endOrder o.tag cause) Settles.refl Settles.trans
    (fun d o => endOrder_settles o.tag cause d) xs

/-- R49: the ending of one order or more raises ORDER_ENDED. -/
theorem endAll_raises {d : Device} {xs : List Order} (cause : EndCause) (tags : tagsDistinct d.queue) (some_ : xs ≠ [])
    (live : ∀ o ∈ xs, o ∈ d.queue.orders ∧ o.state.live = true) :
    (endAll cause xs d).conditions.has .orderEnded = true := by
  match xs, some_ with
  | o :: rest, _ =>
    obtain ⟨ho, hl⟩ := live o List.mem_cons_self
    refine (endAll_settles cause rest (d.endOrder o.tag cause)).conditions _ ?_
    rw [(endOrder_live cause tags ho hl).raised]
    exact raised_has _ _

/-- R68: every QUEUED order ends. -/
theorem cancelAllQueued_raises {d : Device} {o : Order} (cause : EndCause) (tags : tagsDistinct d.queue)
    (ho : o ∈ d.queue.orders) (queued : o.state = .queued) :
    (d.cancelAllQueued cause).conditions.has .orderEnded = true := by
  rw [cancelAllQueued_eq]
  refine endAll_raises cause tags (List.ne_nil_of_mem (List.mem_filter.2 ⟨ho, decide_eq_true queued⟩)) fun x hx => ?_
  obtain ⟨hx, waits⟩ := List.mem_filter.1 hx
  exact ⟨hx, by rw [of_decide_eq_true waits]; rfl⟩

/-- R64: a HELD queue stays HELD at the end of an event. -/
theorem saleSteps_held {d e : Device} (h : SaleSteps d e) : d.queue.state = .held → e.queue.state = .held := by
  refine saleSteps_induct (R := fun a b => a.queue.state = .held → b.queue.state = .held) (fun _ => id)
    (fun f g held => g (f held)) (fun {a b} s held => ?_) h
  have same : b.queue = a.queue → b.queue.state = .held := fun q => by rw [q]; exact held
  cases s with
  | money frame => exact same (frame .queue (by simp))
  | plan kind req lines => exact same (by rw [planned_eq])
  | grant => exact same granted_queue
  | @refuse n tag rest cause =>
    rcases endOrder_cases tag cause (withJobs rest a) with ⟨-, stays⟩ | ⟨o, -, -, -, -, ends⟩
    · exact same (by rw [stays]; rfl)
    · rw [ends.state]
      exact (congrArg (ite (o.holdAfter = true) QueueState.held) held).trans (ite_self _)
  | wait => exact held
  | discard => exact held
  | take => exact held
  | head => exact held
  | unit => exact held

/-- When every order has ended, none goes on at the end of an event. -/
theorem Settles.all_ended {d e : Device} (h : Settles d e) (tags : tagsDistinct d.queue)
    (past : ∀ o ∈ d.queue.orders, o.state.live = false) : ∀ o ∈ e.queue.orders, o.state.live = false := by
  intro o ho
  have tag : o.tag ∈ d.queue.orders.map (·.tag) := by
    rw [← h.tags]
    exact List.mem_map_of_mem ho
  obtain ⟨x, hx, same⟩ := List.mem_map.1 tag
  rw [eq_of_tag (h.distinct tags) ho (h.kept tags hx (past x hx)) same.symm]
  exact past x hx

/-- R68: what CLEAR QUEUE makes of the device's records before the end of the event. -/
def cleared (d : Device) : Device := (d.clearCurrent.cancelAllQueued .cleared).setQueueState .held

/-- R68: every live order ends, the QUEUED ones CANCELLED. -/
structure ClearsAll (d e : Device) : Prop where
  frame : d.changesOnly saleParts e
  held : e.queue.state = .held
  tags : e.queue.orders.map (·.tag) = d.queue.orders.map (·.tag)
  past : ∀ o ∈ e.queue.orders, o.state.live = false
  kept : ∀ o ∈ d.queue.orders, o.state.live = false → o ∈ e.queue.orders
  cancelled : ∀ o ∈ d.queue.orders, o.state = .queued → o.close .cleared ∈ e.queue.orders
  ended : ∀ o ∈ d.queue.orders, o.state.live = true → e.conditions.has .orderEnded = true

theorem cleared_clearsAll {d : Device} (sound : d.queue.sound) : ClearsAll d (cleared d) := by
  have clears := clearCurrent_clears sound
  have tags : tagsDistinct d.clearCurrent.queue := by rw [tagsDistinct, clears.tags]; exact sound.2.1
  have cancels := cancelAllQueued_cancels .cleared tags
  have settles := endAll_settles .cleared (d.clearCurrent.queue.orders.filter (·.state = .queued)) d.clearCurrent
  rw [← cancelAllQueued_eq] at settles
  have raises {o : Order} := cancelAllQueued_raises (o := o) .cleared tags
  have waits (o : Order) (ho : o ∈ d.queue.orders) (queued : o.state = .queued) : o ∈ d.clearCurrent.queue.orders :=
    clears.kept o ho (by rw [queued]; rfl)
  refine ⟨?_, rfl, cancels.tags.trans clears.tags, fun o ho => ?_, fun o ho past => ?_, fun o ho queued => ?_,
    fun o ho live => ?_⟩
  · refine changesOnly_trans clears.frame (changesOnly_trans (changesOnly_mono cancels.frame (by simp [saleParts])) ?_)
    exact fun p hp => by cases p <;> first | rfl | simp [saleParts] at hp
  · rcases cancels.only o ho with ⟨ho, other⟩ | ⟨y, -, rfl⟩
    · refine Bool.eq_false_iff.2 fun live => ?_
      rcases live_cases live with queued | current
      · exact other (List.mem_filter.2 ⟨ho, decide_eq_true queued⟩)
      · exact absurd (current.symm.trans (clears.only o ho)) (by simp)
    · exact close_live y .cleared
  · have still : o.state.current = false :=
      Bool.eq_false_iff.2 fun current => absurd ((current_live current).symm.trans past) (by simp)
    refine cancels.kept o (clears.kept o ho still) fun queued => ?_
    rw [of_decide_eq_true (List.mem_filter.1 queued).2] at past
    exact absurd past (by simp [OrderState.live])
  · exact cancels.closed o (List.mem_filter.2 ⟨waits o ho queued, decide_eq_true queued⟩)
  · rcases live_cases live with queued | current
    · exact raises (waits o ho queued) queued
    · exact settles.conditions _ (clears.ended o ho current)

/-- Settles O29: the order given up ends and nothing starts after it; a cleared queue holds ended orders alone. -/
theorem skipOrderAndClearQueue : Obligations.SkipOrderAndClearQueue := by
  refine ⟨fun s o l h sound list ho tagged hl => ⟨fun queued fresh waits => ?_,
    fun current owes held empty matrix claims unit => ?_, exec_skipOrder_past h sound.2.1 ho tagged⟩, fun s h sound => ?_⟩
  · have live : o.state.live = true := by rw [queued]; rfl
    have ends := endOrder_live .skipped sound.2.1 ho live
    have gives := exec_skipOrder h sound.2.1 ho tagged live rfl
    rw [giveUp_queued queued] at gives
    generalize s.dev.endOrder o.tag .skipped = a at ends gives
    have drive : a.drive = s.dev.drive := ends.frame .drive (by simp)
    have startless : Startless a := Or.inl (ends.noHead sound ho queued waits)
    have listed : a.drive.listSound := by rw [drive]; exact list
    have idles := (conclude_idles s.dev.queue listed startless).1
    have job := conclude_job s.dev.queue listed startless
    have settles := conclude_settles s.dev.queue a
    have tags : tagsDistinct a.queue := (ends.settles ho live).distinct sound.2.1
    generalize a.conclude s.dev.queue = e at gives idles job settles
    refine ⟨_, gives, rfl, ?_, fun tag other => ?_, ?_, ?_, settles.balance.trans ends.credit.1,
      settles.conditions _ ?_, ?_, ?_⟩
    · have closed : { o with state := .cancelled, cause := some .skipped, residue := o.quantity } = o.close .skipped := by
        simp only [close_queued queued, fresh, Nat.sub_zero]
      show e.queue.find? o.tag = _
      rw [closed, idles.queue]
      exact find?_of_mem (o := o.close .skipped) tags
        (by rw [ends.orders]; exact mem_changeTag.2 (Or.inr ⟨o, ho, rfl, rfl⟩))
    · show e.queue.find? tag = _
      rw [idles.queue, OrderQueue.find?, ends.orders]
      exact find?_changeTag_other (fun _ => rfl) other
    · show e.lane? o.lane = _
      rw [lane?_of_table idles.table, ends.lanes, if_pos rfl, hl, fresh]
      rfl
    · show e.credit.committed = _
      rw [idles.committed, ends.credit.2, fresh, Nat.sub_zero]
    · rw [ends.raised]
      exact raised_has _ _
    · exact job.trans (by rw [drive])
    · exact changesOnly_trans (changesOnly_mono ends.frame (by simp [saleParts])) settles.frame
  · intro seen got
    obtain ⟨m, vacates, gives⟩ := giveUp_vacates .skipped current matrix claims unit
    have skipped := skipped_of_vacates seen .skipped sound (current?_of_mem sound ho current) held empty vacates
    rw [← gives] at skipped
    obtain ⟨found, lane, active, off, pos, free, ended, frame⟩ := skipped
    obtain ⟨l', hl', stock, base, reserved⟩ := lane l hl
    obtain ⟨delivered, residue, charged, state, cause⟩ := givenUp_record seen .skipped current owes
    exact ⟨_, _, l', exec_skipOrder h sound.2.1 ho tagged (current_live current) rfl, rfl, found, delivered, residue,
      charged, state, cause, hl', stock, base, reserved, active, off, pos, claimsOf_zero.1 free, ended, frame⟩
  · have all := cleared_clearsAll sound
    have tags : tagsDistinct (cleared s.dev).queue := by rw [tagsDistinct, all.tags]; exact sound.2.1
    have settles := conclude_settles s.dev.queue (cleared s.dev)
    refine ⟨(s.withDev ((cleared s.dev).conclude s.dev.queue)).replied .ok (u8 s.dev.queue.liveCount),
      congrArg Host.Outcome.next (request_taken h clearQueue), rfl,
      saleSteps_held (conclude_steps _ _) all.held, settles.tags.trans all.tags, settles.all_ended tags all.past,
      fun o ho past => settles.kept tags (all.kept o ho past) past, fun o ho queued => ?_, fun live => ?_,
      changesOnly_trans all.frame settles.frame⟩
    · rw [← close_queued queued]
      exact settles.kept tags (all.cancelled o ho queued) (close_live o .cleared)
    · obtain ⟨o, ho, hl⟩ := List.any_eq_true.1 live
      exact settles.conditions _ (all.ended o ho hl)

end Sys2Proof.Proofs
end

section
/-! SUPPORT. The cam's levels and turns, and what a unit reported at a turn leaves. -/
namespace Sys2Proof.Proofs

open Sys2Proof.Machine Sys2Proof.Laws

-- One proof at a time: together they wait for the kernel in a thread each, and the memory limit is met.
set_option Elab.async false

/-! ### The cam's levels (R27, R29) -/

theorem exec_camLineEdge {s : State} {level : CamLevel} (new : level ≠ s.dev.drive.camLine) :
    exec (.camLineEdge level) s = .next (s.withDev { s.dev with drive := { s.dev.drive with
      camLine := level
      camTimer := if s.dev.drive.energized.isSome ∧ s.dev.drive.camConfirmed ≠ some level then some (s.dev.now + 20)
                  else none } }) := by
  show Host.Outcome.next (s.ungatedEvent (Device.camLineEdge level)) = _
  simp only [State.ungatedEvent, Device.camLineEdge, if_neg new, Bool.and_eq_true, bne_iff_ne]
  rfl

/-- R27: the clock has reached the level's time, and the level is the confirmed one. -/
def confirmed (due : Nat) (d : Device) : Device :=
  { d with now := max d.now due, drive := { d.drive with camConfirmed := some d.drive.camLine, camTimer := none } }

theorem exec_camConfirm {s : State} {due : Nat} (awake : s.awake) (timer : s.dev.drive.camTimer = some due) :
    exec .camConfirm s = .next (s.withDev ((confirmed due s.dev).camSeen due s.dev.drive.camLine)) := by
  show Host.Outcome.next (s.event Device.camConfirm) = _
  rw [event_awake awake, Device.camConfirm, timer]
  rfl

/-- R27: without a TURNING job a level means nothing. -/
theorem camSeen_idle {d : Device} (idle : ∀ j, d.drive.active = some j → j.phase ≠ .turning) (at_ : Nat)
    (level : CamLevel) : d.camSeen at_ level = d := by
  unfold Device.camSeen
  split
  · rfl
  next j hj =>
    split
    · exact absurd (by assumption) (idle j hj)
    · exact absurd (by assumption) (idle j hj)
    · rfl

theorem camSeen_opened {d : Device} {j : ActiveJob} {n : Fin 64} {tag : Nat} (hj : d.drive.active = some j)
    (turning : j.phase = .turning) (job : j.job = .unitDrive n tag) (at_ : Nat) :
    d.camSeen at_ .opened = d.updateJob (·.camOpened at_ d.drive.turnMs) := by
  simp only [Device.camSeen, hj, turning, job]

theorem camSeen_closed {d : Device} {j : ActiveJob} {n : Fin 64} {tag opened : Nat} (hj : d.drive.active = some j)
    (turning : j.phase = .turning) (job : j.job = .unitDrive n tag) (open_ : j.openedAt = some opened) (at_ : Nat) :
    d.camSeen at_ .closed = d.completeTurn at_ opened n tag j := by
  simp only [Device.camSeen, hj, turning, job, open_]

/-- R27: the first opening ends the departure check. -/
theorem camOpened_departs {j : ActiveJob} (departs : j.departureTimer.isSome = true) (at_ limit : Nat) :
    j.camOpened at_ limit =
      { j with departureTimer := none, turnTimer := some (at_ + limit), openedAt := some at_ } := if_pos departs

/-- R29: on an off-home turn the open time counts from the energizing when the opening follows it closely. -/
theorem camOpened_first {j : ActiveJob} (departed : j.departureTimer = none) (shut : j.openedAt = none) (at_ limit : Nat) :
    j.camOpened at_ limit = { j with
      openedAt := some (if j.offHomeTurn = true ∧ at_ ≤ j.energizedAt + 20 then j.energizedAt else at_) } := by
  simp only [ActiveJob.camOpened, departed, shut, Option.isSome_none, Bool.false_eq_true, if_false, Bool.and_eq_true,
    decide_eq_true_eq, show Config.offHomeOpenMs = 20 from rfl]
  split <;> rfl

/-- R27, R29: what an opening makes of a TURNING unit drive. -/
theorem exec_camConfirm_opened {s : State} {due : Nat} {j k : ActiveJob} {n : Fin 64} {tag : Nat} (awake : s.awake)
    (timer : s.dev.drive.camTimer = some due) (hj : s.dev.drive.active = some j) (turning : j.phase = .turning)
    (job : j.job = .unitDrive n tag) (level : s.dev.drive.camLine = .opened)
    (opens : j.camOpened due s.dev.drive.turnMs = k) :
    exec .camConfirm s = .next (s.withDev { confirmed due s.dev with drive :=
      { (confirmed due s.dev).drive with active := some k } }) := by
  rw [exec_camConfirm awake timer, level, camSeen_opened (d := confirmed due s.dev) hj turning job, Device.updateJob]
  show Host.Outcome.next (s.withDev { confirmed due s.dev with drive :=
      { (confirmed due s.dev).drive with active := s.dev.drive.active.map (·.camOpened due s.dev.drive.turnMs) } }) = _
  rw [hj, Option.map_some, opens]

/-! ### A turn (R28, R31) -/

/-- R28: a lane's record after a turn. -/
def turnedLane (opened at_ : Nat) (l : Lane) : Lane :=
  { l with lastTurn := some (openCamMs opened at_), offHome := false }

/-- R28: the turn counted, the level CLOSED having been confirmed. -/
def turned (due opened : Nat) (n : Fin 64) (l : Lane) (j : ActiveJob) (d : Device) : Device :=
  Device.setSlot n (some (turnedLane opened due l)) { confirmed due d with drive :=
    { (confirmed due d).drive with active := some (j.countTurn due d.drive.turnMs) } }

section turn

variable {s : State} {due opened : Nat} {n : Fin 64} {l : Lane} {j : ActiveJob} {d : Device}

theorem turned_lane : (turned due opened n l j d).lane? n = some (turnedLane opened due l) := by
  rw [turned, lane?_setSlot, if_pos rfl]

theorem turned_frame : d.changesOnly [.clock, .table, .drive] (turned due opened n l j d) :=
  fun p hp => by cases p <;> first | rfl | simp at hp

theorem turned_claims (hj : d.drive.active = some j) (claims : d.driveClaims) :
    (turned due opened n l j d).driveClaims := by
  refine driveClaims_of_core (d := d) ?_ rfl rfl claims
  simp only [driveCore, hj]
  rfl

/-- R28: a closing after an opening completes a turn. -/
theorem exec_camConfirm_turn {tag : Nat} (awake : s.awake) (timer : s.dev.drive.camTimer = some due)
    (hj : s.dev.drive.active = some j) (turning : j.phase = .turning) (job : j.job = .unitDrive n tag)
    (level : s.dev.drive.camLine = .closed) (open_ : j.openedAt = some opened) (hl : s.dev.lane? n = some l) :
    exec .camConfirm s = .next (s.withDev
      ((turned due opened n l j s.dev).decideTurn due n tag (j.countTurn due s.dev.drive.turnMs))) := by
  have counts : ((confirmed due s.dev).updateLane n (turnedLane opened due)).updateJob
      (fun _ => j.countTurn due s.dev.drive.turnMs) = turned due opened n l j s.dev := by
    rw [updateLane_some (d := confirmed due s.dev) hl, Device.updateJob]
    show { Device.setSlot n _ (confirmed due s.dev) with drive := { (confirmed due s.dev).drive with
      active := s.dev.drive.active.map fun _ => j.countTurn due s.dev.drive.turnMs } } = _
    rw [hj]
    rfl
  rw [exec_camConfirm awake timer, level, camSeen_closed (d := confirmed due s.dev) hj turning job open_, ← counts]
  rfl

end turn

section decide

variable {d : Device} {k : ActiveJob} (at_ : Nat) (n : Fin 64) (tag : Nat)

/-- R31: the unit's motors stopped: it ends when its drop was seen, and enters WINDOW when not. -/
def unitLeft (k : ActiveJob) (d : Device) : Device :=
  if k.dropSeen then (d.stopWork n).endJob else (d.stopWork n).updateJob (·.toWindow at_ d.drive.windowMs)

theorem decideTurn_turns (unseen : k.dropSeen = false) (more : k.turnCount < k.turnTarget) :
    d.decideTurn at_ n tag k = d := by
  rw [Device.decideTurn, unseen, if_neg (by simp), if_pos more]

theorem decideTurn_extra (unseen : k.dropSeen = false) (done : k.turnTarget ≤ k.turnCount)
    (required : k.dropCheck = .required) (may : k.extraCount < k.extraTurns) :
    d.decideTurn at_ n tag k = d.updateJob ActiveJob.addExtra := by
  rw [Device.decideTurn, unseen, if_neg (by simp), if_neg (Nat.not_lt.2 done), required, if_neg (by simp), if_pos may]

theorem decideTurn_window (unseen : k.dropSeen = false) (done : k.turnTarget ≤ k.turnCount)
    (required : k.dropCheck = .required) (spent : k.extraTurns ≤ k.extraCount) :
    d.decideTurn at_ n tag k = unitLeft at_ n k d := by
  rw [Device.decideTurn, unitLeft, unseen, if_neg (by simp), if_neg (Nat.not_lt.2 done), required, if_neg (by simp),
    if_neg (Nat.not_lt.2 spent), if_neg (by simp)]

theorem decideTurn_reports
    (reports : k.dropSeen = true ∨ (k.turnTarget ≤ k.turnCount ∧ k.dropCheck = .notRequired)) :
    d.decideTurn at_ n tag k = ((unitLeft at_ n k d).unitDelivered tag).startUnit.conclude d.queue := by
  by_cases seen : k.dropSeen = true
  · rw [Device.decideTurn, unitLeft, if_pos seen, if_pos seen]
  · obtain ⟨done, free⟩ := reports.resolve_left seen
    rw [Device.decideTurn, unitLeft, if_neg seen, if_neg (Nat.not_lt.2 done), if_pos free, if_neg seen]

end decide

/-! ### A unit whose motors stop with the cam closed (R26, R27) -/

/-- The drive off, its active job as named. -/
def standing (a : Option ActiveJob) (v : Drive) : Drive :=
  { v with active := a, energized := none, rows := 0, cols := 0, camConfirmed := none, camTimer := none }

/-- The drive stands, without a claim, and the lanes and the queue are as they were. -/
structure Stands (a : Option ActiveJob) (d m : Device) : Prop where
  frame : d.changesOnly (.table :: grantParts) m
  lanes : ∀ x, m.lane? x = d.lane? x
  drive : m.drive = standing a d.drive
  free : m.load.claimsOf .drive = 0

theorem stopWork_stands {d : Device} {k : ActiveJob} (n : Fin 64) (claims : d.driveClaims)
    (hk : d.drive.active = some k) (turning : k.phase = .turning) (shut : d.drive.camConfirmed = some .closed) :
    Stands (some k) d (d.stopWork n) where
  frame := stopWork_frame n d
  lanes x := by
    have home : stoppedLane d = id := funext fun l => by
      rw [stoppedLane, shut, decide_eq_false (by simp), Bool.or_false]
      rfl
    rw [stopWork_lane, home, Option.map_id]
    split
    next e => rw [e]; rfl
    · rfl
  drive := by rw [stopWork_drive n claims hk turning, standing, ← hk]
  free := stopWork_unclaimed n claims hk turning

theorem Stands.endJob {a : Option ActiveJob} {d m : Device} (h : Stands a d m) : Stands none d m.endJob where
  frame := changesOnly_trans h.frame fun p hp => by cases p <;> first | rfl | simp [grantParts] at hp
  lanes := h.lanes
  drive := congrArg (fun v : Drive => { v with active := none }) h.drive
  free := h.free

theorem Stands.updateJob {k : ActiveJob} {d m : Device} (h : Stands (some k) d m) (f : ActiveJob → ActiveJob) :
    Stands (some (f k)) d (m.updateJob f) where
  frame := changesOnly_trans h.frame fun p hp => by cases p <;> first | rfl | simp [grantParts] at hp
  lanes := h.lanes
  drive := congrArg (fun v : Drive => { v with active := v.active.map f }) h.drive
  free := h.free

/-- R31: the job of a unit whose motors have stopped. -/
def leftJob (at_ window : Nat) (k : ActiveJob) : Option ActiveJob :=
  if k.dropSeen then none else some (k.toWindow at_ window)

theorem unitLeft_stands {d : Device} {k : ActiveJob} (at_ : Nat) (n : Fin 64) (claims : d.driveClaims)
    (hk : d.drive.active = some k) (turning : k.phase = .turning) (shut : d.drive.camConfirmed = some .closed) :
    Stands (leftJob at_ d.drive.windowMs k) d (unitLeft at_ n k d) := by
  have stands := stopWork_stands n claims hk turning shut
  unfold leftJob unitLeft
  split
  · exact stands.endJob
  · exact stands.updateJob _

/-! ### A unit reported at a turn (R31, R57, R60) -/

/-- R57, R60: the order credited with the unit, beside a drive that stands. -/
structure Credited (o : Order) (a : Option ActiveJob) (d e : Device) : Prop where
  frame : d.changesOnly saleParts e
  found : e.queue.find? o.tag = some (creditUnit o)
  pos : e.queue.unitPos = .none
  lane : ∀ l, d.lane? o.lane = some l → e.lane? o.lane = some (deliverLane l)
  drive : e.drive = standing a d.drive
  free : e.load.claimsOf .drive = 0

theorem Delivers.credited {o : Order} {a : Option ActiveJob} {d m f : Device} (h : Delivers o m f) (stands : Stands a d m)
    (sound : d.queue.sound) (ho : o ∈ d.queue.orders) : Credited o a d f := by
  have queue : m.queue = d.queue := stands.frame .queue (by simp [grantParts])
  have drive : f.drive = m.drive := h.frame .drive (by simp)
  have load : f.load = m.load := h.frame .load (by simp)
  have tags : tagsDistinct f.queue := by
    rw [tagsDistinct, h.orders, queue]
    exact tagsDistinct_changeTag creditUnit_tag sound.2.1
  refine ⟨?_, ?_, h.pos, fun l hl => ?_, drive.trans stands.drive, by rw [load]; exact stands.free⟩
  · exact changesOnly_trans (changesOnly_mono stands.frame (by simp [saleParts, grantParts]))
      (changesOnly_mono h.frame (by simp [saleParts]))
  · rw [← creditUnit_tag o]
    exact find?_of_mem tags (h.member (by rw [queue]; exact ho))
  · rw [h.lanes, if_pos rfl, stands.lanes, hl]
    rfl

theorem startUnit_shut {d : Device} (shut : d.gatesOpen = false) : d.startUnit = d := by
  unfold Device.startUnit
  split
  · rfl
  · rw [shut, Bool.and_false, if_neg (by simp)]

/-- R56, R60: a unit delivered with nothing to start: the next unit waits, or the order ends and no head follows. -/
theorem delivered_rests {d m : Device} {o : Order} {a : Option ActiveJob} (stands : Stands a d m) (sound : d.queue.sound)
    (hc : d.queue.current? = some o) (owes : o.delivered < o.quantity) (empty : d.drive.jobs = [])
    (waits : o.delivered + 1 < o.quantity → o.state = .halted ∨ d.gatesOpen = false)
    (ends : o.delivered + 1 = o.quantity →
      d.queue.state = .held ∨ o.holdAfter = true ∨ d.queue.head? = none ∨ d.gatesOpen = false) :
    let e := (m.unitDelivered o.tag).startUnit.conclude d.queue
    Credited o a d e ∧
      (o.delivered + 1 = o.quantity → e.queue.current? = none ∧ e.conditions.has .orderEnded = true) := by
  intro e
  have queue : m.queue = d.queue := stands.frame .queue (by simp [grantParts])
  have sound' : m.queue.sound := by rw [queue]; exact sound
  have hc' : m.queue.current? = some o := by rw [queue]; exact hc
  have delivers := unitDelivered_delivers sound'.2.1 (currentWith_of hc')
  have raises := unitDelivered_raises sound'.2.1 hc'
  have credited := delivers.credited stands sound (current?_mem hc).1
  have gates : (m.unitDelivered o.tag).gatesOpen = d.gatesOpen :=
    gatesOpen_of_inputs (credited.frame .inputs (by simp [saleParts, grantParts]))
  have rests : (m.unitDelivered o.tag).startUnit = m.unitDelivered o.tag ∧ Startless (m.unitDelivered o.tag) := by
    cases shut : d.gatesOpen with
    | false => exact ⟨startUnit_shut (gates.trans shut), Or.inr (gates.trans shut)⟩
    | true =>
      refine ⟨delivers.startUnit sound' hc' owes fun more => (waits more).resolve_right (by simp [shut]),
        Or.inl (delivers.noHead sound' hc' owes ?_)⟩
      rw [queue]
      rcases Nat.lt_or_eq_of_le (Nat.succ_le_of_lt owes) with more | last
      · exact Or.inr (Or.inr (Or.inr more))
      · rcases ends last with held | after | none | closed
        · exact Or.inl held
        · exact Or.inr (Or.inl after)
        · exact Or.inr (Or.inr (Or.inl none))
        · exact absurd (shut.symm.trans closed) (by simp)
  have whole : e = (m.unitDelivered o.tag).conclude d.queue := by rw [← rests.1]
  have no_current := delivers.no_current sound' hc'
  generalize m.unitDelivered o.tag = f at *
  obtain ⟨idles, unclaimed⟩ := conclude_idles d.queue (fun _ => by rw [credited.drive]; exact empty) rests.2
  have settles := conclude_settles d.queue f
  rw [← whole] at idles unclaimed settles
  obtain ⟨drive, free⟩ := unclaimed credited.free
  refine ⟨⟨changesOnly_trans credited.frame settles.frame, ?_, ?_, fun l hl => ?_, drive.trans credited.drive, free⟩,
    fun last => ⟨?_, settles.conditions _ (raises last)⟩⟩
  · rw [idles.queue]; exact credited.found
  · rw [idles.queue]; exact credited.pos
  · rw [lane?_of_table idles.table]; exact credited.lane l hl
  · rw [idles.queue]; exact no_current last

/-- R56: a unit delivered and the next one posted. -/
theorem delivered_posts {d m : Device} {o : Order} {a : Option ActiveJob} (stands : Stands a d m) (sound : d.queue.sound)
    (hc : d.queue.current? = some o) (driving : o.state = .driving) (more : o.delivered + 1 < o.quantity)
    (gates : d.gatesOpen = true) :
    ∃ f, Credited o a d f ∧
      (m.unitDelivered o.tag).startUnit.conclude d.queue = (postUnit o.credit f).takeFrom d.queue := by
  have queue : m.queue = d.queue := stands.frame .queue (by simp [grantParts])
  have sound' : m.queue.sound := by rw [queue]; exact sound
  have hc' : m.queue.current? = some o := by rw [queue]; exact hc
  obtain ⟨ho, -⟩ := current?_mem hc'
  have delivers := unitDelivered_delivers sound'.2.1 (currentWith_of hc')
  have credited := delivers.credited stands sound (current?_mem hc).1
  generalize m.unitDelivered o.tag = f at *
  have goes : creditUnit o = o.credit := creditUnit_more more
  have drives : o.credit.state = .driving := driving
  have current : f.queue.current? = some o.credit := by
    rw [← goes]
    exact current?_of_mem (delivers.queue_sound sound' hc') (delivers.member ho) (by rw [goes, drives]; rfl)
  have open_ : f.gatesOpen = true :=
    (gatesOpen_of_inputs (credited.frame .inputs (by simp [saleParts, grantParts]))).trans gates
  have unended : d.queue.endedSince (postUnit o.credit f).queue = [] := by
    refine endedSince_changeTag (f := creditUnit) sound.2.1 (tag := o.tag) ?_ fun x hx tag => ?_
    · rw [← queue]
      exact delivers.orders
    · rw [eq_of_tag sound.2.1 hx (current?_mem hc).1 tag, goes, drives]
      rfl
  exact ⟨f, credited, by rw [startUnit_posts current drives delivers.pos more open_, conclude_unended unended]⟩

/-- R60: the record of an order that its last unit has ended. -/
theorem creditUnit_completed {o : Order} (current : o.state.current = true) (last : o.delivered + 1 = o.quantity) :
    creditUnit o = { o with state := .delivered, delivered := o.quantity, charged := o.charged + o.price, residue := 0
                            cause := some .completed } := by
  have started : o.state ≠ .queued := fun queued => absurd current (by rw [queued]; simp [OrderState.current])
  simp only [creditUnit, last, if_true, Order.close, Order.endState, Order.credit, started, if_false, Nat.sub_self]

end Sys2Proof.Proofs
end

section
/-! SUPPORT. Motor-current samples, and the rule of the cam's edges. -/
namespace Sys2Proof.Proofs

open Sys2Proof.Machine Sys2Proof.Laws

-- One proof at a time: together they wait for the kernel in a thread each, and the memory limit is met.
set_option Elab.async false

/-! ### Motor-current samples (R34, R40, R157) -/

/-- The device when a conversion's sample goes to its block: the clock has reached its end, and the scanner is as named. -/
def atSample (ends : Nat) (c : Scanner) (d : Device) : Device := { d.reach ends with scanner := c }

theorem atSample_frame (ends : Nat) (c : Scanner) (d : Device) : d.changesOnly [.clock, .scanner] (atSample ends c d) :=
  fun p hp => by cases p <;> first | rfl | simp at hp

/-- R156, R157: the end of a motor-current conversion is its sample, between changes of the scanner. -/
theorem exec_conversionEnd_motor {s : State} {k : Conversion} (reading : Nat) (awake : s.awake)
    (converting : s.dev.scanner.converting = some k) (motor : k.channel = 6) :
    ∃ before after, exec (.conversionEnd reading) s = .next (s.withDev
      { Device.motorSample k.ends (judgeUpTo 3000 reading) (atSample k.ends before s.dev) with scanner := after }) := by
  let before : Scanner := { s.dev.scanner with
    converting := none
    boxes := put s.dev.scanner.boxes 6 (s.dev.scanner.boxes[(6 : Fin 8)].store (judgeUpTo 3000 reading)) }
  let m := Device.motorSample k.ends (judgeUpTo 3000 reading) (atSample k.ends before s.dev)
  refine ⟨before, m.scanner.next m.now k, ?_⟩
  show Host.Outcome.next (s.event (Device.conversionEnd reading)) = _
  rw [event_awake awake]
  simp only [Device.conversionEnd, converting, motor]
  rfl

theorem lowRunAfter_judged (reading run : Nat) :
    lowRunAfter (judgeUpTo 3000 reading) run = if reading < 40 then run + 1 else 0 := by
  unfold judgeUpTo
  split
  · show (if (reading : Int) < 40 then run + 1 else 0) = _
    simp only [show ((reading : Int) < 40) = (reading < 40) from propext (by omega)]
  next high => rw [if_neg (by omega)]; rfl

theorem isPass_judged (reading : Nat) (companion : Option (Fin 64)) :
    isPass companion (judgeUpTo 3000 reading) = decide (40 * (if companion.isSome then 2 else 1) ≤ reading) := by
  unfold judgeUpTo
  split
  · show decide ((if companion.isSome then 2 * (40 : Int) else 40) ≤ (reading : Int)) = _
    refine decide_eq_decide.2 ?_
    split <;> omega
  next high =>
    refine (decide_eq_true ?_).symm
    split <;> omega

/-- A change of the active job alone, its record. -/
theorem updateJob_active {d : Device} {j : ActiveJob} (hj : d.drive.active = some j) (f : ActiveJob → ActiveJob) :
    d.updateJob f = { d with drive := { d.drive with active := some (f j) } } := by
  rw [Device.updateJob, hj]
  rfl

section sample

variable {d : Device} {j : ActiveJob} {at_ : Nat}

/-- R34: a sample before the motor has settled is not judged. -/
theorem motorSample_early (sample : Sample) (hj : d.drive.active = some j) (early : at_ < j.energizedAt + 50) :
    d.motorSample at_ sample = d := by
  simp only [Device.motorSample, hj]
  exact if_neg (Nat.not_le.2 early)

/-- R34: of a TURNING job the run of low samples is kept, and a long one is an open motor. -/
theorem motorSample_turning {run reading : Nat} (hj : d.drive.active = some j) (settled : j.energizedAt + 50 ≤ at_)
    (turning : j.phase = .turning) (counts : (if reading < 40 then j.lowRun + 1 else 0) = run) :
    d.motorSample at_ (judgeUpTo 3000 reading) =
      let e : Device := { d with drive := { d.drive with active := some { j with lowRun := run } } }
      if 10 ≤ run then e.unitFault .motorOpen else e := by
  have judged := (lowRunAfter_judged reading j.lowRun).trans counts
  simp only [Device.motorSample, hj, turning, judged, updateJob_active hj]
  exact if_pos settled

/-- R34, R58: the run long enough, the unit ends with an open motor. -/
theorem motorSample_opens {o : Order} {l : Lane} {run reading : Nat} (hj : d.drive.active = some j)
    (settled : j.energizedAt + 50 ≤ at_) (turning : j.phase = .turning)
    (counts : (if reading < 40 then j.lowRun + 1 else 0) = run) (many : 10 ≤ run) (unseen : j.dropSeen = false)
    (unmarked : j.supplyMark = false) (sound : d.queue.sound) (hc : d.queue.current? = some o)
    (job : j.job = .unitDrive o.lane o.tag) (hl : d.lane? o.lane = some l) (owes : o.delivered < o.quantity) :
    Faults .motorOpen o l d (d.motorSample at_ (judgeUpTo 3000 reading)) := by
  rw [motorSample_turning hj settled turning counts]
  let e : Device := { d with drive := { d.drive with active := some { j with lowRun := run } } }
  show Faults .motorOpen o l d (if 10 ≤ run then e.unitFault .motorOpen else e)
  rw [if_pos many]
  obtain ⟨frame, closed, lane, changed, ended, balance⟩ :=
    unitFault_faults (d := e) .motorOpen sound.2.1 rfl job unseen unmarked hc hl owes
  refine ⟨changesOnly_trans (b := e) ?_ frame, closed, lane, changed, ended, balance⟩
  exact fun p hp => by cases p <;> first | rfl | simp [saleParts, grantParts] at hp

/-- R40: the pulse's mark. -/
theorem motorSample_pulse {reading : Nat} (hj : d.drive.active = some j) (settled : j.energizedAt + 50 ≤ at_)
    (pulse : j.phase = .pulse) : d.motorSample at_ (judgeUpTo 3000 reading) =
      { d with drive := { d.drive with active := some { j with
        passSeen := j.passSeen || 40 * (if j.companion.isSome then 2 else 1) ≤ reading } } } := by
  simp only [Device.motorSample, hj, pulse, isPass_judged, updateJob_active hj]
  exact if_pos settled

end sample

/-- What a sample changes, between changes of the scanner and after the clock has reached the conversion's end. -/
theorem sampled_frame {ps : List Part} {ends : Nat} {before : Scanner} {d e : Device} (after : Scanner)
    (h : (atSample ends before d).changesOnly ps e) :
    d.changesOnly (.clock :: .scanner :: ps) { e with scanner := after } := by
  refine changesOnly_trans (changesOnly_mono (atSample_frame ends before d) (by simp)) ?_
  refine changesOnly_trans (changesOnly_mono h fun p hp => List.mem_cons_of_mem _ (List.mem_cons_of_mem _ hp)) ?_
  exact fun p hp => by cases p <;> first | rfl | simp at hp

/-! ### The turn's outcomes (R31) -/

theorem gatesOpen_shut {d : Device} (h : d.onRef .door = false ∨ d.onRef .flap = false) : d.gatesOpen = false := by
  rw [Device.gatesOpen, Bool.and_eq_false_iff]
  exact h

theorem frame_turned {s : State} {due opened : Nat} {n : Fin 64} {l : Lane} {j : ActiveJob} {ps : List Part} {e : Device}
    (drive : Part.drive ∈ ps) (table : Part.table ∈ ps) (h : (turned due opened n l j s.dev).changesOnly ps e) :
    s.frame (.clock :: ps) (s.withDev e) := by
  refine ⟨rfl, rfl, changesOnly_trans (changesOnly_mono turned_frame fun p hp => ?_)
    (changesOnly_mono h fun p hp => List.mem_cons_of_mem _ hp)⟩
  simp only [List.mem_cons, List.not_mem_nil, or_false] at hp
  rcases hp with rfl | rfl | rfl
  · exact List.mem_cons_self
  · exact List.mem_cons_of_mem _ table
  · exact List.mem_cons_of_mem _ drive

/-- What the posting and the taking of an order's next unit leave: taken when the drive is free, listed behind the unit
in its window when not. -/
structure NextUnit (o : Order) (l : Lane) (a : Option ActiveJob) (d e : Device) : Prop where
  frame : d.changesOnly saleParts e
  found : e.queue.find? o.tag = some o.credit
  pos : e.queue.unitPos = .posted
  lane : e.lane? o.lane = some (deliverLane l)
  taken : a = none → e.drive.jobs = [] ∧
    ∃ u, e.drive.active = some u ∧ Goes (newJob (.unitDrive o.lane o.tag) (deliverLane l)) u ∧
      unitClaim (.unitDrive o.lane o.tag) l.companion ∈ e.load.grants ++ e.load.waiters
  listed : ∀ w, a = some w → e.drive = { standing a d.drive with jobs := [.unitDrive o.lane o.tag] } ∧
    e.load.claimsOf .drive = 0

theorem delivered_next {d m : Device} {o : Order} {l : Lane} {a : Option ActiveJob} (stands : Stands a d m)
    (sound : d.queue.sound) (hc : d.queue.current? = some o) (driving : o.state = .driving)
    (more : o.delivered + 1 < o.quantity) (empty : d.drive.jobs = []) (gates : d.gatesOpen = true)
    (hl : d.lane? o.lane = some l) (service : l.base = .inService) (fresh : l.spoiled = false) (kept : l.held = false)
    (stocked : l.reserved ≤ l.stock) :
    NextUnit o l a d ((m.unitDelivered o.tag).startUnit.conclude d.queue) := by
  obtain ⟨f, credited, whole⟩ := delivered_posts stands sound hc driving more gates
  rw [whole]
  let p := postUnit o.credit f
  have jobs : f.drive.jobs ++ [Job.unitDrive o.lane o.tag] = [.unitDrive o.lane o.tag] := by
    rw [credited.drive, standing, empty]
    rfl
  have drive : p.drive = { standing a d.drive with jobs := [.unitDrive o.lane o.tag] } := by
    show { f.drive with jobs := f.drive.jobs ++ [Job.unitDrive o.lane o.tag] } = _
    rw [jobs, credited.drive]
  have frame : d.changesOnly saleParts p := changesOnly_trans credited.frame
    fun x hx => by cases x <;> first | rfl | simp [saleParts, grantParts] at hx
  have found : p.queue.find? o.tag = some o.credit := by rw [← creditUnit_more more]; exact credited.found
  have lane : p.lane? o.lane = some (deliverLane l) := credited.lane l hl
  cases a with
  | some w =>
    have rests : p.takeFrom d.queue = p := takeLoop_active (j := w) (by rw [drive]; rfl) _ _ _
    rw [show (postUnit o.credit f).takeFrom d.queue = p from rests]
    exact ⟨frame, found, rfl, lane, fun h => absurd h (by simp), fun _ _ => ⟨drive, credited.free⟩⟩
  | none =>
    have sells : (deliverLane l).unsellable 1 1 = none :=
      unsellable_none_iff.2 ⟨service, fresh, kept, by show 1 + (l.reserved - 1) ≤ l.stock - 1 + 1; omega⟩
    have takes := takeFrom_takesUnit d.queue (d := p) (by rw [drive]; rfl) (by rw [drive]) lane sells
    have queue : (p.takeFrom d.queue).queue = p.queue := takes.frame .queue (by simp [grantParts])
    have table : (p.takeFrom d.queue).table = p.table := takes.frame .table (by simp [grantParts])
    obtain ⟨u, hu, goes⟩ := takes.active
    refine ⟨changesOnly_trans frame (changesOnly_mono takes.frame (by simp [saleParts, grantParts])), ?_, ?_, ?_,
      fun _ => ⟨takes.jobs, u, hu, goes, takes.claim⟩, fun w h => absurd h (by simp)⟩
    · exact (congrArg (·.find? o.tag) queue).trans found
    · exact congrArg OrderQueue.unitPos queue
    · exact (lane?_of_table table _).trans lane

/-- Settles O49: each level, and each sample, goes by the job in the drive; a unit reported at a turn is credited beside a
drive that stands, and the event ends with nothing more or with the next unit posted. -/
theorem camEdgesCountTurns : Obligations.CamEdgesCountTurns := by
  refine ⟨fun s level new => exec_camLineEdge new, fun s due awake timer => ?_,
    fun s k j reading awake converting motor hj => ?_⟩
  swap
  · intro run motors
    obtain ⟨before, after, step⟩ := exec_conversionEnd_motor reading awake converting motor
    let d := atSample k.ends before s.dev
    refine ⟨_, step, fun early => ?_, fun settled turning few => ?_,
      fun settled turning many unseen unmarked o l sound hc job hl owes => ?_, fun settled pulse => ?_⟩
    · rw [motorSample_early (d := d) _ hj early]
      exact ⟨rfl, rfl, rfl, sampled_frame after (changesOnly_refl [] d)⟩
    · rw [motorSample_turning (d := d) (run := run) hj settled turning rfl]
      simp only [if_neg (Nat.not_le.2 few)]
      exact ⟨rfl, rfl, rfl, fun p hp => by cases p <;> first | rfl | simp at hp⟩
    · have faults := motorSample_opens (d := d) hj settled turning rfl many unseen unmarked sound hc job hl owes
      obtain ⟨r, off, lane⟩ := faults.lane
      exact ⟨faults.closed, ⟨_, lane, rfl, rfl, rfl⟩, faults.changed, faults.ended, rfl, rfl,
        changesOnly_mono (sampled_frame after faults.frame) (by simp [saleParts, grantParts])⟩
    · rw [motorSample_pulse (d := d) hj settled pulse]
      exact ⟨rfl, rfl, rfl, fun p hp => by cases p <;> first | rfl | simp at hp⟩
  intro now v limit window
  refine ⟨fun idle => ?_, fun j n tag hj turning job => ⟨fun level departs => ?_, fun level departed shut => ?_,
    fun l opened level open_ hl => ?_⟩⟩
  · rw [exec_camConfirm awake timer, camSeen_idle (d := confirmed due s.dev) idle]
    rfl
  · exact exec_camConfirm_opened awake timer hj turning job level (camOpened_departs departs _ _)
  · exact exec_camConfirm_opened awake timer hj turning job level (camOpened_first departed shut _ _)
  intro l' k
  let c := turned due opened n l j s.dev
  have step : exec .camConfirm s = .next (s.withDev (c.decideTurn due n tag k)) :=
    exec_camConfirm_turn awake timer hj turning job level open_ hl
  have shut : c.drive.camConfirmed = some .closed := congrArg some level
  have lane : c.lane? n = some l' := turned_lane
  have left (claims : s.dev.driveClaims) :=
    unitLeft_stands (d := c) (k := k) due n (turned_claims hj claims) rfl turning shut
  refine ⟨fun unseen more => ?_, fun unseen done required may => ?_, fun unseen done required spent claims => ?_,
    fun o sound hc ht hn more empty waits reports claims => ?_,
    fun o sound hc ht hn last empty ends reports claims => ?_,
    fun o sound hc ht hn driving more empty door flap service fresh kept stocked reports claims => ?_⟩
  · rw [step, decideTurn_turns due n tag (k := k) unseen more]
    rfl
  · rw [step, decideTurn_extra due n tag (k := k) unseen done required may]
    rfl
  · rw [decideTurn_window (k := k) due n tag unseen done required spent] at step
    have stands := left claims
    rw [leftJob, if_neg (by simp [k, unseen])] at stands
    refine ⟨_, step, (stands.lanes n).trans lane, ?_⟩
    have drive : (s.withDev (unitLeft due n k c)).dev.drive = _ := stands.drive
    rw [drive]
    exact ⟨rfl, rfl, rfl, rfl, claimsOf_zero.1 stands.free, frame_turned (by simp [grantParts]) (by simp) stands.frame⟩
  · subst ht hn
    rw [decideTurn_reports (k := k) due o.lane o.tag reports] at step
    obtain ⟨credited, -⟩ := delivered_rests (d := c) (left claims) sound hc (by omega) empty
      (fun _ => waits.imp_right gatesOpen_shut) (fun last => absurd last (Nat.ne_of_lt more))
    generalize ((unitLeft due o.lane k c).unitDelivered o.tag).startUnit.conclude c.queue = e at *
    refine ⟨_, step, credited.found.trans (congrArg some (creditUnit_more more)), credited.pos, credited.lane l' lane, ?_⟩
    have drive : (s.withDev e).dev.drive = _ := credited.drive
    rw [drive]
    exact ⟨rfl, rfl, rfl, rfl, claimsOf_zero.1 credited.free,
      frame_turned (by simp [saleParts, grantParts]) (by simp [saleParts]) credited.frame⟩
  · subst ht hn
    rw [decideTurn_reports (k := k) due o.lane o.tag reports] at step
    obtain ⟨credited, ended⟩ := delivered_rests (d := c) (left claims) sound hc (by omega) empty
      (fun more => absurd last (Nat.ne_of_lt more)) (fun _ => ends.imp_right (Or.imp_right (Or.imp_right gatesOpen_shut)))
    generalize ((unitLeft due o.lane k c).unitDelivered o.tag).startUnit.conclude c.queue = e at *
    obtain ⟨no_current, raised⟩ := ended last
    refine ⟨_, step, credited.found.trans (congrArg some (creditUnit_completed (current?_mem hc).2 last)), raised, no_current,
      credited.pos, credited.lane l' lane, ?_⟩
    have drive : (s.withDev e).dev.drive = _ := credited.drive
    rw [drive]
    exact ⟨rfl, rfl, rfl, empty, rfl, claimsOf_zero.1 credited.free,
      frame_turned (by simp [saleParts, grantParts]) (by simp [saleParts]) credited.frame⟩
  · subst ht hn
    rw [decideTurn_reports (k := k) due o.lane o.tag reports] at step
    have gates : c.gatesOpen = true := by
      show (s.dev.onRef .door && s.dev.onRef .flap) = true
      rw [door, flap]
      rfl
    have next := delivered_next (d := c) (left claims) sound hc driving more empty gates lane service fresh kept stocked
    generalize ((unitLeft due o.lane k c).unitDelivered o.tag).startUnit.conclude c.queue = e at *
    refine ⟨_, step, next.found, next.pos, next.lane, fun seen => ?_, fun unseen => ?_,
      frame_turned (by simp [saleParts, grantParts]) (by simp [saleParts]) next.frame⟩
    · obtain ⟨jobs, u, hu, goes, claim⟩ := next.taken (if_pos seen)
      refine ⟨jobs, u, hu, goes.job, goes.turnCount, goes.turnTarget, goes.dropSeen, goes.companion,
        goes.unit_phase rfl rfl, ?_⟩
      rw [goes.job]
      exact claim
    · have window : leftJob due c.drive.windowMs k = some (k.toWindow due c.drive.windowMs) :=
        if_neg (by simp [k, unseen])
      obtain ⟨drive, free⟩ := next.listed _ window
      rw [window] at drive
      have drive : (s.withDev e).dev.drive = _ := drive
      rw [drive]
      exact ⟨rfl, rfl, rfl, claimsOf_zero.1 free⟩

end Sys2Proof.Proofs
end

section
/-! SUPPORT. The reads of the machine, and what it is after reset. -/
namespace Sys2Proof.Proofs

open Sys2Proof.Machine Sys2Proof.Laws

-- One proof at a time: together they wait for the kernel in a thread each, and the memory limit is met.
set_option Elab.async false

/-! ### Reads on the records -/

/-- A read on the records that is taken. -/
theorem query_answers {s : State} (h : s.taking) {f : Device → Reply} {r : Reply} (answer : f s.dev = r) :
    Host.Outcome.next (φ := Fault) (ρ := Refusal) (s.query f) = .next (s.replied r.status r.body) := by
  rw [query_taken h, answer]

/-! ### Finding an order by its tag -/

/-- No order has a tag: none is found with it. -/
theorem find?_absent {q : OrderQueue} {tag : Nat} (absent : ∀ o ∈ q.orders, o.tag ≠ tag) : q.find? tag = none :=
  List.find?_eq_none.2 fun o ho => by simpa using absent o ho

/-! ### READ ORDER (R69) -/

theorem readOrder_zero (d : Device) : readOrder 0 d = reply .range [] := if_pos rfl

theorem readOrder_absent {d : Device} {tag : Nat} (named : tag ≠ 0) (absent : d.queue.find? tag = none) :
    readOrder tag d = reply .notFound [] := by
  rw [readOrder, if_neg named, absent]

theorem readOrder_found {d : Device} {o : Order} (named : o.tag ≠ 0) (found : d.queue.find? o.tag = some o) :
    readOrder o.tag d =
      reply .ok (orderBytes o ++ if o.state.current then u8 (unitPosCode d.queue.unitPos) else []) := by
  rw [readOrder, if_neg named, found]

/-! ### READ ZONE (R140) -/

/-- No zone but the two. -/
theorem readZone_range {zone : Nat} (beyond : 2 ≤ zone) (d : Device) : readZone zone d = reply .range [] := by
  rw [readZone, index, dif_neg (Nat.not_lt.2 beyond)]

theorem readZone_zone (z : Fin 2) (d : Device) : readZone z.val d = zoneReply z d := by
  rw [readZone, index_val]

/-! ### Every read -/

/-- Settles O16: each read is a query, answered from the records that the rule names; a zone or an order that there is
none of is refused. -/
theorem machineReadsCarryTheirRecords : Obligations.MachineReadsCarryTheirRecords := by
  intro s h d
  refine ⟨fun z => query_answers (f := readZone z.val) h (readZone_zone z d),
    fun zone beyond => query_answers (f := readZone zone) h (readZone_range beyond d),
    congrArg Host.Outcome.next (query_taken h compressorReply), congrArg Host.Outcome.next (query_taken h inputsReply),
    congrArg Host.Outcome.next (query_taken h loadReply),
    congrArg Host.Outcome.next (takeRequest_taken h fun s => (s, conditionsReply s)),
    congrArg Host.Outcome.next (takeRequest_taken h fun s => (s, identityReply s)),
    query_answers (f := readOrder 0) h (readOrder_zero d), fun tag named absent =>
      query_answers (f := readOrder tag) h (readOrder_absent named (find?_absent absent)), fun o named found =>
      query_answers (f := readOrder o.tag) h (readOrder_found named found)⟩

/-! ### After reset -/

theorem reset_unclaimed (who : Claimant) : State.reset.dev.load.claimsOf who = 0 := unclaimed rfl rfl who

/-- Settles O14: at reset nothing is enrolled, ordered, claimed or under way, and each table holds its default. -/
theorem resetMeetsEveryInvariant : Obligations.ResetMeetsEveryInvariant := by
  have zone (z : Fin 2) : State.reset.dev.zones[z] = Zone.default := get_replicate ..
  have box (c : Fin 8) : State.reset.dev.scanner.boxes[c] = { sample := none, fresh := false, overwritten := false } :=
    get_replicate ..
  have unenrolled {n : Fin 64} {l : Lane} (hl : State.reset.dev.lane? n = some l) : False :=
    absurd ((default_lane n).symm.trans hl) (by simp)
  have load : State.reset.dev.load.sound := ⟨Nat.zero_le _, fun _ => rfl⟩
  have queue : State.reset.dev.queue.sound := ⟨Nat.zero_le _, List.nodup_nil, Nat.zero_le _⟩
  have mask : State.reset.dev.maskSound := fun set => absurd rfl set
  have credit : State.reset.dev.creditSound := ⟨Nat.le_refl _, Nat.zero_le _, fun _ coin => nomatch coin⟩
  have matrix : State.reset.dev.drive.matrixSound := ⟨fun _ => ⟨rfl, rfl⟩, fun _ energized => nomatch energized⟩
  have list : State.reset.listSound := fun _ _ => rfl
  have drive : State.reset.dev.driveClaims := driveClaims_of_none (reset_unclaimed _)
  have payout : State.reset.dev.payoutClaims :=
    ⟨(reset_unclaimed _).trans_le (Nat.zero_le _), fun _ waits => absurd waits List.not_mem_nil,
      fun _ granted => absurd granted List.not_mem_nil⟩
  have compressor : State.reset.dev.compressorClaims := compressorClaims_of_none (reset_unclaimed _)
  have heater : State.reset.dev.heaterClaims := fun z =>
    ⟨(reset_unclaimed _).trans_le (Nat.zero_le _),
      fun claimed => absurd claimed (Nat.not_lt.2 (Nat.le_of_eq (reset_unclaimed _))), fun _ => by rw [zone]; rfl⟩
  have exposure : State.reset.dev.exposureSound := fun z => by rw [zone]; exact Nat.zero_le _
  have boxes : State.reset.dev.emptyBoxesClear := fun c _ => by rw [box]; exact ⟨rfl, rfl⟩
  have rest : State.reset.dev.compressor.restSound := fun left => absurd rfl left
  have motors : State.reset.dev.motorsSound := fun _ _ _ hl => (unenrolled hl).elim
  have units : State.reset.dev.unitsSound :=
    ⟨Nat.zero_le _, fun _ active => absurd active (by simp [State.reset, Device.default]),
      fun _ listed => absurd listed List.not_mem_nil⟩
  have lanes : State.reset.dev.lanesSound := ⟨fun _ _ hl => (unenrolled hl).elim,
    fun _ ordered => absurd ordered List.not_mem_nil⟩
  exact ⟨reset_mem_wf, load, queue, mask, credit, matrix, list, drive, payout, compressor, heater, exposure, boxes,
    rest, motors, default_tubes, units, lanes, rfl, rfl, rfl, rfl, rfl, rfl, rfl, rfl, rfl, rfl⟩

end Sys2Proof.Proofs
end

section
/-! SUPPORT. A placement that does not start, RETIRE ORDER, HOLD QUEUE and RESUME QUEUE. -/
namespace Sys2Proof.Proofs

open Sys2Proof.Machine Sys2Proof.Laws

-- One proof at a time: together they wait for the kernel in a thread each, and the memory limit is met.
set_option Elab.async false

/-! ### PLACE ORDER behind an order, or in a queue that cannot start (R53, R55) -/

/-- Settles O24: the checks pass, so the order joins the tail; the head stays, and from a list in order nothing is
taken. -/
theorem placeOrderReservesAndCommits : Obligations.PlaceOrderReservesAndCommits := by
  intro s p pay n l h list checks waits
  obtain ⟨-, -, -, -, -, -, picks, -⟩ := id checks
  obtain ⟨hl, -⟩ := picksLane_sells picks
  let o := orderOf p pay n l
  have startless : Startless (s.dev.placed o l) := by
    rcases waits with busy | held | door | flap
    · refine Or.inl (Or.inr (Or.inr ?_))
      show ((s.dev.queue.orders ++ [o]).find? (·.state.current)).isSome = true
      rw [List.find?_append, Option.isSome_or]
      exact Bool.or_eq_true_iff.2 (Or.inl busy)
    · exact Or.inl (Or.inl held)
    · exact Or.inr (gatesOpen_shut (Or.inl door))
    · exact Or.inr (gatesOpen_shut (Or.inr flap))
  have rests : (s.dev.placed o l).startHead.takeFrom s.dev.queue = s.dev.placed o l := by
    rw [startHead_startless startless]
    exact takeLoop_rests (d := s.dev.placed o l) list _ _ _
  show Host.Outcome.next (s.request (placeOrder p)) = _
  rw [request_taken h, placeOrder_passes checks, place_eq hl, rests]
  rfl

/-! ### RETIRE ORDER (R71) -/

/-- The orders that are not live: all but the live ones. -/
theorem length_filter_ended (q : OrderQueue) :
    (q.orders.filter fun o => !o.state.live).length = q.orders.length - q.liveCount := by
  have whole := List.length_eq_length_filter_add (l := q.orders) fun o => o.state.live
  rw [OrderQueue.liveCount]
  omega

/-- A request on the records that is refused: they stay. -/
theorem request_refused {s : State} (h : s.taking) {f : Device → Device × Reply} {status : Status}
    (refused : f s.dev = refuse status s.dev) :
    Host.Outcome.next (φ := Fault) (ρ := Refusal) (s.request f) = .next (s.replied status []) := by
  rw [request_taken h, refused]
  rfl

theorem retireOrder_found {d : Device} {o : Order} (named : o.tag ≠ 0) (found : d.queue.find? o.tag = some o) :
    retireOrder o.tag d = if o.state.live then refuse .notAllowed d else okay (d.keepOrders (·.tag ≠ o.tag)) := by
  rw [retireOrder, if_neg named, found]

theorem retireOrder_absent {d : Device} {tag : Nat} (named : tag ≠ 0) (absent : d.queue.find? tag = none) :
    retireOrder tag d = refuse .notFound d := by
  rw [retireOrder, if_neg named, absent]

/-- Settles O26: an ended order is filtered out by its tag, or all of them by their state; a live order and a tag that
no order has are refused. -/
theorem retireOrderFreesEndedSlots : Obligations.RetireOrderFreesEndedSlots := by
  intro s h
  refine ⟨fun o named found ended => ?_, ?_, fun o named found live => ?_, fun tag named absent => ?_⟩
  · refine request_okay (f := retireOrder o.tag) h ?_
    rw [retireOrder_found named found, ended]
    rfl
  · show Host.Outcome.next (s.request (retireOrder 0)) = _
    rw [request_taken h, retireOrder, if_pos rfl, length_filter_ended]
    rfl
  · refine request_refused (f := retireOrder o.tag) h ?_
    rw [retireOrder_found named found, if_pos live]
  · exact request_refused (f := retireOrder tag) h
      (retireOrder_absent named (find?_absent absent))

/-! ### HOLD QUEUE and RESUME QUEUE (R64) -/

/-- Settles O27: the state is set; a head that can start drives, and its unit joins the list of a drive that is busy. -/
theorem holdAndResumeQueue : Obligations.HoldAndResumeQueue := by
  intro s h list held running
  let d := s.dev.setQueueState .running
  refine ⟨request_okay (f := holdQueue) h rfl, fun waits => ?_, fun o j idle head door flap busy pos owes sound => ?_⟩
  · have startless : Startless d := by
      rcases waits with current | none | door | flap
      · exact Or.inl (Or.inr (Or.inr current))
      · exact Or.inl (Or.inr (Or.inl none))
      · exact Or.inr (gatesOpen_shut (Or.inl door))
      · exact Or.inr (gatesOpen_shut (Or.inr flap))
    have rests : d.startHead.takeFrom s.dev.queue = d := by
      rw [startHead_startless startless]
      exact takeLoop_rests (d := d) list _ _ _
    exact request_okay (f := resumeQueue) h (congrArg okay rests)
  · obtain ⟨ho, -⟩ := head?_mem head
    have gates : d.gatesOpen = true := by
      show (s.dev.onRef .door && s.dev.onRef .flap) = true
      rw [door, flap]
      rfl
    have sound' : (d.updateOrder o.tag drives).queue.sound :=
      sound_update (q := d.queue) (f := drives) sound ho (fun _ => rfl) fun _ => Or.inl idle
    have now : (d.updateOrder o.tag drives).queue.current? = some (drives o) :=
      current?_of_mem sound' (mem_changeTag.2 (Or.inr ⟨o, ho, rfl, rfl⟩)) rfl
    have posted : d.startHead = postUnit (drives o) (d.updateOrder o.tag drives) :=
      startHead_posts idle head rfl gates pos owes now
    have rests : d.startHead.takeFrom s.dev.queue = postUnit (drives o) (d.updateOrder o.tag drives) := by
      rw [posted]
      exact takeLoop_active (d := postUnit (drives o) (d.updateOrder o.tag drives)) busy _ _ _
    exact request_okay (f := resumeQueue) h (congrArg okay rests)

end Sys2Proof.Proofs
end

section
/-! SUPPORT. What leaves the order queue as it is: grants and claims, lanes, money and the payout engine, the coin link,
the compressor and the zones. -/
namespace Sys2Proof.Proofs

open Sys2Proof.Machine Sys2Proof.Laws

-- One proof at a time: together they wait for the kernel in a thread each, and the memory limit is met.
set_option Elab.async false

/-! ### Claims, lanes and motors -/

@[simp] theorem grantTest_queue (d : Device) : d.grantTest.queue = d.queue := (grantTest_idles d).queue

@[simp] theorem claim_queue (c : Claim) (d : Device) : (d.claim c).queue = d.queue :=
  claim_frame c d .queue (by simp [grantParts])

@[simp] theorem giveBack_queue (who : Claimant) (d : Device) : (d.giveBack who).queue = d.queue :=
  giveBack_frame who d .queue (by simp [grantParts])

@[simp] theorem withdraw_queue (who : Claimant) (d : Device) : (d.withdraw who).queue = d.queue :=
  withdraw_frame who d .queue (by simp [grantParts])

@[simp] theorem dropLoad_queue (who : Claimant) (d : Device) : (d.dropLoad who).queue = d.queue := by
  unfold Device.dropLoad
  split
  · exact giveBack_queue who d
  · exact withdraw_queue who d

@[simp] theorem updateLane_queue (n : Fin 64) (f : Lane → Lane) (d : Device) : (d.updateLane n f).queue = d.queue :=
  updateLane_frame n f d .queue (by simp)

@[simp] theorem changeLane_queue (n : Fin 64) (f : Lane → Lane) (d : Device) : (d.changeLane n f).queue = d.queue :=
  changeLane_frame n f d .queue (by simp)

@[simp] theorem stopMotors_queue (n : Fin 64) (d : Device) : (d.stopMotors n).queue = d.queue :=
  stopMotors_frame n d .queue (by simp)

/-- An expiry leaves the queue as its effect does. -/
theorem onExpiry_queue {t : Timer} {f : Nat → Device → Device} {d : Device}
    (h : ∀ due, (f due (d.reach due)).queue = d.queue) : (d.onExpiry t f).queue = d.queue := by
  unfold Device.onExpiry
  split
  · rfl
  next due => exact h due

theorem amendLoad_queue (a : LoadAmend) (d : Device) : (amendLoad a d).1.queue = d.queue := by
  simp only [amendLoad]
  split
  · rfl
  split
  · rfl
  · simp only [okay]
    split
    · exact grantTest_queue _
    · rfl

/-! ### Money and the payout engine -/

@[simp] theorem recomputeMask_queue (d : Device) : d.recomputeMask.queue = d.queue := rfl

@[simp] theorem recomputeIf_queue (b : Bool) (d : Device) : (d.recomputeIf b).queue = d.queue :=
  (recomputeIf_quiet b d).queue

@[simp] theorem setBalance_queue (n : Nat) (d : Device) : (d.setBalance n).queue = d.queue :=
  (setBalance_quiet n d).queue

@[simp] theorem markRefund_queue (k : RefundPending) (d : Device) : (d.markRefund k).queue = d.queue :=
  (markRefund_quiet k d).queue

@[simp] theorem makePlan_queue (kind : PlanKind) (req : Requested) (lines : List (Fin 6 × Nat)) (d : Device) :
    (d.makePlan kind req lines).queue = d.queue := (makePlan_idles kind req lines d).queue

@[simp] theorem servePayback_queue (d : Device) : d.servePayback.queue = d.queue := (servePayback_idles d).queue

@[simp] theorem askPayback_queue (k : RefundPending) (d : Device) : (d.askPayback k).queue = d.queue :=
  (askPayback_idles k d).queue

@[simp] theorem tryPulse_queue (d : Device) : d.tryPulse.queue = d.queue := (tryPulse_quiet d).queue

@[simp] theorem replan_queue (d : Device) : d.replan.queue = d.queue := by
  rw [replan_payout]

@[simp] theorem endPlan_queue (d : Device) : d.endPlan.queue = d.queue := by
  simp [Device.endPlan, Device.closePlan]

@[simp] theorem afterWindow_queue (d : Device) : d.afterWindow.queue = d.queue := by
  simp only [Device.afterWindow]
  split
  · exact tryPulse_queue d
  split
  · exact (tryPulse_queue _).trans (replan_queue d)
  · exact (endPlan_queue _).trans (replan_queue d)

@[simp] theorem jamTube_queue (t : Fin 6) (d : Device) : (d.jamTube t).queue = d.queue := (jamTube_quiet t d).queue

theorem closeWindow_queue (c : PendingCoin) (d : Device) : (d.closeWindow c).queue = d.queue := by
  unfold Device.closeWindow
  split
  · exact afterWindow_queue (d.setCoin none)
  split
  · exact afterWindow_queue (d.setCoin _)
  split
  · exact afterWindow_queue (d.setCoin _)
  · simp

theorem payCoin_queue (c : PendingCoin) (d : Device) : (d.payCoin c).queue = d.queue := by
  simp only [Device.payCoin, recomputeIf_queue, (debitCoin_quiet _ _).queue, updatePlan_queue, (coinOut_quiet _ _).queue,
    setCoin_queue]

theorem payoutRevoked_queue (d : Device) : d.payoutRevoked.queue = d.queue := by
  simp [Device.payoutRevoked]

theorem pulseGapEnd_queue (d : Device) : d.pulseGapEnd.queue = d.queue := onExpiry_queue fun _ => tryPulse_queue _

theorem chuteWindowClose_queue (d : Device) : d.chuteWindowClose.queue = d.queue := by
  unfold Device.chuteWindowClose
  split
  · rfl
  next c _ =>
    split
    · exact closeWindow_queue c (d.reach c.windowEnd)
    · rfl

theorem chuteCount_queue (d : Device) : d.chuteCount.queue = d.queue := by
  unfold Device.chuteCount
  split
  · rfl
  next c _ =>
    split
    · exact payCoin_queue c d
    · rfl

theorem takeRefund_queue (d : Device) : (takeRefund d).1.queue = d.queue := by
  simp only [takeRefund]
  split
  · rfl
  split
  · rfl
  · exact (makePlan_queue ..).trans (markRefund_queue .no d)

/-- Neither branch of a request touches the queue. -/
theorem ite_queue {p : Prop} [Decidable p] {a b : Device × Reply} {q : OrderQueue} (ha : a.1.queue = q)
    (hb : b.1.queue = q) : (if p then a else b).1.queue = q := by
  split
  · exact ha
  · exact hb

theorem amendTube_queue (tube : Nat) (a : TubeAmend) (d : Device) : (amendTube tube a d).1.queue = d.queue := by
  unfold amendTube
  split
  · rfl
  · exact ite_queue rfl (ite_queue rfl (ite_queue rfl (ite_queue rfl (recomputeIf_queue _ _))))

theorem setTubeCount_queue (tube count : Nat) (d : Device) : (setTubeCount tube count d).1.queue = d.queue := by
  unfold setTubeCount
  split
  · rfl
  · exact ite_queue rfl (ite_queue rfl (recomputeIf_queue _ _))

theorem dispense_queue (tube n : Nat) (d : Device) : (dispense tube n d).1.queue = d.queue := by
  unfold dispense
  split
  · rfl
  · exact ite_queue rfl (ite_queue rfl (ite_queue rfl (ite_queue rfl (makePlan_queue ..))))

/-! ### The coin link -/

@[simp] theorem send_queue (m : Message) (d : Device) : (d.send m).queue = d.queue := rfl

@[simp] theorem afterExchange_queue (d : Device) : d.afterExchange.queue = d.queue := (afterExchange_quiet d).queue

@[simp] theorem openSlot_queue (d : Device) : d.openSlot.queue = d.queue := (openSlot_quiet d).queue

@[simp] theorem endUncertain_queue (coin : CoinInFlight) (cause : UncertainCause) (d : Device) :
    (d.endUncertain coin cause).queue = d.queue := by
  simp [Device.endUncertain, Device.endHandshake]

theorem coinReady_queue (c : Fin 8) (d : Device) : (d.coinReady c).queue = d.queue := by
  unfold Device.coinReady
  split
  · rfl
  next coin _ =>
    split
    · rfl
    · exact endUncertain_queue coin .protocol d

theorem coinDone_queue (c : Fin 8) (d : Device) : (d.coinDone c).queue = d.queue := by
  unfold Device.coinDone
  split
  · rfl
  next coin _ =>
    split
    · exact endUncertain_queue coin .protocol d
    · simp [Device.endHandshake, (creditCoin_quiet _ _ _).queue, (countCoin_quiet coin d).queue]

theorem handleReport_queue (r : Report) (d : Device) : (d.handleReport r).queue = d.queue := by
  cases r with
  | idle => rfl
  | coinReady c => exact coinReady_queue c d
  | coinDone c => exact coinDone_queue c d
  | coinReturned c =>
    simp only [Device.handleReport, Device.coinReturned]
    split
    · simp [Device.endHandshake]
    · rfl
  | returnLever => exact askPayback_queue .refund d
  | fault code => rfl
  | ident bytes => rfl

theorem replied_queue (m : Message) (r : Report) (d : Device) : (d.replied m r).queue = d.queue := by
  simp only [Device.replied, afterExchange_queue, handleReport_queue, (acknowledge_quiet m _).queue]
  rfl

theorem linkLost_queue (d : Device) : d.linkLost.queue = d.queue := by
  simp only [Device.linkLost, Device.loseCoin, send_queue, raise_queue]
  split
  · rfl
  · exact endUncertain_queue ..

theorem missed_queue (m : Message) (d : Device) : (d.missed m).queue = d.queue := by
  simp only [Device.missed]
  generalize hb : Device.updateCoins _ d.closeExchange = b
  have marked : b.queue = d.queue := hb ▸ rfl
  split
  · exact marked
  split
  · exact (linkLost_queue _).trans marked
  · exact (afterExchange_queue _).trans marked

theorem linkSlot_queue (d : Device) : d.linkSlot.queue = d.queue := onExpiry_queue fun _ => openSlot_queue _

theorem identifyExpiry_queue (d : Device) : d.identifyExpiry.queue = d.queue := onExpiry_queue fun _ => by
  split
  · rfl
  · rfl

theorem linkFrame_queue (bytes : List Byte) (framingError : Bool) (d : Device) :
    (d.linkFrame bytes framingError).queue = d.queue := by
  unfold Device.linkFrame
  split
  · rfl
  split
  · split
    · exact replied_queue ..
    · exact missed_queue ..
  · rfl

theorem linkReplyTimeout_queue (d : Device) : d.linkReplyTimeout.queue = d.queue := by
  unfold Device.linkReplyTimeout
  split
  · rfl
  next e _ => exact onExpiry_queue fun _ => missed_queue e.message _

theorem coinTimeout_queue (d : Device) : d.coinTimeout.queue = d.queue := by
  unfold Device.coinTimeout
  split
  · rfl
  · exact endUncertain_queue ..

theorem findCoinMarker_queue (d : Device) : d.findCoinMarker.queue = d.queue := by
  unfold Device.findCoinMarker
  split
  · rfl
  · simp [Device.endHandshake]

/-! ### The compressor -/

@[simp] theorem tryStart_queue (d : Device) : d.tryStart.queue = d.queue := by
  unfold Device.tryStart
  split
  · exact claim_queue ..
  · rfl

theorem leaveRest_queue (d : Device) : d.leaveRest.queue = d.queue := by
  unfold Device.leaveRest
  split
  · exact tryStart_queue _
  · rfl

@[simp] theorem leaveWaiting_queue (d : Device) : d.leaveWaiting.queue = d.queue := withdraw_queue ..

@[simp] theorem stopCompressor_queue (why : LastStop) (d : Device) : (d.stopCompressor why).queue = d.queue :=
  giveBack_queue ..

@[simp] theorem failCompressor_queue (why : LastStop) (d : Device) : (d.failCompressor why).queue = d.queue := by
  simp only [Device.failCompressor]
  split
  · exact stopCompressor_queue why d
  · exact stopCompressor_queue why d

@[simp] theorem stopIfMet_queue (d : Device) : d.stopIfMet.queue = d.queue := by
  unfold Device.stopIfMet
  split
  · exact stopCompressor_queue .demandMet d
  · rfl

@[simp] theorem reportValves_queue (d : Device) : d.reportValves.queue = d.queue := by
  simp only [Device.reportValves]
  split
  · rfl
  split
  · exact tryStart_queue _
  split
  · exact leaveWaiting_queue _
  · exact stopIfMet_queue _

theorem condenserSample_queue (sample : Sample) (d : Device) : (d.condenserSample sample).queue = d.queue := by
  simp only [Device.condenserSample]
  generalize hb : (if sample.bad && !d.compressor.condenser.any Sample.bad then _ else _) = b
  have alarmed : b.queue = d.queue := by
    rw [← hb]
    split
    · rfl
    · rfl
  have hot : b.hotStop.queue = b.queue := stopCompressor_queue .hot b
  rw [← alarmed]
  split
  · split
    · exact hot
    · rfl
  · split
    · exact hot
    · rfl
  · split
    · exact leaveWaiting_queue b
    · rfl
  · exact tryStart_queue b
  · rfl
  · rfl

theorem compressorRevoked_queue (d : Device) : d.compressorRevoked.queue = d.queue := by
  unfold Device.compressorRevoked
  split
  · exact stopCompressor_queue .supply d
  · rfl

theorem restTimer_queue (d : Device) : d.restTimer.queue = d.queue := onExpiry_queue fun _ => leaveRest_queue _

@[simp] theorem confirmStart_queue (d : Device) : d.confirmStart.queue = d.queue := giveBack_queue ..

theorem startTimer_queue (d : Device) : d.startTimer.queue = d.queue := onExpiry_queue fun due => by
  split
  · exact failCompressor_queue .startFailed (d.reach due)
  · exact confirmStart_queue (d.reach due)

theorem confirmActs_queue (before : Option Level) (level : Level) (d : Device) :
    (d.confirmActs before level).queue = d.queue := by
  unfold Device.confirmActs
  split
  · rfl
  split
  · split
    · split
      · exact confirmStart_queue d
      · rfl
    · split
      · exact failCompressor_queue .confirmLost d
      · rfl
    · rfl
  · rfl

theorem confirmChange_queue (d : Device) : d.confirmChange.queue = d.queue :=
  onExpiry_queue fun _ => confirmActs_queue _ _ _

theorem runTimer_queue (d : Device) : d.runTimer.queue = d.queue := onExpiry_queue fun _ => stopIfMet_queue _

theorem clearLockout_queue (d : Device) : (clearLockout d).1.queue = d.queue := ite_queue (leaveRest_queue _) rfl

/-! ### The zones -/

@[simp] theorem setZoneState_queue (z : Fin 2) (st : ZoneState) (d : Device) : (d.setZoneState z st).queue = d.queue := by
  simp only [Device.setZoneState]
  split
  · rfl
  · exact reportValves_queue _

@[simp] theorem checkDue_queue (z : Fin 2) (d : Device) : (d.checkDue z).queue = d.queue := by
  simp only [Device.checkDue]
  split
  · simp [Device.enterDefrost]
  · rfl

@[simp] theorem endDefrost_queue (z : Fin 2) (st : ZoneState) (d : Device) : (d.endDefrost z st).queue = d.queue := by
  simp [Device.endDefrost]

@[simp] theorem checkInterval_queue (z : Fin 2) (d : Device) : (d.checkInterval z).queue = d.queue := checkDue_queue z _

@[simp] theorem holdSweep_queue (z : Fin 2) (d : Device) : (d.holdSweep z).queue = d.queue :=
  (holdSweep_quiet z d).queue

@[simp] theorem spoilCheck_queue (z : Fin 2) (d : Device) : (d.spoilCheck z).queue = d.queue :=
  (spoilCheck_quiet z d).queue

@[simp] theorem probeFault_queue (z : Fin 2) (d : Device) : (d.probeFault z).queue = d.queue := by
  simp only [Device.probeFault]
  split
  · exact endDefrost_queue z .probeFault d
  · exact setZoneState_queue z .probeFault _

theorem judgeAir_queue (z : Fin 2) (sample : Sample) (d : Device) : (d.judgeAir z sample).queue = d.queue := by
  unfold Device.judgeAir
  split
  all_goals simp

theorem airSample_queue (z : Fin 2) (sample : Sample) (d : Device) : (d.airSample z sample).queue = d.queue := by
  simp only [Device.airSample, checkDue_queue]
  split
  · rw [holdSweep_queue, (judgeWarm_quiet z sample _).queue, judgeAir_queue, updateZone_queue]
  · rw [(judgeWarm_quiet z sample _).queue, judgeAir_queue, updateZone_queue]

theorem evaporatorSample_queue (z : Fin 2) (sample : Sample) (d : Device) :
    (d.evaporatorSample z sample).queue = d.queue := by
  simp only [Device.evaporatorSample]
  split
  · exact endDefrost_queue z .drip _
  · rfl

theorem sinceExpiry_queue (z : Fin 2) (d : Device) : (d.sinceExpiry z).queue = d.queue :=
  onExpiry_queue fun _ => checkInterval_queue z _

theorem defrostExpiry_queue (z : Fin 2) (d : Device) : (d.defrostExpiry z).queue = d.queue :=
  onExpiry_queue fun _ => endDefrost_queue z .drip _

theorem dripExpiry_queue (z : Fin 2) (d : Device) : (d.dripExpiry z).queue = d.queue :=
  onExpiry_queue fun _ => (checkDue_queue z _).trans (setZoneState_queue z _ _)

theorem minuteExpiry_queue (z : Fin 2) (d : Device) : (d.minuteExpiry z).queue = d.queue := onExpiry_queue fun due => by
  dsimp only
  split
  · exact (exposeMinute_quiet z _).queue
  · rfl

theorem switchZone_queue (z : Fin 2) (before : Bool) (d : Device) : (d.switchZone z before).queue = d.queue := by
  unfold Device.switchZone
  split
  · rfl
  split
  · simp only [Device.disableZone, holdSweep_queue, setZoneState_queue, updateZone_queue]
    split
    · exact endDefrost_queue z .off d
    · rfl
  · simp [Device.enableZone]

/-- What leaves the queue leaves it when it is skipped. -/
theorem skip_queue {p : Prop} [Decidable p] {d e : Device} (h : e.queue = d.queue) :
    (if p then d else e).queue = d.queue := by
  split
  · rfl
  · exact h

theorem zoneEffects_queue (z : Fin 2) (old : ZoneSettings) (d : Device) : (d.zoneEffects z old).queue = d.queue := by
  simp only [Device.zoneEffects]
  rw [skip_queue (checkInterval_queue z _), skip_queue (spoilCheck_queue z _), skip_queue (holdSweep_queue z _),
    switchZone_queue]

theorem amendZone_queue (zone : Nat) (a : ZoneAmend) (d : Device) : (amendZone zone a d).1.queue = d.queue := by
  unfold amendZone
  split
  · rfl
  · exact ite_queue rfl (zoneEffects_queue _ _ _)

theorem startDefrost_queue (zone : Nat) (d : Device) : (startDefrost zone d).1.queue = d.queue := by
  unfold startDefrost
  split
  · rfl
  next z _ =>
    refine ite_queue rfl ?_
    split
    · rfl
    · rfl
    · rfl
    all_goals exact checkDue_queue z _

/-! ### Lanes -/

theorem onLane_queue {lane : Nat} {f : Fin 64 → Lane → Device → Device × Reply} {d : Device}
    (h : ∀ n l, (f n l d).1.queue = d.queue) : (onLane lane f d).1.queue = d.queue := by
  unfold onLane
  split
  · rfl
  split
  · rfl
  · exact h _ _

theorem readLane_queue (form lane : Nat) (d : Device) : (readLane form lane d).1.queue = d.queue := by
  unfold readLane
  split
  · exact onLane_queue fun _ _ => rfl
  · split
    · rfl
    · exact onLane_queue fun _ _ => rfl
  · rfl

theorem restockLane_queue (lane stock : Nat) (d : Device) : (restockLane lane stock d).1.queue = d.queue :=
  ite_queue rfl (onLane_queue fun _ _ => ite_queue rfl (updateLane_queue ..))

end Sys2Proof.Proofs
end

section
/-! SUPPORT. The order queue stays sound through the sale: orders that end, are credited, halted and started, what the
end of an event does, and the drive's, the inputs' and the scanner's events. -/
namespace Sys2Proof.Proofs

open Sys2Proof.Machine Sys2Proof.Laws

-- One proof at a time: together they wait for the kernel in a thread each, and the memory limit is met.
set_option Elab.async false

/-- R47: one record keeps the order queue sound from another. -/
def KeepsQueue (d e : Device) : Prop := d.queue.sound → e.queue.sound

theorem KeepsQueue.refl (d : Device) : KeepsQueue d d := id

theorem KeepsQueue.trans {a b c : Device} (h : KeepsQueue a b) (k : KeepsQueue b c) : KeepsQueue a c := k ∘ h

theorem KeepsQueue.of_orders {d e : Device} (h : e.queue.orders = d.queue.orders) : KeepsQueue d e :=
  (sound_of_orders h).1.2

theorem KeepsQueue.of_queue {d e : Device} (h : e.queue = d.queue) : KeepsQueue d e := .of_orders (congrArg _ h)

/-- What keeps the queue sound does so after a change that leaves the queue. -/
theorem KeepsQueue.after {d m e : Device} (h : KeepsQueue m e) (same : m.queue = d.queue := by rfl) : KeepsQueue d e :=
  (KeepsQueue.of_queue same).trans h

/-- A change of the order of one tag, the tag staying, that makes no second current order. -/
theorem KeepsQueue.of_changeTag {d e : Device} {tag : Nat} {f : Order → Order}
    (orders : e.queue.orders = changeTag tag f d.queue.orders) (hf : ∀ x, (f x).tag = x.tag)
    (hc : ∀ o ∈ d.queue.orders, o.tag = tag → (f o).state.current = true →
      d.queue.current? = none ∨ o.state.current = true) : KeepsQueue d e := by
  intro sound
  by_cases held : ∃ o ∈ d.queue.orders, o.tag = tag
  · obtain ⟨o, ho, rfl⟩ := held
    exact (sound_of_orders (q := d.queue.update o.tag f) orders).1.2 (sound_update sound ho hf (hc o ho rfl))
  · rw [changeTag_absent fun x hx same => held ⟨x, hx, same⟩] at orders
    exact (sound_of_orders orders).1.2 sound

/-- No orders at all. -/
theorem KeepsQueue.of_empty (d : Device) {e : Device} (h : e.queue.orders = []) : KeepsQueue d e := fun _ =>
  ⟨by rw [h]; exact Nat.zero_le _, by rw [h]; exact List.nodup_nil, by rw [h]; exact Nat.zero_le _⟩

theorem onExpiry_keepsQueue {t : Timer} {f : Nat → Device → Device} {d : Device}
    (h : ∀ due, KeepsQueue (d.reach due) (f due (d.reach due))) : KeepsQueue d (d.onExpiry t f) := by
  unfold Device.onExpiry
  split
  · exact .refl d
  next due => exact h due

/-! ### Orders that end, are credited or halted -/

theorem Ends.keepsQueue {o : Order} {cause : EndCause} {units : Nat} {d e : Device} (h : Ends o cause units d e) :
    KeepsQueue d e :=
  .of_changeTag h.orders (fun _ => rfl) fun x _ _ current => absurd current (by simp [close_current])

theorem endOrder_keepsQueue (tag : Nat) (cause : EndCause) (d : Device) : KeepsQueue d (d.endOrder tag cause) := by
  rcases endOrder_cases tag cause d with ⟨-, same⟩ | ⟨o, -, -, -, -, ends⟩
  · rw [same]; exact .refl d
  · exact ends.keepsQueue

theorem endAll_keepsQueue (cause : EndCause) (orders : List Order) (d : Device) :
    KeepsQueue d (orders.foldl (fun d o => d.endOrder o.tag cause) d) :=
  foldl_rel KeepsQueue.refl KeepsQueue.trans (fun d o => endOrder_keepsQueue o.tag cause d) orders d

theorem cancelQueued_keepsQueue (n : Fin 64) (cause : EndCause) (d : Device) : KeepsQueue d (d.cancelQueued n cause) :=
  endAll_keepsQueue cause _ d

theorem cancelAllQueued_keepsQueue (cause : EndCause) (d : Device) : KeepsQueue d (d.cancelAllQueued cause) :=
  endAll_keepsQueue cause _ d

theorem unitFailed_keepsQueue (tag : Nat) (cause : EndCause) (d : Device) : KeepsQueue d (d.unitFailed tag cause) := by
  unfold Device.unitFailed
  split
  · exact .refl d
  next o _ =>
    have released : KeepsQueue d (d.releaseUnits o 1) := .of_queue (releaseUnits_frame o 1 d .queue (by simp))
    exact released.trans (endLive_ends o cause 1 _).keepsQueue

theorem unitDelivered_keepsQueue (tag : Nat) (d : Device) : KeepsQueue d (d.unitDelivered tag) := by
  intro sound
  cases hw : d.queue.currentWith tag with
  | none => rw [Device.unitDelivered, hw]; exact sound
  | some o => exact (unitDelivered_delivers sound.2.1 hw).queue_sound sound (currentWith_mem hw).1

/-- An order that is current becomes HALTED, or any other order stays as it is. -/
theorem orderHalted_keepsQueue (tag : Nat) (d : Device) : KeepsQueue d (d.orderHalted tag) := by
  unfold Device.orderHalted
  split
  · exact .refl d
  next o hw =>
    obtain ⟨ho, rfl, current, -⟩ := currentWith_current hw
    exact fun sound => sound_update (f := halts) sound ho (fun _ => rfl) fun _ => Or.inr current

/-! ### The end of an event -/

theorem SaleStep.keepsQueue {d e : Device} (h : SaleStep d e) : KeepsQueue d e := by
  cases h with
  | money frame => exact .of_queue (frame .queue (by simp))
  | plan kind req lines => exact .of_queue (by rw [planned_eq])
  | wait => exact .of_queue rfl
  | grant => exact .of_queue granted_queue
  | refuse cause => exact KeepsQueue.after (endOrder_keepsQueue _ cause (withJobs _ d))
  | discard => exact .of_queue rfl
  | take => exact .of_queue rfl
  | head idle => exact .of_changeTag (f := drives) rfl (fun _ => rfl) fun _ _ _ _ => Or.inl idle
  | unit => exact .of_orders rfl

theorem SaleSteps.keepsQueue {d e : Device} (h : SaleSteps d e) : KeepsQueue d e :=
  saleSteps_induct KeepsQueue.refl KeepsQueue.trans SaleStep.keepsQueue h

theorem startUnit_keepsQueue (d : Device) : KeepsQueue d d.startUnit := (startUnit_steps d).keepsQueue

theorem startHead_keepsQueue (d : Device) : KeepsQueue d d.startHead := (startHead_steps d).keepsQueue

theorem takeFrom_keepsQueue (q0 : OrderQueue) (d : Device) : KeepsQueue d (d.takeFrom q0) :=
  (takeFrom_steps q0 d).keepsQueue

theorem conclude_keepsQueue (q0 : OrderQueue) (d : Device) : KeepsQueue d (d.conclude q0) :=
  (conclude_steps q0 d).keepsQueue

/-- What keeps the queue sound does so to the end of its event. -/
theorem KeepsQueue.conclude {d e : Device} (h : KeepsQueue d e) (q0 : OrderQueue) : KeepsQueue d (e.conclude q0) :=
  h.trans (conclude_keepsQueue q0 e)

theorem KeepsQueue.startUnit {d e : Device} (h : KeepsQueue d e) : KeepsQueue d e.startUnit :=
  h.trans (startUnit_keepsQueue e)

theorem KeepsQueue.unitDelivered {d e : Device} (h : KeepsQueue d e) (tag : Nat) : KeepsQueue d (e.unitDelivered tag) :=
  h.trans (unitDelivered_keepsQueue tag e)

theorem KeepsQueue.orderHalted {d e : Device} (h : KeepsQueue d e) (tag : Nat) : KeepsQueue d (e.orderHalted tag) :=
  h.trans (orderHalted_keepsQueue tag e)

theorem joinJobs_keepsQueue (job : Job) (d : Device) : KeepsQueue d (d.joinJobs job) :=
  KeepsQueue.after (takeFrom_keepsQueue _ _)

/-! ### Halting, resuming and abandoning (R36 to R39) -/

/-- The unit position is set, and the current order HALTED, after a change that leaves the queue. -/
theorem halted_keepsQueue (p : UnitPosition) (tag : Nat) {d m : Device} (same : m.queue = d.queue) :
    KeepsQueue d ((m.setUnitPos p).orderHalted tag) :=
  KeepsQueue.orderHalted (.of_orders (by rw [← same]; rfl)) tag

theorem haltActive_keepsQueue (tag : Nat) (revoked : Bool) (j : ActiveJob) (d : Device) :
    KeepsQueue d (d.haltActive tag revoked j) := by
  have stopped : (d.stopWork j.job.lane).endJob.queue = d.queue := stopWork_queue j.job.lane d
  unfold Device.haltActive
  split
  · exact halted_keepsQueue .halted tag (withdraw_queue .drive d)
  · dsimp only
    split
    · exact (KeepsQueue.of_queue stopped).unitDelivered tag |>.orderHalted tag
    · exact halted_keepsQueue .halted tag stopped
  all_goals exact orderHalted_keepsQueue tag d

theorem haltOrder_keepsQueue (revoked : Bool) (d : Device) : KeepsQueue d (d.haltOrder revoked) := by
  unfold Device.haltOrder
  split
  · exact .refl d
  next o _ =>
    split
    · split
      next j _ => exact haltActive_keepsQueue o.tag revoked j d
      · exact halted_keepsQueue .none o.tag (unlist_queue o.tag d)
    · exact .refl d

theorem resumeUnit_queue (d : Device) : d.resumeUnit.queue = d.queue := by
  unfold Device.resumeUnit
  split
  · rfl
  · exact claim_queue ..

theorem abandonReport_keepsQueue (tag : Nat) (j : ActiveJob) (d : Device) : KeepsQueue d (d.abandonReport tag j) := by
  unfold Device.abandonReport
  split
  · exact unitDelivered_keepsQueue tag d
  · exact .refl d

theorem abandon_keepsQueue (tag : Nat) (d : Device) : KeepsQueue d (d.abandon tag) := by
  unfold Device.abandon
  split
  · exact .of_queue rfl
  next j _ =>
    split
    · exact KeepsQueue.after (abandonReport_keepsQueue tag j _) (withdraw_queue .drive d)
    · exact KeepsQueue.after (abandonReport_keepsQueue tag j _) (stopWork_queue _ d)
    all_goals exact KeepsQueue.after (abandonReport_keepsQueue tag j _)

theorem giveUp_keepsQueue (o : Order) (cause : EndCause) (d : Device) : KeepsQueue d (d.giveUp o cause) := by
  unfold Device.giveUp
  split
  · exact (abandon_keepsQueue o.tag d).trans (endOrder_keepsQueue o.tag cause _)
  · exact endOrder_keepsQueue o.tag cause d

/-! ### The drive's failures, turns and events -/

theorem laneFault_keepsQueue (cause : EndCause) (n : Fin 64) (d : Device) : KeepsQueue d (d.laneFault cause n) :=
  .of_queue (laneFault_quiet cause n d).queue

theorem reportFault_keepsQueue (cause : EndCause) (n : Fin 64) (tag : Nat) (j : ActiveJob) (d : Device) :
    KeepsQueue d (d.reportFault cause n tag j) := by
  unfold Device.reportFault
  dsimp only
  split
  · have delivered := unitDelivered_keepsQueue tag d
    split
    · exact delivered
    · exact (delivered.trans (laneFault_keepsQueue cause n _)).trans (endOrder_keepsQueue tag cause _)
  split
  · exact unitFailed_keepsQueue tag .supply d
  · exact (unitFailed_keepsQueue tag cause d).trans (laneFault_keepsQueue cause n _)

theorem unitFault_keepsQueue (cause : EndCause) (d : Device) : KeepsQueue d (d.unitFault cause) := by
  unfold Device.unitFault
  split
  · exact .refl d
  next j _ =>
    split
    · exact .refl d
    next n tag _ =>
      have reported : KeepsQueue d ((d.stopWork n).endJob.reportFault cause n tag j) :=
        .after (reportFault_keepsQueue cause n tag j _) (stopWork_queue n d)
      exact reported.startUnit.conclude _

theorem decideTurn_keepsQueue (at_ : Nat) (n : Fin 64) (tag : Nat) (j : ActiveJob) (d : Device) :
    KeepsQueue d (d.decideTurn at_ n tag j) := by
  have ended : KeepsQueue d (d.stopWork n).endJob := .of_queue (stopWork_queue n d)
  have left (f : ActiveJob → ActiveJob) : KeepsQueue d ((d.stopWork n).updateJob f) := .of_queue (stopWork_queue n d)
  unfold Device.decideTurn
  split
  · exact (ended.unitDelivered tag).startUnit.conclude _
  split
  · exact .refl d
  split
  · exact ((left _).unitDelivered tag).startUnit.conclude _
  split
  · exact .of_queue rfl
  · exact left _

theorem camSeen_keepsQueue (at_ : Nat) (level : CamLevel) (d : Device) : KeepsQueue d (d.camSeen at_ level) := by
  unfold Device.camSeen
  split
  · exact .refl d
  next j _ =>
    split
    · exact .of_queue rfl
    · exact KeepsQueue.after (decideTurn_keepsQueue at_ _ _ _ _) (updateLane_queue ..)
    · exact .refl d

theorem camConfirm_keepsQueue (d : Device) : KeepsQueue d d.camConfirm := onExpiry_keepsQueue fun due =>
  KeepsQueue.after (camSeen_keepsQueue due _ _)

theorem departureTimeout_keepsQueue (d : Device) : KeepsQueue d d.departureTimeout :=
  onExpiry_keepsQueue fun _ => unitFault_keepsQueue .jam _

theorem turnTimerExpiry_keepsQueue (d : Device) : KeepsQueue d d.turnTimerExpiry :=
  onExpiry_keepsQueue fun _ => unitFault_keepsQueue .jam _

theorem creditDrop_keepsQueue (tag : Nat) (j : ActiveJob) (d : Device) : KeepsQueue d (d.creditDrop tag j) := by
  have credited : KeepsQueue d ((d.endJob.unitDelivered tag).startUnit.conclude d.queue) :=
    (KeepsQueue.after (unitDelivered_keepsQueue tag d.endJob)).startUnit.conclude _
  unfold Device.creditDrop
  split
  · exact credited
  · exact credited
  · exact KeepsQueue.after (conclude_keepsQueue _ d.endJob)
  · exact .of_queue rfl

theorem beamBreak_keepsQueue (d : Device) : KeepsQueue d d.beamBreak := by
  unfold Device.beamBreak
  split
  · exact .of_queue rfl
  next j _ =>
    split
    · exact .of_queue rfl
    next tag _ =>
      split
      · exact creditDrop_keepsQueue tag j d
      · exact .of_queue rfl

theorem windowExpired_keepsQueue (d : Device) : KeepsQueue d d.windowExpired := by
  unfold Device.windowExpired
  split
  · exact .refl d
  split
  next n tag _ _ =>
    have emptied : KeepsQueue d ((d.endJob.unitFailed tag .noDrop).emptyLane n) :=
      (KeepsQueue.after (unitFailed_keepsQueue tag .noDrop d.endJob)).trans (.of_queue (changeLane_queue ..))
    exact (emptied.trans (cancelQueued_keepsQueue n .soldOut _)).conclude _
  · exact KeepsQueue.after (conclude_keepsQueue _ d.endJob)

theorem dropWindowExpiry_keepsQueue (d : Device) : KeepsQueue d d.dropWindowExpiry :=
  onExpiry_keepsQueue fun _ => windowExpired_keepsQueue _

theorem pulseEnded_keepsQueue (d : Device) : KeepsQueue d d.pulseEnded := by
  unfold Device.pulseEnded
  split
  · exact .refl d
  next j _ =>
    have judged := (fitOutcome_quiet j.job.lane j.passSeen (d.stopWork j.job.lane).endJob).queue
    exact (KeepsQueue.of_queue (judged.trans (stopWork_queue j.job.lane d))).conclude _

theorem fitPulseEnd_keepsQueue (d : Device) : KeepsQueue d d.fitPulseEnd :=
  onExpiry_keepsQueue fun _ => pulseEnded_keepsQueue _

theorem motorSample_keepsQueue (at_ : Nat) (sample : Sample) (d : Device) : KeepsQueue d (d.motorSample at_ sample) := by
  unfold Device.motorSample
  split
  · exact .refl d
  split
  · split
    · dsimp only
      split
      · exact KeepsQueue.after (unitFault_keepsQueue .motorOpen _)
      · exact .of_queue rfl
    · exact .of_queue rfl
    · exact .refl d
  · exact .refl d

/-! ### Revocations and the supply band (R36, R171) -/

theorem driveRevoked_keepsQueue (d : Device) : KeepsQueue d d.driveRevoked := by
  unfold Device.driveRevoked
  split
  · exact .refl d
  next n _ => exact KeepsQueue.after (takeFrom_keepsQueue _ _) (stopMotors_queue n d)
  · exact (haltOrder_keepsQueue true d).conclude _

theorem revoked_keepsQueue (who : Claimant) (d : Device) : KeepsQueue d (d.revoked who) := by
  cases who with
  | drive => exact driveRevoked_keepsQueue d
  | payout => exact .of_queue (payoutRevoked_queue d)
  | compressor => exact .of_queue (compressorRevoked_queue d)
  | heater z => exact .of_queue (claim_queue ..)

theorem revokeAll_keepsQueue (d : Device) : KeepsQueue d d.revokeAll :=
  KeepsQueue.after (foldl_rel (f := fun d c => d.revoked c.who) KeepsQueue.refl KeepsQueue.trans
    (fun d c => revoked_keepsQueue c.who d) d.load.grants _)

theorem supplySample_keepsQueue (sample : Sample) (d : Device) : KeepsQueue d (d.supplySample sample) := by
  simp only [Device.supplySample]
  split
  · exact .of_queue rfl
  · unfold Device.enterBand
    dsimp only
    split
    · exact KeepsQueue.after (revokeAll_keepsQueue _)
    · exact .of_queue rfl
    · exact .of_queue (grantTest_queue _)

theorem handSample_keepsQueue (c : Fin 8) (at_ : Nat) (sample : Sample) (d : Device) :
    KeepsQueue d (d.handSample c at_ sample) := by
  unfold Device.handSample
  split
  · exact .of_queue (airSample_queue 0 sample d)
  · exact .of_queue (evaporatorSample_queue 0 sample d)
  · exact .of_queue (airSample_queue 1 sample d)
  · exact .of_queue (evaporatorSample_queue 1 sample d)
  · exact .of_queue (condenserSample_queue sample d)
  · exact supplySample_keepsQueue sample d
  · exact motorSample_keepsQueue at_ sample d
  · exact .refl d

theorem conversionEnd_keepsQueue (reading : Nat) (d : Device) : KeepsQueue d (d.conversionEnd reading) := by
  unfold Device.conversionEnd
  split
  · exact .refl d
  next k _ => exact KeepsQueue.after (handSample_keepsQueue k.channel k.ends _ _)

/-! ### The inputs (R167) -/

theorem handInput_keepsQueue (i : InputName) (st : InputState) (d : Device) : KeepsQueue d (d.handInput i st) := by
  unfold Device.handInput
  split
  · exact (haltOrder_keepsQueue false d).conclude _
  · exact (startHead_keepsQueue d).trans (takeFrom_keepsQueue _ _)
  · exact ((startUnit_keepsQueue d).trans (startHead_keepsQueue _)).trans (takeFrom_keepsQueue _ _)
  · exact .of_queue rfl
  · exact .refl d
  · exact .refl d

theorem judgeInput_keepsQueue (i : InputName) (quiet : Bool) (d : Device) : KeepsQueue d (d.judgeInput i quiet) := by
  simp only [Device.judgeInput]
  split
  · exact .refl d
  · refine KeepsQueue.trans (b := if quiet then _ else _) (.of_queue ?_) (handInput_keepsQueue i _ _)
    split
    · rfl
    · rfl

theorem inputChange_keepsQueue (i : InputName) (d : Device) : KeepsQueue d (d.inputChange i) :=
  onExpiry_keepsQueue fun _ => KeepsQueue.after (judgeInput_keepsQueue i _ _)

theorem amendInput_keepsQueue (input level : Nat) (d : Device) : KeepsQueue d (amendInput input level d).1 := by
  unfold amendInput
  split
  next i l _ _ => exact KeepsQueue.after (judgeInput_keepsQueue i false _)
  · exact .refl d

end Sys2Proof.Proofs
end

section
/-! SUPPORT. Every request on the lanes and the orders keeps the order queue sound. -/
namespace Sys2Proof.Proofs

open Sys2Proof.Machine Sys2Proof.Laws

-- One proof at a time: together they wait for the kernel in a thread each, and the memory limit is met.
set_option Elab.async false

/-! ### Requests on the lanes -/

/-- Both branches of a request keep the queue sound. -/
theorem ite_keepsQueue {p : Prop} [Decidable p] {d : Device} {a b : Device × Reply} (ha : KeepsQueue d a.1)
    (hb : KeepsQueue d b.1) : KeepsQueue d (if p then a else b).1 := by
  split
  · exact ha
  · exact hb

theorem refuse_keepsQueue (st : Status) (d : Device) : KeepsQueue d (refuse st d).1 := .refl d

theorem onLane_keepsQueue {lane : Nat} {f : Fin 64 → Lane → Device → Device × Reply} {d : Device}
    (h : ∀ n l, KeepsQueue d (f n l d).1) : KeepsQueue d (onLane lane f d).1 := by
  unfold onLane
  split
  · exact .refl d
  split
  · exact .refl d
  · exact h _ _

theorem enrolLane_keepsQueue (lane : Nat) (g : LaneSettings) (d : Device) : KeepsQueue d (enrolLane lane g d).1 := by
  unfold enrolLane
  split
  · exact .refl d
  · refine ite_keepsQueue (.refl d) (ite_keepsQueue (.refl d) (ite_keepsQueue (.refl d) ?_))
    exact KeepsQueue.after (joinJobs_keepsQueue _ _)

theorem amendEnrolled_keepsQueue (a : LaneAmend) (n : Fin 64) (l : Lane) (d : Device) :
    KeepsQueue d (amendEnrolled a n l d) := by
  simp only [amendEnrolled]
  generalize he : (if LaneAmend.rezones a l then _ else _) = e
  have written : e.queue = d.queue := by
    rw [← he]
    split
    · exact (decideHold_quiet n _ _).queue.trans (updateLane_queue ..)
    · exact updateLane_queue ..
  split
  · exact (joinJobs_keepsQueue _ e).after written
  · exact .of_queue written

theorem amendLane_keepsQueue (lane : Nat) (a : LaneAmend) (d : Device) : KeepsQueue d (amendLane lane a d).1 :=
  onLane_keepsQueue fun n l => by
    refine ite_keepsQueue (.refl d) ?_
    split
    · exact .refl d
    · exact amendEnrolled_keepsQueue a n l d

theorem checkLane_keepsQueue (lane : Nat) (d : Device) : KeepsQueue d (checkLane lane d).1 :=
  onLane_keepsQueue fun _ _ =>
    ite_keepsQueue (.refl d) (KeepsQueue.after (joinJobs_keepsQueue _ _) (updateLane_queue ..))

theorem retireLane_keepsQueue (lane : Nat) (d : Device) : KeepsQueue d (retireLane lane d).1 :=
  onLane_keepsQueue fun n _ => ite_keepsQueue (.refl d)
    ((cancelQueued_keepsQueue n .laneRetired d).trans (KeepsQueue.after (conclude_keepsQueue d.queue _)))

/-! ### Requests on the orders (R50 to R53, R64 to R68, R71) -/

/-- R47: a QUEUED order of a fresh tag joins a queue with room. -/
theorem sound_append {q : OrderQueue} {o : Order} (sound : q.sound) (room : q.orders.length < 8)
    (fresh : ∀ x ∈ q.orders, x.tag ≠ o.tag) (queued : o.state = .queued) :
    OrderQueue.sound { q with orders := q.orders ++ [o] } := by
  obtain ⟨-, tags, one⟩ := sound
  refine ⟨?_, ?_, ?_⟩
  · rw [List.length_append]
    exact room
  · rw [List.map_append]
    refine List.nodup_append.2 ⟨tags, List.nodup_singleton _, fun a ha b hb same => ?_⟩
    obtain ⟨x, hx, rfl⟩ := List.mem_map.1 ha
    exact fresh x hx (same.trans (List.mem_singleton.1 hb))
  · rw [List.filter_append, List.filter_cons_of_neg (by simp [queued, OrderState.current]), List.filter_nil,
      List.append_nil]
    exact one

theorem place_keepsQueue {o : Order} {d : Device} (room : d.queue.orders.length < 8)
    (fresh : ∀ x ∈ d.queue.orders, x.tag ≠ o.tag) (queued : o.state = .queued) : KeepsQueue d (place o d) := by
  simp only [place]
  generalize he : (if o.payment = .credit then _ else _) = e
  have joined : e.queue = { d.queue with orders := d.queue.orders ++ [o] } := by
    have reserved (m : Device) : (m.reserve o.lane o.quantity).queue = m.queue := updateLane_queue ..
    rw [← he]
    split
    · exact reserved _
    · exact reserved _
  have placed : KeepsQueue d e := fun sound => by
    rw [joined]
    exact sound_append sound room fresh queued
  exact (placed.trans (startHead_keepsQueue e)).trans (takeFrom_keepsQueue _ _)

theorem placeChecked_keepsQueue (p : Placement) (d : Device) : KeepsQueue d (placeChecked p d).1 := by
  unfold placeChecked
  split
  · exact .refl d
  next room =>
    split
    · exact .refl d
    next unused =>
      split
      · exact .refl d
      next n l _ =>
        dsimp only
        split
        · exact .refl d
        · refine place_keepsQueue (Nat.lt_of_not_le room) (fun x hx same => ?_) rfl
          have absent : d.queue.find? p.tag = none := Option.not_isSome_iff_eq_none.1 unused
          exact absurd (decide_eq_true same) (List.find?_eq_none.1 absent x hx)

theorem placeOrder_keepsQueue (p : Placement) (d : Device) : KeepsQueue d (placeOrder p d).1 :=
  ite_keepsQueue (placeChecked_keepsQueue p d) (.refl d)

/-- R47, R71: some of the orders of a sound queue. -/
theorem keepOrders_keepsQueue (f : Order → Bool) (d : Device) : KeepsQueue d (d.keepOrders f) := by
  rintro ⟨len, tags, one⟩
  have kept : (d.queue.orders.filter f).Sublist d.queue.orders := List.filter_sublist
  exact ⟨kept.length_le.trans len, (kept.map _).nodup tags, (kept.filter _).length_le.trans one⟩

theorem retireOrder_keepsQueue (tag : Nat) (d : Device) : KeepsQueue d (retireOrder tag d).1 := by
  refine ite_keepsQueue (keepOrders_keepsQueue _ d) ?_
  split
  · exact .refl d
  · exact ite_keepsQueue (.refl d) (keepOrders_keepsQueue _ d)

theorem setQueueState_keepsQueue (q : QueueState) (d : Device) : KeepsQueue d (d.setQueueState q) := .of_orders rfl

theorem resumeQueue_keepsQueue (d : Device) : KeepsQueue d (resumeQueue d).1 :=
  ((setQueueState_keepsQueue .running d).trans (startHead_keepsQueue _)).trans (takeFrom_keepsQueue _ _)

theorem haltDrive_keepsQueue (d : Device) : KeepsQueue d (haltDrive d).1 :=
  ite_keepsQueue (.refl d) ((haltOrder_keepsQueue false d).conclude _)

theorem resumeAt_keepsQueue (p : UnitPosition) (d : Device) : KeepsQueue d (resumeAt p d) := by
  cases p with
  | halted =>
    have posted : KeepsQueue d (d.setUnitPos .posted) := .of_orders rfl
    exact posted.trans (.of_queue (resumeUnit_queue _))
  | none => exact (startUnit_keepsQueue d).trans (takeFrom_keepsQueue _ _)
  | posted => exact .refl d

/-- R66: the current order drives again. -/
theorem resumeDrive_keepsQueue (d : Device) : KeepsQueue d (resumeDrive d).1 := by
  unfold resumeDrive
  split
  · exact .refl d
  next o hc =>
    refine ite_keepsQueue (.refl d) (ite_keepsQueue (.refl d) ?_)
    obtain ⟨ho, current⟩ := current?_mem hc
    have driven : KeepsQueue d (d.updateOrder o.tag drives) := fun sound =>
      sound_update sound ho (fun _ => rfl) fun _ => Or.inr current
    exact driven.trans (resumeAt_keepsQueue _ _)

theorem skipOrder_keepsQueue (tag : Nat) (d : Device) : KeepsQueue d (skipOrder tag d).1 := by
  refine ite_keepsQueue (.refl d) ?_
  split
  · exact .refl d
  next o _ => exact ite_keepsQueue (.refl d) ((giveUp_keepsQueue o .skipped d).conclude _)

theorem clearQueue_keepsQueue (d : Device) : KeepsQueue d (clearQueue d).1 := by
  have current : KeepsQueue d d.clearCurrent := by
    unfold Device.clearCurrent
    split
    · exact .refl d
    next o _ => exact giveUp_keepsQueue o .cleared d
  have cancelled := current.trans (cancelAllQueued_keepsQueue .cleared d.clearCurrent)
  exact (cancelled.trans (setQueueState_keepsQueue .held _)).conclude _

end Sys2Proof.Proofs
end

section
/-! SUPPORT. Every event, reset and command keeps the order queue sound, and so does every step. -/
namespace Sys2Proof.Proofs

open Sys2Proof.Machine Sys2Proof.Laws

-- One proof at a time: together they wait for the kernel in a thread each, and the memory limit is met.
set_option Elab.async false

/-! ### Commands on the whole state -/

theorem takeRequest_keepsQueue {f : State → State × Reply} {s : State} (h : KeepsQueue s.dev (f s).1.dev) :
    KeepsQueue s.dev (s.takeRequest f).dev := by
  unfold State.takeRequest
  split
  · exact h
  · exact .refl s.dev

theorem request_keepsQueue {f : Device → Device × Reply} {s : State} (h : KeepsQueue s.dev (f s.dev).1) :
    KeepsQueue s.dev (s.request f).dev := takeRequest_keepsQueue h

/-- A request that leaves the queue. -/
theorem request_leavesQueue {f : Device → Device × Reply} {s : State} (h : (f s.dev).1.queue = s.dev.queue) :
    KeepsQueue s.dev (s.request f).dev := request_keepsQueue (.of_queue h)

theorem query_keepsQueue (f : Device → Reply) (s : State) : KeepsQueue s.dev (s.query f).dev :=
  request_keepsQueue (.refl s.dev)

theorem event_keepsQueue {f : Device → Device} {s : State} (h : KeepsQueue s.dev (f s.dev)) :
    KeepsQueue s.dev (s.event f).dev := by
  unfold State.event
  split
  · exact .refl s.dev
  · exact h

/-- An event that leaves the queue. -/
theorem event_leavesQueue {f : Device → Device} {s : State} (h : (f s.dev).queue = s.dev.queue) :
    KeepsQueue s.dev (s.event f).dev := event_keepsQueue (.of_queue h)

/-! ### Resets, saving, the port -/

theorem warmReset_keepsQueue (d : Device) : KeepsQueue d d.warmReset := .of_empty d rfl

theorem beginWarm_keepsQueue (d : Device) : KeepsQueue d d.beginWarm :=
  (takeFrom_keepsQueue d.queue d).trans (.of_queue ((checkDue_queue 1 _).trans (checkDue_queue 0 _)))

theorem enterRestart_keepsQueue (s : State) : KeepsQueue s.dev s.enterRestart.dev :=
  (warmReset_keepsQueue s.dev).trans (beginWarm_keepsQueue _)

theorem resetPin_keepsQueue (s : State) : KeepsQueue s.dev s.resetPin.dev := by
  unfold State.resetPin
  split
  · exact .refl s.dev
  · exact warmReset_keepsQueue s.dev

theorem resetRelease_keepsQueue (s : State) : KeepsQueue s.dev s.resetRelease.dev := by
  unfold State.resetRelease
  split
  · exact (warmReset_keepsQueue s.dev).trans (beginWarm_keepsQueue _)
  · exact .refl s.dev

theorem restartTimeout_keepsQueue (s : State) : KeepsQueue s.dev s.restartTimeout.dev := by
  unfold State.restartTimeout
  split
  · exact .refl s.dev
  · exact KeepsQueue.after (enterRestart_keepsQueue _)

theorem fetch_keepsQueue (n : Nat) (s : State) : KeepsQueue s.dev (s.fetch n).dev := by
  simp only [State.fetch]
  split
  · split
    · exact KeepsQueue.after (enterRestart_keepsQueue _)
    · exact .refl s.dev
  · exact .refl s.dev

/-- A power-on start-up has no order before its fit checks are taken. -/
theorem endPowerOn_keepsQueue (b : Bool) (s : State) : KeepsQueue s.dev (s.endPowerOn b).dev := by
  have loaded := loadImage_fresh (imageFinding b s.mem) s.mem (awoken_fresh s)
  have orders := (beforeTaking_fresh (imageFinding b s.mem = .loaded) loaded).orders
  exact ((KeepsQueue.of_empty s.dev orders).trans (takeFrom_keepsQueue _ _)).trans
    (.of_queue (endPowerOn_quiet b s).queue)

theorem endWarm_keepsQueue (s : State) : KeepsQueue s.dev s.endWarm.dev := by
  have started : KeepsQueue s.dev ((s.dev.findCoinMarker.startScanning).send .identify) :=
    .of_queue (findCoinMarker_queue s.dev)
  simp only [State.endWarm]
  split
  · exact started
  · exact started

theorem startupEnd_keepsQueue (b : Bool) (s : State) : KeepsQueue s.dev (s.startupEnd b).dev := by
  unfold State.startupEnd
  split
  · exact endPowerOn_keepsQueue b s
  · exact endWarm_keepsQueue s
  · exact .refl s.dev
  · exact .refl s.dev

theorem secondTick_keepsQueue (s : State) : KeepsQueue s.dev s.secondTick.dev := by
  unfold State.secondTick
  split
  · exact .refl s.dev
  · exact .of_queue rfl

theorem pageWritten_keepsQueue (acknowledged : Bool) (s : State) : KeepsQueue s.dev (s.pageWritten acknowledged).dev := by
  unfold State.pageWritten
  split
  · exact .refl s.dev
  split
  · exact .refl s.dev
  split
  · simp only [State.pageDone]
    split
    · exact .refl s.dev
    · exact .of_queue rfl
  · unfold State.pageFailed
    split
    · exact .refl s.dev
    · exact .of_queue rfl

theorem saveRetry_keepsQueue (s : State) : KeepsQueue s.dev s.saveRetry.dev := by
  unfold State.saveRetry
  split
  · exact .refl s.dev
  split
  · exact .refl s.dev
  · exact .of_queue rfl

theorem takeSave_keepsQueue (s : State) : KeepsQueue s.dev (takeSave s).1.dev := by
  unfold takeSave
  split
  · exact .refl s.dev
  · exact .refl s.dev

/-! ### Every command -/

/-- R47: every command keeps the queue sound. -/
theorem exec_keepsQueue (c : Instr) (s : State) : ∃ t, exec c s = .next t ∧ KeepsQueue s.dev t.dev := by
  cases c with
  | readLane form lane => exact ⟨_, rfl, request_leavesQueue (readLane_queue form lane s.dev)⟩
  | findProduct code => exact ⟨_, rfl, query_keepsQueue _ s⟩
  | enrolLane lane g => exact ⟨_, rfl, request_keepsQueue (enrolLane_keepsQueue lane g s.dev)⟩
  | amendLane lane a => exact ⟨_, rfl, request_keepsQueue (amendLane_keepsQueue lane a s.dev)⟩
  | restockLane lane stock => exact ⟨_, rfl, request_leavesQueue (restockLane_queue lane stock s.dev)⟩
  | checkLane lane => exact ⟨_, rfl, request_keepsQueue (checkLane_keepsQueue lane s.dev)⟩
  | retireLane lane => exact ⟨_, rfl, request_keepsQueue (retireLane_keepsQueue lane s.dev)⟩
  | readDrive => exact ⟨_, rfl, query_keepsQueue _ s⟩
  | amendDrive a => exact ⟨_, rfl, request_leavesQueue (amendDrive_quiet a s.dev).queue⟩
  | placeOrder p => exact ⟨_, rfl, request_keepsQueue (placeOrder_keepsQueue p s.dev)⟩
  | readOrder tag => exact ⟨_, rfl, query_keepsQueue _ s⟩
  | readQueue => exact ⟨_, rfl, query_keepsQueue _ s⟩
  | retireOrder tag => exact ⟨_, rfl, request_keepsQueue (retireOrder_keepsQueue tag s.dev)⟩
  | holdQueue => exact ⟨_, rfl, request_keepsQueue (setQueueState_keepsQueue .held s.dev)⟩
  | resumeQueue => exact ⟨_, rfl, request_keepsQueue (resumeQueue_keepsQueue s.dev)⟩
  | haltDrive => exact ⟨_, rfl, request_keepsQueue (haltDrive_keepsQueue s.dev)⟩
  | resumeDrive => exact ⟨_, rfl, request_keepsQueue (resumeDrive_keepsQueue s.dev)⟩
  | skipOrder tag => exact ⟨_, rfl, request_keepsQueue (skipOrder_keepsQueue tag s.dev)⟩
  | clearQueue => exact ⟨_, rfl, request_keepsQueue (clearQueue_keepsQueue s.dev)⟩
  | readCredit => exact ⟨_, rfl, query_keepsQueue _ s⟩
  | amendCreditLimit m => exact ⟨_, rfl, request_leavesQueue (amendCreditLimit_quiet m s.dev).queue⟩
  | refund => exact ⟨_, rfl, request_leavesQueue (takeRefund_queue s.dev)⟩
  | readClass => exact ⟨_, rfl, query_keepsQueue _ s⟩
  | amendClass k a => exact ⟨_, rfl, request_leavesQueue (amendClass_quiet k a s.dev).queue⟩
  | readCashbox => exact ⟨_, rfl, query_keepsQueue _ s⟩
  | clearCashbox => exact ⟨_, rfl, request_leavesQueue rfl⟩
  | readTube => exact ⟨_, rfl, query_keepsQueue _ s⟩
  | amendTube tube a => exact ⟨_, rfl, request_leavesQueue (amendTube_queue tube a s.dev)⟩
  | setTubeCount tube n => exact ⟨_, rfl, request_leavesQueue (setTubeCount_queue tube n s.dev)⟩
  | dispense tube n => exact ⟨_, rfl, request_leavesQueue (dispense_queue tube n s.dev)⟩
  | readPayout => exact ⟨_, rfl, query_keepsQueue _ s⟩
  | amendPayout a => exact ⟨_, rfl, request_leavesQueue (amendPayout_quiet a s.dev).queue⟩
  | readLink => exact ⟨_, rfl, query_keepsQueue _ s⟩
  | amendLink a => exact ⟨_, rfl, request_leavesQueue (amendLink_quiet a s.dev).queue⟩
  | readZone zone => exact ⟨_, rfl, query_keepsQueue _ s⟩
  | amendZone zone a => exact ⟨_, rfl, request_leavesQueue (amendZone_queue zone a s.dev)⟩
  | startDefrost zone => exact ⟨_, rfl, request_leavesQueue (startDefrost_queue zone s.dev)⟩
  | readCompressor => exact ⟨_, rfl, query_keepsQueue _ s⟩
  | amendCompressor a => exact ⟨_, rfl, request_leavesQueue (amendCompressor_quiet a s.dev).queue⟩
  | clearLockout => exact ⟨_, rfl, request_leavesQueue (clearLockout_queue s.dev)⟩
  | readSample k => exact ⟨_, rfl, request_leavesQueue (readSample_quiet k s.dev).queue⟩
  | scanNow => exact ⟨_, rfl, request_leavesQueue (scanNow_quiet s.dev).queue⟩
  | amendChannel k a => exact ⟨_, rfl, request_leavesQueue (amendChannel_quiet k a s.dev).queue⟩
  | amendScan p => exact ⟨_, rfl, request_leavesQueue (amendScan_quiet p s.dev).queue⟩
  | readInputs => exact ⟨_, rfl, query_keepsQueue _ s⟩
  | amendInput i l => exact ⟨_, rfl, request_keepsQueue (amendInput_keepsQueue i l s.dev)⟩
  | readLoad => exact ⟨_, rfl, query_keepsQueue _ s⟩
  | amendLoad a => exact ⟨_, rfl, request_leavesQueue (amendLoad_queue a s.dev)⟩
  | readConditions => exact ⟨_, rfl, takeRequest_keepsQueue (.refl s.dev)⟩
  | clearConditions m => exact ⟨_, rfl, request_leavesQueue rfl⟩
  | amendMask m => exact ⟨_, rfl, request_leavesQueue rfl⟩
  | saveImage => exact ⟨_, rfl, takeRequest_keepsQueue (takeSave_keepsQueue s)⟩
  | restart => exact ⟨_, rfl, takeRequest_keepsQueue (.refl s.dev)⟩
  | readIdentity => exact ⟨_, rfl, takeRequest_keepsQueue (.refl s.dev)⟩
  | badFrame b => exact ⟨_, rfl, request_keepsQueue (.refl s.dev)⟩
  | unknownRequest b => exact ⟨_, rfl, request_keepsQueue (.refl s.dev)⟩
  | fetchReply n => exact ⟨_, rfl, fetch_keepsQueue n s⟩
  | requestDiscarded b => exact ⟨_, rfl, .refl s.dev⟩
  | powerOn => exact ⟨_, rfl, .of_empty s.dev rfl⟩
  | resetPin => exact ⟨_, rfl, resetPin_keepsQueue s⟩
  | resetRelease => exact ⟨_, rfl, resetRelease_keepsQueue s⟩
  | restartTimeout => exact ⟨_, rfl, restartTimeout_keepsQueue s⟩
  | startupEnd b => exact ⟨_, rfl, startupEnd_keepsQueue b s⟩
  | secondTick => exact ⟨_, rfl, secondTick_keepsQueue s⟩
  | savePageWritten b => exact ⟨_, rfl, pageWritten_keepsQueue b s⟩
  | saveRetryTimer => exact ⟨_, rfl, saveRetry_keepsQueue s⟩
  | camLineEdge l => exact ⟨_, rfl, .of_queue (camLineEdge_quiet l s.dev).queue⟩
  | camConfirm => exact ⟨_, rfl, event_keepsQueue (camConfirm_keepsQueue s.dev)⟩
  | departureTimeout => exact ⟨_, rfl, event_keepsQueue (departureTimeout_keepsQueue s.dev)⟩
  | turnTimerExpiry => exact ⟨_, rfl, event_keepsQueue (turnTimerExpiry_keepsQueue s.dev)⟩
  | beamBreak => exact ⟨_, rfl, event_keepsQueue (beamBreak_keepsQueue s.dev)⟩
  | dropWindowExpiry => exact ⟨_, rfl, event_keepsQueue (dropWindowExpiry_keepsQueue s.dev)⟩
  | fitPulseEnd => exact ⟨_, rfl, event_keepsQueue (fitPulseEnd_keepsQueue s.dev)⟩
  | linkSlot => exact ⟨_, rfl, event_leavesQueue (linkSlot_queue s.dev)⟩
  | identifyTimer => exact ⟨_, rfl, event_leavesQueue (identifyExpiry_queue s.dev)⟩
  | linkFrame b e => exact ⟨_, rfl, event_leavesQueue (linkFrame_queue b e s.dev)⟩
  | linkReplyTimeout => exact ⟨_, rfl, event_leavesQueue (linkReplyTimeout_queue s.dev)⟩
  | coinTimeout => exact ⟨_, rfl, event_leavesQueue (coinTimeout_queue s.dev)⟩
  | pulseOnEnd => exact ⟨_, rfl, event_leavesQueue (onExpiry_queue fun _ => rfl)⟩
  | pulseGapEnd => exact ⟨_, rfl, event_leavesQueue (pulseGapEnd_queue s.dev)⟩
  | chuteWindowClose => exact ⟨_, rfl, event_leavesQueue (chuteWindowClose_queue s.dev)⟩
  | chuteCount => exact ⟨_, rfl, event_leavesQueue (chuteCount_queue s.dev)⟩
  | sinceDefrostTimer z => exact ⟨_, rfl, event_leavesQueue (sinceExpiry_queue z s.dev)⟩
  | defrostTimer z => exact ⟨_, rfl, event_leavesQueue (defrostExpiry_queue z s.dev)⟩
  | dripTimer z => exact ⟨_, rfl, event_leavesQueue (dripExpiry_queue z s.dev)⟩
  | zoneMinuteTimer z => exact ⟨_, rfl, event_leavesQueue (minuteExpiry_queue z s.dev)⟩
  | restTimer => exact ⟨_, rfl, event_leavesQueue (restTimer_queue s.dev)⟩
  | startTimer => exact ⟨_, rfl, event_leavesQueue (startTimer_queue s.dev)⟩
  | confirmLineEdge l => exact ⟨_, rfl, .of_queue (confirmLineEdge_quiet l s.dev).queue⟩
  | confirmChange => exact ⟨_, rfl, event_leavesQueue (confirmChange_queue s.dev)⟩
  | runTimer => exact ⟨_, rfl, event_leavesQueue (runTimer_queue s.dev)⟩
  | fanRunonTimer => exact ⟨_, rfl, .of_queue (onExpiry_queue fun _ => rfl)⟩
  | periodTimer => exact ⟨_, rfl, event_leavesQueue (onExpiry_queue fun _ => rfl)⟩
  | priorityTimer => exact ⟨_, rfl, event_leavesQueue (onExpiry_queue fun _ => rfl)⟩
  | conversionEnd r => exact ⟨_, rfl, event_keepsQueue (conversionEnd_keepsQueue r s.dev)⟩
  | inputLineEdge i l => exact ⟨_, rfl, .of_queue (inputLineEdge_quiet i l s.dev).queue⟩
  | inputChange i => exact ⟨_, rfl, event_keepsQueue (inputChange_keepsQueue i s.dev)⟩
  | linkFirstByte => exact ⟨_, rfl, event_leavesQueue rfl⟩

/-- Settles O8: every command keeps the queue sound, and so does the passing of time without one. -/
theorem orderQueueStaysSound : Obligations.OrderQueueStaysSound := by
  intro s t sound h
  unfold step at h
  split at h
  · obtain rfl := Host.Outcome.next.inj h
    exact KeepsQueue.of_queue (d := s.dev) (e := s.idle.dev) rfl sound
  next c rest _ =>
    obtain ⟨u, hu, keeps⟩ := exec_keepsQueue c { s with pending := rest }
    obtain rfl := Host.Outcome.next.inj (hu.symm.trans h)
    exact keeps sound

end Sys2Proof.Proofs
end

section
/-! SUPPORT. What leaves the money as it is: grants and claims, lanes, the compressor, the zones, the scanner and the
drive's motors change neither the credit record nor the coin link, nor whether the payout engine is idle. -/
namespace Sys2Proof.Proofs

open Sys2Proof.Machine Sys2Proof.Laws

-- One proof at a time: together they wait for the kernel in a thread each, and the memory limit is met.
set_option Elab.async false

/-- What the invariants of the mask and of the credit record read, with the rest of their records. -/
def purse (d : Device) : Credit × CoinAcceptance × Bool := (d.credit, d.coins, d.payout.idle)

/-- A change outside the credit record, the coin link and the payout engine. -/
theorem purse_of_frame {ps : List Part} {d e : Device} (h : d.changesOnly ps e)
    (hp : ∀ p ∈ [Part.credit, .coins, .payout], p ∉ ps) : purse e = purse d := by
  have credit : e.credit = d.credit := h .credit (hp _ (by simp))
  have coins : e.coins = d.coins := h .coins (hp _ (by simp))
  have payout : e.payout = d.payout := h .payout (hp _ (by simp))
  rw [purse, credit, coins, payout, purse]

theorem purse_credit {d e : Device} (h : purse e = purse d) : e.credit = d.credit := congrArg Prod.fst h

/-- An expiry leaves the money as its effect does. -/
theorem onExpiry_purse {t : Timer} {f : Nat → Device → Device} {d : Device}
    (h : ∀ due, purse (f due (d.reach due)) = purse d) : purse (d.onExpiry t f) = purse d := by
  unfold Device.onExpiry
  split
  · rfl
  next due => exact h due

/-- What leaves the money leaves it when it is skipped. -/
theorem skip_purse {p : Prop} [Decidable p] {d e : Device} (h : purse e = purse d) :
    purse (if p then d else e) = purse d := by
  split
  · rfl
  · exact h

/-- Neither branch of a request touches the money. -/
theorem ite_purse {p : Prop} [Decidable p] {a b : Device × Reply} {q : Credit × CoinAcceptance × Bool}
    (ha : purse a.1 = q) (hb : purse b.1 = q) : purse (if p then a else b).1 = q := by
  split
  · exact ha
  · exact hb

/-! ### Claims and grants -/

theorem updatePlan_purse {f : Plan → Plan} (h : ∀ p, ((f p).state = .ended) = (p.state = .ended)) (d : Device) :
    purse (d.updatePlan f) = purse d := by
  show (d.credit, d.coins, (d.updatePlan f).payout.idle) = purse d
  rw [updatePlan_idle h, purse]

@[simp] theorem tryPulse_purse (d : Device) : purse d.tryPulse = purse d := by
  unfold Device.tryPulse
  split
  · rfl
  split
  · split
    · rfl
    · rfl
  · rfl

theorem onGrant_purse (who : Claimant) (d : Device) : purse (d.onGrant who) = purse d := by
  cases who with
  | drive =>
    have frame := onGrant_frame .drive d
    have payout := onGrant_payout (who := .drive) (by simp) d
    have credit : (d.onGrant .drive).credit = d.credit := frame .credit (by simp)
    have coins : (d.onGrant .drive).coins = d.coins := frame .coins (by simp)
    rw [purse, credit, coins, payout, purse]
  | payout => exact (tryPulse_purse _).trans (updatePlan_purse (fun p => eject_ended p) d)
  | compressor => rfl
  | heater z => rfl

@[simp] theorem grantTest_purse (d : Device) : purse d.grantTest = purse d :=
  grantLoop_induct (R := fun d e => purse e = purse d) (fun _ => rfl) (fun h k => k.trans h)
    (fun {_ c _} _ _ _ => onGrant_purse c.who _) _ d

@[simp] theorem claim_purse (c : Claim) (d : Device) : purse (d.claim c) = purse d := grantTest_purse _

@[simp] theorem giveBack_purse (who : Claimant) (d : Device) : purse (d.giveBack who) = purse d := by
  unfold Device.giveBack
  split
  · exact grantTest_purse _
  · rfl

@[simp] theorem withdraw_purse (who : Claimant) (d : Device) : purse (d.withdraw who) = purse d := by
  simp only [Device.withdraw]
  split
  · exact grantTest_purse _
  · rfl

@[simp] theorem dropLoad_purse (who : Claimant) (d : Device) : purse (d.dropLoad who) = purse d := by
  unfold Device.dropLoad
  split
  · exact giveBack_purse who d
  · exact withdraw_purse who d

theorem amendLoad_purse (a : LoadAmend) (d : Device) : purse (amendLoad a d).1 = purse d :=
  ite_purse rfl (ite_purse rfl (by
    simp only [okay]
    split
    · exact grantTest_purse _
    · rfl))

/-! ### Lanes and motors -/

@[simp] theorem updateLane_purse (n : Fin 64) (f : Lane → Lane) (d : Device) : purse (d.updateLane n f) = purse d :=
  purse_of_frame (updateLane_frame n f d) (by simp)

@[simp] theorem changeLane_purse (n : Fin 64) (f : Lane → Lane) (d : Device) : purse (d.changeLane n f) = purse d :=
  purse_of_frame (changeLane_frame n f d) (by simp)

@[simp] theorem stopMotors_purse (n : Fin 64) (d : Device) : purse (d.stopMotors n) = purse d :=
  purse_of_frame (stopMotors_frame n d) (by simp)

@[simp] theorem stopWork_purse (n : Fin 64) (d : Device) : purse (d.stopWork n) = purse d :=
  (giveBack_purse .drive _).trans (stopMotors_purse n d)

theorem laneFault_purse (cause : EndCause) (n : Fin 64) (d : Device) : purse (d.laneFault cause n) = purse d := by
  unfold Device.laneFault
  split
  · exact changeLane_purse n _ d
  · exact changeLane_purse n _ d

theorem fitOutcome_purse (n : Fin 64) (pass : Bool) (d : Device) : purse (d.fitOutcome n pass) = purse d := by
  unfold Device.fitOutcome
  split
  · exact changeLane_purse n _ d
  · rfl

theorem decideHold_purse (n : Fin 64) (v : Bool) (d : Device) : purse (d.decideHold n v) = purse d := by
  unfold Device.decideHold
  split
  · exact changeLane_purse n _ d
  · rfl

@[simp] theorem holdSweep_purse (z : Fin 2) (d : Device) : purse (d.holdSweep z) = purse d :=
  foldl_rel (R := fun d e => purse e = purse d) (fun _ => rfl) (fun h k => k.trans h) (fun d n => by
    unfold Device.sweepLane
    split
    · rfl
    split
    · exact decideHold_purse n _ d
    · rfl) allLanes d

@[simp] theorem spoilCheck_purse (z : Fin 2) (d : Device) : purse (d.spoilCheck z) = purse d :=
  purse_of_frame (spoilCheck_marks z d).frame (by simp)

theorem onLane_purse {lane : Nat} {f : Fin 64 → Lane → Device → Device × Reply} {d : Device}
    (h : ∀ n l, purse (f n l d).1 = purse d) : purse (onLane lane f d).1 = purse d := by
  unfold onLane
  split
  · rfl
  split
  · rfl
  · exact h _ _

theorem readLane_purse (form lane : Nat) (d : Device) : purse (readLane form lane d).1 = purse d := by
  unfold readLane
  split
  · exact onLane_purse fun _ _ => rfl
  · split
    · rfl
    · exact onLane_purse fun _ _ => rfl
  · rfl

theorem restockLane_purse (lane stock : Nat) (d : Device) : purse (restockLane lane stock d).1 = purse d :=
  ite_purse rfl (onLane_purse fun _ _ => ite_purse rfl (updateLane_purse ..))

/-! ### The compressor -/

@[simp] theorem tryStart_purse (d : Device) : purse d.tryStart = purse d := by
  unfold Device.tryStart
  split
  · exact claim_purse ..
  · rfl

theorem leaveRest_purse (d : Device) : purse d.leaveRest = purse d := by
  unfold Device.leaveRest
  split
  · exact tryStart_purse _
  · rfl

@[simp] theorem leaveWaiting_purse (d : Device) : purse d.leaveWaiting = purse d := withdraw_purse ..

@[simp] theorem stopCompressor_purse (why : LastStop) (d : Device) : purse (d.stopCompressor why) = purse d :=
  giveBack_purse ..

theorem updateCompressor_purse (f : Compressor → Compressor) (d : Device) : purse (d.updateCompressor f) = purse d := rfl

theorem compressorAlarm_purse (a : CompressorAlarm) (d : Device) : purse (d.compressorAlarm a) = purse d := rfl

theorem failCompressor_purse (why : LastStop) (d : Device) : purse (d.failCompressor why) = purse d := by
  have stopped (f : Compressor → Compressor) : purse ((d.stopCompressor why).updateCompressor f) = purse d :=
    (updateCompressor_purse f _).trans (stopCompressor_purse why d)
  unfold Device.failCompressor
  dsimp only
  split
  · exact (compressorAlarm_purse _ _).trans ((updateCompressor_purse _ _).trans (stopped _))
  · exact stopped _

theorem stopIfMet_purse (d : Device) : purse d.stopIfMet = purse d := by
  unfold Device.stopIfMet
  split
  · exact stopCompressor_purse .demandMet d
  · rfl

theorem reportValves_purse (d : Device) : purse d.reportValves = purse d := by
  simp only [Device.reportValves]
  split
  · rfl
  split
  · exact tryStart_purse _
  split
  · exact leaveWaiting_purse _
  · exact stopIfMet_purse _

theorem condenserSample_purse (sample : Sample) (d : Device) : purse (d.condenserSample sample) = purse d := by
  simp only [Device.condenserSample]
  generalize hb : (if sample.bad && !d.compressor.condenser.any Sample.bad then _ else _) = b
  have alarmed : purse b = purse d := by
    rw [← hb]
    split
    · rfl
    · rfl
  have hot : purse b.hotStop = purse b := stopCompressor_purse .hot b
  rw [← alarmed]
  split
  · split
    · exact hot
    · rfl
  · split
    · exact hot
    · rfl
  · split
    · exact leaveWaiting_purse b
    · rfl
  · exact tryStart_purse b
  · rfl
  · rfl

theorem compressorRevoked_purse (d : Device) : purse d.compressorRevoked = purse d := by
  unfold Device.compressorRevoked
  split
  · exact stopCompressor_purse .supply d
  · rfl

theorem restTimer_purse (d : Device) : purse d.restTimer = purse d := onExpiry_purse fun _ => leaveRest_purse _

theorem confirmStart_purse (d : Device) : purse d.confirmStart = purse d := giveBack_purse ..

theorem startTimer_purse (d : Device) : purse d.startTimer = purse d := onExpiry_purse fun due => by
  split
  · exact failCompressor_purse .startFailed (d.reach due)
  · exact confirmStart_purse (d.reach due)

theorem confirmLineEdge_purse (level : Level) (d : Device) : purse (d.confirmLineEdge level) = purse d :=
  skip_purse rfl

theorem confirmActs_purse (before : Option Level) (level : Level) (d : Device) :
    purse (d.confirmActs before level) = purse d := by
  unfold Device.confirmActs
  split
  · rfl
  split
  · split
    · split
      · exact confirmStart_purse d
      · rfl
    · split
      · exact failCompressor_purse .confirmLost d
      · rfl
    · rfl
  · rfl

theorem confirmChange_purse (d : Device) : purse d.confirmChange = purse d :=
  onExpiry_purse fun _ => confirmActs_purse _ _ _

theorem runTimer_purse (d : Device) : purse d.runTimer = purse d := onExpiry_purse fun _ => stopIfMet_purse _

theorem clearLockout_purse (d : Device) : purse (clearLockout d).1 = purse d := ite_purse (leaveRest_purse _) rfl

/-! ### The zones -/

@[simp] theorem setZoneState_purse (z : Fin 2) (st : ZoneState) (d : Device) : purse (d.setZoneState z st) = purse d := by
  simp only [Device.setZoneState]
  exact (skip_purse (reportValves_purse _)).trans rfl

theorem checkDue_purse (z : Fin 2) (d : Device) : purse (d.checkDue z) = purse d := by
  simp only [Device.checkDue]
  split
  · exact (claim_purse _ _).trans (setZoneState_purse z .defrost _)
  · rfl

theorem endDefrost_purse (z : Fin 2) (st : ZoneState) (d : Device) : purse (d.endDefrost z st) = purse d :=
  (dropLoad_purse _ _).trans (setZoneState_purse z st _)

theorem checkInterval_purse (z : Fin 2) (d : Device) : purse (d.checkInterval z) = purse d := checkDue_purse z _

theorem probeFault_purse (z : Fin 2) (d : Device) : purse (d.probeFault z) = purse d := by
  simp only [Device.probeFault]
  split
  · exact endDefrost_purse z .probeFault d
  · exact setZoneState_purse z .probeFault _

theorem judgeAir_purse (z : Fin 2) (sample : Sample) (d : Device) : purse (d.judgeAir z sample) = purse d := by
  unfold Device.judgeAir
  split
  all_goals first | rfl | exact setZoneState_purse z _ d | exact probeFault_purse z d

theorem judgeWarm_purse (z : Fin 2) (sample : Sample) (d : Device) : purse (d.judgeWarm z sample) = purse d := by
  simp only [Device.judgeWarm]
  split
  · rfl
  · rfl

theorem airSample_purse (z : Fin 2) (sample : Sample) (d : Device) : purse (d.airSample z sample) = purse d := by
  have judged (e : Device) : purse ((e.judgeAir z sample).judgeWarm z sample) = purse e :=
    (judgeWarm_purse z sample _).trans (judgeAir_purse z sample e)
  simp only [Device.airSample, checkDue_purse]
  split
  · exact (holdSweep_purse z _).trans (judged _)
  · exact judged _

theorem evaporatorSample_purse (z : Fin 2) (sample : Sample) (d : Device) :
    purse (d.evaporatorSample z sample) = purse d := by
  simp only [Device.evaporatorSample]
  split
  · exact endDefrost_purse z .drip _
  · rfl

theorem sinceExpiry_purse (z : Fin 2) (d : Device) : purse (d.sinceExpiry z) = purse d :=
  onExpiry_purse fun _ => checkInterval_purse z _

theorem defrostExpiry_purse (z : Fin 2) (d : Device) : purse (d.defrostExpiry z) = purse d :=
  onExpiry_purse fun _ => endDefrost_purse z .drip _

theorem dripExpiry_purse (z : Fin 2) (d : Device) : purse (d.dripExpiry z) = purse d :=
  onExpiry_purse fun _ => (checkDue_purse z _).trans (setZoneState_purse z _ _)

theorem exposeMinute_purse (z : Fin 2) (d : Device) : purse (d.exposeMinute z) = purse d := by
  have spoiled := spoilCheck_purse z (d.updateZone z fun r => { r with exposure := bump r.exposure })
  simp only [Device.exposeMinute]
  generalize Device.spoilCheck z _ = b at spoiled ⊢
  split
  · exact spoiled
  · exact spoiled

theorem minuteExpiry_purse (z : Fin 2) (d : Device) : purse (d.minuteExpiry z) = purse d := onExpiry_purse fun due => by
  dsimp only
  split
  · exact exposeMinute_purse z _
  · rfl

theorem updateZone_purse (z : Fin 2) (f : Zone → Zone) (d : Device) : purse (d.updateZone z f) = purse d := rfl

theorem disableZone_purse (z : Fin 2) (d : Device) : purse (d.disableZone z) = purse d := by
  unfold Device.disableZone
  refine (holdSweep_purse z _).trans ((setZoneState_purse z .off _).trans ((updateZone_purse z _ _).trans ?_))
  split
  · exact endDefrost_purse z .off d
  · rfl

theorem enableZone_purse (z : Fin 2) (d : Device) : purse (d.enableZone z) = purse d := by
  unfold Device.enableZone
  exact (updateZone_purse z _ _).trans ((holdSweep_purse z _).trans (setZoneState_purse z .satisfied d))

theorem switchZone_purse (z : Fin 2) (before : Bool) (d : Device) : purse (d.switchZone z before) = purse d := by
  unfold Device.switchZone
  split
  · rfl
  split
  · exact disableZone_purse z d
  · exact enableZone_purse z d

theorem zoneEffects_purse (z : Fin 2) (old : ZoneSettings) (d : Device) : purse (d.zoneEffects z old) = purse d := by
  simp only [Device.zoneEffects]
  rw [skip_purse (checkInterval_purse z _), skip_purse (spoilCheck_purse z _), skip_purse (holdSweep_purse z _),
    switchZone_purse]

theorem amendZone_purse (zone : Nat) (a : ZoneAmend) (d : Device) : purse (amendZone zone a d).1 = purse d := by
  unfold amendZone
  split
  · rfl
  · exact ite_purse rfl (zoneEffects_purse _ _ _)

theorem startDefrost_purse (zone : Nat) (d : Device) : purse (startDefrost zone d).1 = purse d := by
  unfold startDefrost
  split
  · rfl
  next z _ =>
    refine ite_purse rfl ?_
    split
    · rfl
    · rfl
    · rfl
    all_goals exact checkDue_purse z _

/-! ### The scanner, the inputs and the drive -/

theorem readSample_purse (channel : Nat) (d : Device) : purse (readSample channel d).1 = purse d := by
  unfold readSample
  split
  · rfl
  · rfl

theorem scanNow_purse (d : Device) : purse (scanNow d).1 = purse d := ite_purse rfl rfl

theorem amendChannel_purse (channel : Nat) (a : ChannelAmend) (d : Device) :
    purse (amendChannel channel a d).1 = purse d := by
  unfold amendChannel
  split
  · rfl
  · refine ite_purse rfl (ite_purse rfl ?_)
    simp only [okay]
    split
    · rfl
    · rfl

theorem inputLineEdge_purse (i : InputName) (level : Level) (d : Device) : purse (d.inputLineEdge i level) = purse d :=
  skip_purse rfl

theorem camLineEdge_purse (level : CamLevel) (d : Device) : purse (d.camLineEdge level) = purse d := skip_purse rfl

theorem resumeUnit_purse (d : Device) : purse d.resumeUnit = purse d := by
  unfold Device.resumeUnit
  split
  · rfl
  · exact claim_purse ..

theorem startUnit_purse (d : Device) : purse d.startUnit = purse d := by
  unfold Device.startUnit
  split
  · rfl
  split
  · rfl
  · rfl

theorem startHead_purse (d : Device) : purse d.startHead = purse d := by
  unfold Device.startHead
  split
  · split
    · exact startUnit_purse _
    · rfl
  · rfl

theorem orderHalted_purse (tag : Nat) (d : Device) : purse (d.orderHalted tag) = purse d := by
  unfold Device.orderHalted
  split
  · rfl
  · rfl

end Sys2Proof.Proofs
end

section
/-! SUPPORT. R98, R74: every operation of the credit record, the coin link and the payout engine keeps the acceptance mask
and the credit record sound. -/
namespace Sys2Proof.Proofs

open Sys2Proof.Machine Sys2Proof.Laws

-- One proof at a time: together they wait for the kernel in a thread each, and the memory limit is met.
set_option Elab.async false

/-- R98, R74: one record keeps the mask and the credit record sound from another. -/
structure KeepsMoney (d e : Device) : Prop where
  mask : d.maskSound → e.maskSound
  credit : d.creditSound → e.creditSound

theorem KeepsMoney.refl (d : Device) : KeepsMoney d d := ⟨id, id⟩

theorem KeepsMoney.trans {a b c : Device} (h : KeepsMoney a b) (k : KeepsMoney b c) : KeepsMoney a c :=
  ⟨k.mask ∘ h.mask, k.credit ∘ h.credit⟩

theorem creditSound_of_same {d e : Device} (credit : e.credit = d.credit) (flight : e.coins.inFlight = d.coins.inFlight)
    (h : d.creditSound) : e.creditSound := by
  unfold Device.creditSound at h ⊢
  rw [credit, flight]
  exact h

theorem KeepsMoney.of_purse {d e : Device} (h : purse e = purse d) : KeepsMoney d e := by
  simp only [purse, Prod.mk.injEq] at h
  obtain ⟨credit, coins, idle⟩ := h
  refine ⟨fun sound => ?_, creditSound_of_same credit (congrArg _ coins)⟩
  unfold Device.maskSound at sound ⊢
  rw [coins, idle]
  exact sound

/-- What keeps the money sound does so after a change that leaves the money. -/
theorem KeepsMoney.after {d m e : Device} (h : KeepsMoney m e) (same : purse m = purse d := by rfl) : KeepsMoney d e :=
  (KeepsMoney.of_purse same).trans h

/-- What keeps the money sound does so before a change that leaves the money. -/
theorem KeepsMoney.before {d m e : Device} (h : KeepsMoney d m) (same : purse e = purse m := by rfl) : KeepsMoney d e :=
  h.trans (.of_purse same)

theorem onExpiry_keepsMoney {t : Timer} {f : Nat → Device → Device} {d : Device}
    (h : ∀ due, KeepsMoney (d.reach due) (f due (d.reach due))) : KeepsMoney d (d.onExpiry t f) := by
  unfold Device.onExpiry
  split
  · exact .refl d
  next due => exact (h due).after

/-- Both branches of a request keep the money sound. -/
theorem ite_keepsMoney {p : Prop} [Decidable p] {d : Device} {a b : Device × Reply} (ha : KeepsMoney d a.1)
    (hb : KeepsMoney d b.1) : KeepsMoney d (if p then a else b).1 := by
  split
  · exact ha
  · exact hb

/-! ### The mask -/

/-- R98: without the link or with the engine running no class is accepted. -/
theorem accepts_closed {d : Device} (h : ¬ (d.coins.link = .present ∧ d.payout.idle = true)) :
    d.accepts = fun _ => false := by
  funext c
  unfold Device.accepts
  by_cases link : d.coins.link = .present
  · have busy : d.payout.idle = false := Bool.eq_false_iff.2 fun idle => h ⟨link, idle⟩
    simp [busy]
  · simp [link]

theorem recomputeMask_maskSound (d : Device) : d.recomputeMask.maskSound := by
  intro held
  by_contra closed
  refine held ?_
  have none : d.accepts = fun _ => false := accepts_closed closed
  show classSet d.accepts = 0#8
  rw [none]
  rfl

theorem recomputeMask_keepsMoney (d : Device) : KeepsMoney d d.recomputeMask :=
  ⟨fun _ => recomputeMask_maskSound d, id⟩

theorem recomputeIf_keepsMoney (b : Bool) (d : Device) : KeepsMoney d (d.recomputeIf b) := by
  cases b
  · exact .refl d
  · exact recomputeMask_keepsMoney d

/-! ### The credit record -/

/-- R74: the balance falls to no less than what is committed. -/
theorem creditSound_of_less {d e : Device} (flight : e.coins.inFlight = d.coins.inFlight)
    (limit : e.credit.maxCredit = d.credit.maxCredit) (balance : e.credit.balance ≤ d.credit.balance)
    (committed : d.credit.committed ≤ d.credit.balance → e.credit.committed ≤ e.credit.balance) (h : d.creditSound) :
    e.creditSound := by
  obtain ⟨covered, bound, room⟩ := h
  refine ⟨committed covered, by omega, fun c hc routed => ?_⟩
  rw [flight] at hc
  have := room c hc routed
  omega

theorem setCommitted_keepsMoney {n : Nat} {d : Device}
    (h : d.credit.committed ≤ d.credit.balance → n ≤ d.credit.balance) :
    KeepsMoney d (d.setCommitted n) :=
  ⟨id, creditSound_of_less (e := d.setCommitted n) rfl rfl (Nat.le_refl _) h⟩

/-- R75, R98: what a new balance leaves, and its mask. -/
theorem setBalance_spec (n : Nat) (d : Device) :
    (d.setBalance n).credit.balance = n ∧ (d.setBalance n).credit.committed = d.credit.committed ∧
      (d.setBalance n).credit.maxCredit = d.credit.maxCredit ∧ (d.setBalance n).coins.inFlight = d.coins.inFlight ∧
      (d.maskSound → (d.setBalance n).maskSound) := by
  unfold Device.setBalance
  split
  next same => exact ⟨same.symm, rfl, rfl, rfl, id⟩
  · exact ⟨rfl, rfl, rfl, rfl, fun _ => recomputeMask_maskSound _⟩

theorem setBalance_keepsMoney {n : Nat} {d : Device} (less : n ≤ d.credit.balance)
    (h : d.credit.committed ≤ d.credit.balance → d.credit.committed ≤ n) : KeepsMoney d (d.setBalance n) := by
  obtain ⟨balance, committed, limit, flight, mask⟩ := setBalance_spec n d
  exact ⟨mask, creditSound_of_less flight limit (by rw [balance]; exact less) (by rw [balance, committed]; exact h)⟩

/-- R77: balance and committed fall together. -/
theorem charge_keepsMoney (price : Nat) (d : Device) : KeepsMoney d (d.charge price) := by
  obtain ⟨balance, committed, limit, flight, mask⟩ :=
    setBalance_spec (d.credit.balance - price) (d.setCommitted (d.credit.committed - price))
  refine ⟨mask, creditSound_of_less flight limit ?_ fun covered => ?_⟩
  · exact (Nat.le_of_eq balance).trans (Nat.sub_le _ _)
  · exact (Nat.le_of_eq committed).trans ((Nat.sub_le_sub_right covered price).trans (Nat.le_of_eq balance.symm))

theorem releaseCredit_keepsMoney (amount : Nat) (d : Device) : KeepsMoney d (d.releaseCredit amount) :=
  setCommitted_keepsMoney fun covered => (Nat.sub_le _ _).trans covered

/-! ### Plans and paybacks -/

theorem planned_purse {kind : PlanKind} {req : Requested} {lines : List (Fin 6 × Nat)} {d : Device} :
    (planned kind req lines d).credit = d.credit ∧ (planned kind req lines d).coins = d.coins := by
  rw [planned_eq]
  exact ⟨rfl, rfl⟩

/-- A plan without lines has ended, and one with lines leaves the mask empty. -/
theorem makePlan_keepsMoney (kind : PlanKind) (req : Requested) (lines : List (Fin 6 × Nat)) (d : Device) :
    KeepsMoney d (d.makePlan kind req lines) := by
  obtain ⟨credit, coins⟩ := planned_purse (kind := kind) (req := req) (lines := lines) (d := d)
  have made : d.creditSound → (planned kind req lines d).creditSound :=
    creditSound_of_same credit (congrArg CoinAcceptance.inFlight coins)
  cases lines with
  | nil => exact ⟨fun sound held => ⟨(sound held).1, rfl⟩, made⟩
  | cons l rest =>
    refine ⟨fun _ => recomputeMask_maskSound _, fun sound => ?_⟩
    have claimed := KeepsMoney.of_purse (claim_purse payoutClaim (planned kind req (l :: rest) d))
    exact (claimed.trans (recomputeMask_keepsMoney _)).credit (made sound)

theorem markRefund_keepsMoney (k : RefundPending) (d : Device) : KeepsMoney d (d.markRefund k) := by
  unfold Device.markRefund
  split
  · exact .refl d
  · exact ⟨id, id⟩

theorem servePayback_keepsMoney (d : Device) : KeepsMoney d d.servePayback := by
  unfold Device.servePayback
  split
  · exact .refl d
  split
  · refine (markRefund_keepsMoney .no d).trans ?_
    dsimp only
    split
    · exact .refl _
    · exact makePlan_keepsMoney ..
  · exact .refl d

theorem askPayback_keepsMoney (k : RefundPending) (d : Device) : KeepsMoney d (d.askPayback k) :=
  (markRefund_keepsMoney _ d).trans (servePayback_keepsMoney _)

theorem takeRefund_keepsMoney (d : Device) : KeepsMoney d (takeRefund d).1 :=
  ite_keepsMoney (.refl d) (ite_keepsMoney (.refl d) ((markRefund_keepsMoney .no d).trans (makePlan_keepsMoney ..)))

/-- R86: a limit not below the balance, with no coin in flight. -/
theorem amendCreditLimit_keepsMoney (m : Nat) (d : Device) : KeepsMoney d (amendCreditLimit m d).1 := by
  unfold amendCreditLimit
  split
  · exact .refl d
  next range =>
    split
    · exact .refl d
    next still =>
      simp only [Bool.not_eq_true', Bool.not_eq_false, Bool.and_eq_true, decide_eq_true_eq] at range
      have limited : KeepsMoney d { d with credit := { d.credit with maxCredit := m } } :=
        ⟨id, fun sound => ⟨sound.1, range.2, fun c hc _ => absurd (Option.isSome_iff_exists.2 ⟨c, hc⟩) still⟩⟩
      exact limited.trans (recomputeIf_keepsMoney _ _)

/-! ### The payout engine -/

theorem coinIn_purse (t : Fin 6) (d : Device) : purse (d.coinIn t) = purse d := by
  unfold Device.coinIn
  split
  · rfl
  · rfl

theorem coinOut_purse (t : Fin 6) (d : Device) : purse (d.coinOut t) = purse d := by
  simp only [Device.coinOut]
  split
  · rfl
  · rfl

theorem replan_purse (d : Device) : purse d.replan = purse d := by
  have idle := replan_idle d
  rw [replan_payout]
  show (d.credit, d.coins, d.replan.payout.idle) = purse d
  rw [idle, purse]

/-- R119: a plan that is closed leaves the engine idle. -/
theorem closePlan_keepsMoney (d : Device) : KeepsMoney d d.closePlan := by
  have idle : d.closePlan.payout.idle = true := by
    cases h : d.payout.plan <;> simp [Device.closePlan, Device.updatePlan, Payout.idle, h]
  exact ⟨fun sound held => ⟨(sound held).1, idle⟩, id⟩

theorem endPlan_keepsMoney (d : Device) : KeepsMoney d d.endPlan := by
  have dropped : KeepsMoney d ((d.closePlan.dropLoad .payout).raise .payoutEnded) :=
    (closePlan_keepsMoney d).before (dropLoad_purse .payout _)
  exact (dropped.trans (recomputeMask_keepsMoney _)).trans (servePayback_keepsMoney _)

theorem afterWindow_keepsMoney (d : Device) : KeepsMoney d d.afterWindow := by
  simp only [Device.afterWindow]
  split
  · exact .of_purse (tryPulse_purse d)
  split
  · exact .of_purse ((tryPulse_purse _).trans (replan_purse d))
  · exact (endPlan_keepsMoney _).after (replan_purse d)

theorem jamTube_keepsMoney (t : Fin 6) (d : Device) : KeepsMoney d (d.jamTube t) :=
  ⟨fun _ => recomputeMask_maskSound _, id⟩

theorem closeWindow_keepsMoney (c : PendingCoin) (d : Device) : KeepsMoney d (d.closeWindow c) := by
  unfold Device.closeWindow
  split
  · exact (afterWindow_keepsMoney _).after
  split
  · exact (afterWindow_keepsMoney _).after
  split
  · exact (afterWindow_keepsMoney _).after
  · have jammed : KeepsMoney d ((d.setCoin none).jamTube c.tube) := (jamTube_keepsMoney c.tube _).after
    exact jammed.trans ((afterWindow_keepsMoney _).after (replan_purse _))

/-- R77: a paid coin lowers the balance by no more than what is uncommitted. -/
theorem debitCoin_keepsMoney (v : Nat) (d : Device) : KeepsMoney d (d.debitCoin v) := by
  simp only [Device.debitCoin]
  split
  · have lowered : KeepsMoney d (d.setBalance (d.credit.balance - d.credit.debit v)) := by
      refine setBalance_keepsMoney (Nat.sub_le _ _) fun covered => ?_
      simp only [Credit.debit, Credit.uncommitted]
      omega
    exact lowered.before (updatePlan_purse (f := fun p =>
      { p with overpaid := satAdd 65535 p.overpaid (v - d.credit.debit v) }) (fun _ => rfl) _)
  · exact .refl d

theorem payCoin_keepsMoney (c : PendingCoin) (d : Device) : KeepsMoney d (d.payCoin c) := by
  have counted : purse (((d.setCoin (some { c with seen := c.seen + 1 })).coinOut c.tube).updatePlan
      (Plan.payCoin c.line (d.tubeValue c.tube))) = purse d :=
    (updatePlan_purse (f := Plan.payCoin c.line (d.tubeValue c.tube)) (fun _ => rfl) _).trans (coinOut_purse c.tube _)
  exact ((debitCoin_keepsMoney _ _).after counted).trans (recomputeIf_keepsMoney _ _)

theorem payoutRevoked_purse (d : Device) : purse d.payoutRevoked = purse d :=
  (claim_purse payoutClaim _).trans (updatePlan_purse waitAgain_ended _)

theorem pulseGapEnd_purse (d : Device) : purse d.pulseGapEnd = purse d := onExpiry_purse fun _ => tryPulse_purse _

theorem chuteWindowClose_keepsMoney (d : Device) : KeepsMoney d d.chuteWindowClose := by
  unfold Device.chuteWindowClose
  split
  · exact .refl d
  next c _ =>
    split
    · exact (closeWindow_keepsMoney c (d.reach c.windowEnd)).after
    · exact .refl d

theorem chuteCount_keepsMoney (d : Device) : KeepsMoney d d.chuteCount := by
  unfold Device.chuteCount
  split
  · exact .of_purse rfl
  next c _ =>
    split
    · exact payCoin_keepsMoney c d
    · exact .of_purse rfl

theorem amendTube_keepsMoney (tube : Nat) (a : TubeAmend) (d : Device) : KeepsMoney d (amendTube tube a d).1 := by
  unfold amendTube
  split
  · exact .refl d
  next t _ =>
    refine ite_keepsMoney (.refl d) (ite_keepsMoney (.refl d) (ite_keepsMoney (.refl d) (ite_keepsMoney (.refl d) ?_)))
    exact (recomputeIf_keepsMoney _ (d.updateTube t (TubeAmend.applied a))).after

theorem setTubeCount_keepsMoney (tube count : Nat) (d : Device) : KeepsMoney d (setTubeCount tube count d).1 := by
  unfold setTubeCount
  split
  · exact .refl d
  · exact ite_keepsMoney (.refl d) (ite_keepsMoney (.refl d) (recomputeIf_keepsMoney _ _).after)

theorem dispense_keepsMoney (tube n : Nat) (d : Device) : KeepsMoney d (dispense tube n d).1 := by
  unfold dispense
  split
  · exact .refl d
  · refine ite_keepsMoney (.refl d) (ite_keepsMoney (.refl d) (ite_keepsMoney (.refl d) (ite_keepsMoney (.refl d) ?_)))
    dsimp only
    exact makePlan_keepsMoney ..

theorem amendPayout_purse (a : PayoutAmend) (d : Device) : purse (amendPayout a d).1 = purse d := ite_purse rfl rfl

/-! ### The coin link -/

/-- A change of the coin link that leaves the mask, the link's state and the coin in flight. -/
theorem updateCoins_keepsMoney {f : CoinAcceptance → CoinAcceptance} {d : Device}
    (mask : (f d.coins).mask = d.coins.mask := by rfl) (link : (f d.coins).link = d.coins.link := by rfl)
    (flight : (f d.coins).inFlight = d.coins.inFlight := by rfl) : KeepsMoney d (d.updateCoins f) := by
  refine ⟨fun sound held => ?_, creditSound_of_same (e := d.updateCoins f) rfl flight⟩
  show (f d.coins).link = .present ∧ d.payout.idle = true
  rw [link]
  exact sound (mask ▸ held)

theorem send_keepsMoney (m : Message) (d : Device) : KeepsMoney d (d.send m) := updateCoins_keepsMoney

theorem openSlot_keepsMoney (d : Device) : KeepsMoney d d.openSlot := by
  unfold Device.openSlot
  split
  · exact send_keepsMoney _ d
  · exact .refl d

theorem afterExchange_keepsMoney (d : Device) : KeepsMoney d d.afterExchange := by
  unfold Device.afterExchange
  split
  · split
    · exact openSlot_keepsMoney d
    · exact updateCoins_keepsMoney
  · exact .refl d

/-- R76: the records with no coin in flight. -/
def landed (d : Device) : Device := d.updateCoins fun c => { c with inFlight := none, marker := none }

theorem landed_keepsMoney (d : Device) : KeepsMoney d (landed d) :=
  ⟨id, fun ⟨covered, bound, _⟩ => ⟨covered, bound, fun _ hc => absurd hc (by simp [landed, Device.updateCoins])⟩⟩

/-- The end of a handshake keeps what stands once its coin is out of flight. -/
theorem landed_endHandshake (d : Device) : KeepsMoney (landed d) d.endHandshake :=
  (servePayback_keepsMoney ((landed d).raise .creditChanged)).after

theorem endHandshake_keepsMoney (d : Device) : KeepsMoney d d.endHandshake :=
  (landed_keepsMoney d).trans (landed_endHandshake d)

theorem endUncertain_keepsMoney (coin : CoinInFlight) (cause : UncertainCause) (d : Device) :
    KeepsMoney d (d.endUncertain coin cause) := by
  have noted (u : UncertainCoin) : KeepsMoney d (d.updateCoins fun c => { c with uncertain := some u }) :=
    updateCoins_keepsMoney
  exact ((noted _).trans (endHandshake_keepsMoney _)).before

/-- R99: a coin routed to a tube or the cash box fits max credit. -/
theorem routeFor_fits {c : Fin 8} {d : Device} (h : (d.routeFor c).1 ≠ .reject) :
    d.credit.balance + d.coins.classes[c].value ≤ d.credit.maxCredit := by
  by_contra above
  refine h ?_
  simp only [Device.routeFor, Nat.lt_of_not_le above, if_true]
  split
  · rfl
  split
  · rfl
  · rfl

theorem offer_keepsMoney (c : Fin 8) (d : Device) : KeepsMoney d (d.offer c) := by
  refine ⟨id, fun ⟨covered, bound, _⟩ => ⟨covered, bound, fun coin hc routed => ?_⟩⟩
  obtain rfl := Option.some.inj hc
  exact routeFor_fits routed

theorem setRouteState_keepsMoney (r : RouteState) (d : Device) : KeepsMoney d (d.setRouteState r) := by
  refine ⟨id, fun ⟨covered, bound, room⟩ => ⟨covered, bound, fun coin hc routed => ?_⟩⟩
  obtain ⟨k, hk, rfl⟩ := Option.map_eq_some_iff.1 hc
  exact room k hk routed

theorem coinReady_keepsMoney (c : Fin 8) (d : Device) : KeepsMoney d (d.coinReady c) := by
  unfold Device.coinReady
  split
  · exact offer_keepsMoney c d
  next coin _ =>
    split
    · exact setRouteState_keepsMoney .due d
    · exact (endUncertain_keepsMoney coin .protocol d).trans (offer_keepsMoney c _)

theorem countCoin_frame (coin : CoinInFlight) (d : Device) :
    d.changesOnly [.conditions, .coins, .payout] (d.countCoin coin) := by
  unfold Device.countCoin Device.coinIn
  split
  · split
    · exact fun p hp => by cases p <;> first | rfl | simp at hp
    · exact fun p hp => by cases p <;> first | rfl | simp at hp
  · exact fun p hp => by cases p <;> first | rfl | simp at hp
  · exact changesOnly_refl _ d

/-- R76: the room kept for a routed coin takes its value. -/
theorem coinDone_keepsMoney (c : Fin 8) (d : Device) : KeepsMoney d (d.coinDone c) := by
  unfold Device.coinDone
  split
  · exact .refl d
  next coin flies =>
    split
    · exact endUncertain_keepsMoney coin .protocol d
    next routed =>
      refine ⟨fun _ => recomputeMask_maskSound _, fun ⟨covered, _, room⟩ => ?_⟩
      simp only [Bool.or_eq_true, decide_eq_true_eq, not_or] at routed
      have counted : (d.countCoin coin).credit = d.credit := countCoin_frame coin d .credit (by simp)
      refine (recomputeMask_keepsMoney _).credit ((landed_endHandshake _).credit ⟨?_, ?_, fun _ hc => ?_⟩)
      · show (d.countCoin coin).credit.committed ≤ (d.countCoin coin).credit.balance + coin.value
        rw [counted]
        omega
      · show (d.countCoin coin).credit.balance + coin.value ≤ (d.countCoin coin).credit.maxCredit
        rw [counted]
        exact room coin flies routed.1
      · exact absurd hc (by simp [landed, Device.updateCoins])

theorem coinReturned_keepsMoney (d : Device) : KeepsMoney d d.coinReturned := by
  unfold Device.coinReturned
  split
  · exact endHandshake_keepsMoney d
  · exact .refl d

theorem linkPresent_keepsMoney (bytes : List Byte) (d : Device) : KeepsMoney d (d.linkPresent bytes) :=
  ⟨fun _ => recomputeMask_maskSound _, id⟩

theorem handleReport_keepsMoney (r : Report) (d : Device) : KeepsMoney d (d.handleReport r) := by
  cases r with
  | idle => exact .refl d
  | coinReady c => exact coinReady_keepsMoney c d
  | coinDone c => exact coinDone_keepsMoney c d
  | coinReturned c => exact coinReturned_keepsMoney d
  | returnLever => exact askPayback_keepsMoney .refund d
  | fault code =>
    have noted : KeepsMoney d (d.updateCoins fun c =>
        { c with lastFault := some code, faultCount := satAdd 255 c.faultCount 1 }) := updateCoins_keepsMoney
    exact noted.before
  | ident bytes => exact linkPresent_keepsMoney bytes d

theorem acknowledge_keepsMoney (m : Message) (d : Device) : KeepsMoney d (d.acknowledge m) := by
  cases m with
  | setMask k =>
    simp only [Device.acknowledge]
    exact updateCoins_keepsMoney
  | route c r => exact setRouteState_keepsMoney .sent d
  | poll => exact .refl d
  | identify => exact .refl d

theorem replied_keepsMoney (m : Message) (r : Report) (d : Device) : KeepsMoney d (d.replied m r) := by
  have closed : KeepsMoney d (d.closeExchange.updateCoins fun c => { c with missCount := 0 }) :=
    KeepsMoney.trans (b := d.closeExchange) updateCoins_keepsMoney updateCoins_keepsMoney
  exact ((closed.trans (acknowledge_keepsMoney m _)).trans (handleReport_keepsMoney r _)).trans (afterExchange_keepsMoney _)

theorem loseCoin_keepsMoney (d : Device) : KeepsMoney d d.loseCoin := by
  unfold Device.loseCoin
  split
  · exact .refl d
  next coin _ => exact endUncertain_keepsMoney coin .linkLost d

theorem linkLost_keepsMoney (d : Device) : KeepsMoney d d.linkLost := by
  have masked : KeepsMoney d (Device.recomputeMask (d.updateCoins fun c =>
      { c with link := .absent, missCount := 0, acknowledged := none, slotTimer := none })) :=
    ⟨fun _ => recomputeMask_maskSound _, id⟩
  exact (masked.trans (loseCoin_keepsMoney _)).trans ((send_keepsMoney .identify _).after)

theorem missed_keepsMoney (m : Message) (d : Device) : KeepsMoney d (d.missed m) := by
  simp only [Device.missed]
  generalize hb : Device.updateCoins _ d.closeExchange = b
  have marked : KeepsMoney d b := by
    subst hb
    exact KeepsMoney.trans (b := d.closeExchange) updateCoins_keepsMoney updateCoins_keepsMoney
  have counted : KeepsMoney d (b.updateCoins fun c => { c with missCount := c.missCount + 1 }) :=
    marked.trans updateCoins_keepsMoney
  split
  · exact marked
  split
  · exact counted.trans (linkLost_keepsMoney _)
  · exact counted.trans (afterExchange_keepsMoney _)

theorem linkSlot_keepsMoney (d : Device) : KeepsMoney d d.linkSlot :=
  onExpiry_keepsMoney fun _ => KeepsMoney.trans updateCoins_keepsMoney (openSlot_keepsMoney _)

theorem identifyExpiry_keepsMoney (d : Device) : KeepsMoney d d.identifyExpiry := onExpiry_keepsMoney fun due => by
  split
  · exact send_keepsMoney .identify _
  · exact .refl _

theorem linkFirstByte_keepsMoney (d : Device) : KeepsMoney d d.linkFirstByte := updateCoins_keepsMoney

theorem linkFrame_keepsMoney (bytes : List Byte) (framingError : Bool) (d : Device) :
    KeepsMoney d (d.linkFrame bytes framingError) := by
  unfold Device.linkFrame
  split
  · exact .refl d
  split
  · split
    · exact replied_keepsMoney ..
    · exact missed_keepsMoney ..
  · exact .refl d

theorem linkReplyTimeout_keepsMoney (d : Device) : KeepsMoney d d.linkReplyTimeout := by
  unfold Device.linkReplyTimeout
  split
  · exact .refl d
  next e _ => exact onExpiry_keepsMoney fun _ => missed_keepsMoney e.message _

theorem coinTimeout_keepsMoney (d : Device) : KeepsMoney d d.coinTimeout := by
  unfold Device.coinTimeout
  split
  · exact .refl d
  next coin _ => exact (endUncertain_keepsMoney coin .timeout _).after

theorem findCoinMarker_keepsMoney (d : Device) : KeepsMoney d d.findCoinMarker := by
  unfold Device.findCoinMarker
  split
  · exact .refl d
  next m _ =>
    have noted (u : UncertainCoin) : KeepsMoney d (d.updateCoins fun c => { c with uncertain := some u }) :=
      updateCoins_keepsMoney
    exact ((noted _).trans (endHandshake_keepsMoney _)).before

theorem amendClass_keepsMoney (k : Nat) (a : ClassAmend) (d : Device) : KeepsMoney d (amendClass k a d).1 := by
  unfold amendClass
  split
  · exact .refl d
  · refine ite_keepsMoney (.refl d) (ite_keepsMoney (.refl d) ?_)
    exact KeepsMoney.trans updateCoins_keepsMoney (recomputeMask_keepsMoney _)

theorem amendLink_keepsMoney (a : LinkAmend) (d : Device) : KeepsMoney d (amendLink a d).1 :=
  ite_keepsMoney (by
    simp only [okay]
    exact updateCoins_keepsMoney) (.refl d)

theorem clearCashbox_keepsMoney (d : Device) : KeepsMoney d (clearCashbox d).1 := by
  simp only [clearCashbox]
  exact updateCoins_keepsMoney

end Sys2Proof.Proofs
end

section
/-! SUPPORT. R98, R74: the sale keeps the acceptance mask and the credit record sound: orders that are placed, credited,
ended, halted and started, what the end of an event does, and the drive's, the scanner's and the inputs' events. -/
namespace Sys2Proof.Proofs

open Sys2Proof.Machine Sys2Proof.Laws

-- One proof at a time: together they wait for the kernel in a thread each, and the memory limit is met.
set_option Elab.async false

/-! ### Orders that end or are credited -/

theorem releaseUnits_keepsMoney (o : Order) (m : Nat) (d : Device) : KeepsMoney d (d.releaseUnits o m) := by
  simp only [Device.releaseUnits]
  split
  · exact (releaseCredit_keepsMoney _ _).after (updateLane_purse ..)
  · exact .of_purse (updateLane_purse ..)

theorem endLive_keepsMoney (o : Order) (cause : EndCause) (failed : Nat) (d : Device) :
    KeepsMoney d (d.endLive o cause failed) := by
  rw [endLive_eq]
  exact (releaseUnits_keepsMoney o _ d).before

theorem endOrder_keepsMoney (tag : Nat) (cause : EndCause) (d : Device) : KeepsMoney d (d.endOrder tag cause) := by
  unfold Device.endOrder
  split
  · exact .refl d
  next o _ => exact endLive_keepsMoney o cause 0 d

theorem endAll_keepsMoney (cause : EndCause) (orders : List Order) (d : Device) :
    KeepsMoney d (orders.foldl (fun d o => d.endOrder o.tag cause) d) :=
  foldl_rel KeepsMoney.refl KeepsMoney.trans (fun d o => endOrder_keepsMoney o.tag cause d) orders d

theorem unitFailed_keepsMoney (tag : Nat) (cause : EndCause) (d : Device) : KeepsMoney d (d.unitFailed tag cause) := by
  unfold Device.unitFailed
  split
  · exact .refl d
  next o _ => exact (releaseUnits_keepsMoney o 1 d).trans (endLive_keepsMoney o cause 1 _)

theorem unitDelivered_keepsMoney (tag : Nat) (d : Device) : KeepsMoney d (d.unitDelivered tag) := by
  unfold Device.unitDelivered
  split
  · exact .refl d
  next o _ =>
    dsimp only
    generalize he : Device.setUnitPos .none _ = e
    have charged : KeepsMoney d e := by
      rw [← he]
      have taken : purse ((d.updateOrder tag Order.credit).deliverStock o.lane) = purse d := updateLane_purse ..
      refine KeepsMoney.before (m := if o.payment = .credit then _ else _) ?_
      split
      · exact (charge_keepsMoney o.price _).after taken
      · exact .of_purse taken
    split
    · exact charged.trans (endOrder_keepsMoney tag .completed e)
    · exact charged

/-! ### The end of an event -/

theorem afterEndings_keepsMoney (q0 : OrderQueue) (asked : Bool) (d : Device) :
    KeepsMoney d (d.afterEndings q0 asked).1 := by
  unfold Device.afterEndings
  split
  · exact .refl d
  split
  · exact (askPayback_keepsMoney .change d).before (startHead_purse _)
  · exact .of_purse (startHead_purse d)

theorem takeJob_keepsMoney (job : Job) (d : Device) : KeepsMoney d (d.takeJob job) := by
  unfold Device.takeJob
  split
  · split
    · exact .refl d
    · split
      · exact .of_purse (claim_purse ..)
      · exact .refl d
  · split
    · exact endOrder_keepsMoney _ _ d
    · split
      · exact .refl d
      · exact .of_purse (claim_purse ..)

theorem takeLoop_keepsMoney (q0 : OrderQueue) (fuel : Nat) : ∀ (asked : Bool) (d : Device),
    KeepsMoney d (d.takeLoop q0 fuel asked) := by
  induction fuel with
  | zero => exact fun _ d => .refl d
  | succ fuel ih =>
    intro asked d
    simp only [Device.takeLoop]
    split
    next job rest _ _ =>
      have taken : KeepsMoney d (Device.takeJob job { d with drive := { d.drive with jobs := rest } }) :=
        (takeJob_keepsMoney job _).after
      split
      · exact taken.trans (ih _ _)
      · exact (taken.trans (afterEndings_keepsMoney q0 asked _)).trans (ih _ _)
    · exact .refl d

theorem takeFrom_keepsMoney (q0 : OrderQueue) (d : Device) : KeepsMoney d (d.takeFrom q0) := takeLoop_keepsMoney ..

/-- What keeps the money sound does so to the end of its event. -/
theorem KeepsMoney.conclude {d e : Device} (h : KeepsMoney d e) (q0 : OrderQueue) : KeepsMoney d (e.conclude q0) :=
  (h.trans (afterEndings_keepsMoney q0 false e)).trans (takeLoop_keepsMoney ..)

theorem KeepsMoney.unitDelivered {d e : Device} (h : KeepsMoney d e) (tag : Nat) : KeepsMoney d (e.unitDelivered tag) :=
  h.trans (unitDelivered_keepsMoney tag e)

theorem KeepsMoney.startUnit {d e : Device} (h : KeepsMoney d e) : KeepsMoney d e.startUnit := h.before (startUnit_purse e)

theorem KeepsMoney.orderHalted {d e : Device} (h : KeepsMoney d e) (tag : Nat) : KeepsMoney d (e.orderHalted tag) :=
  h.before (orderHalted_purse tag e)

theorem joinJobs_keepsMoney (job : Job) (d : Device) : KeepsMoney d (d.joinJobs job) := (takeFrom_keepsMoney _ _).after

/-! ### Halting, resuming and abandoning (R36 to R39) -/

/-- A halted unit stands at its mark. -/
theorem KeepsMoney.halted {d e : Device} (h : KeepsMoney d e) (tag : Nat) (revoked : Bool) :
    KeepsMoney d (((e.updateJob (·.halt revoked)).setUnitPos .halted).orderHalted tag) :=
  (h.before (e := (e.updateJob (·.halt revoked)).setUnitPos .halted)).orderHalted tag

theorem haltActive_keepsMoney (tag : Nat) (revoked : Bool) (j : ActiveJob) (d : Device) :
    KeepsMoney d (d.haltActive tag revoked j) := by
  unfold Device.haltActive
  split
  · exact KeepsMoney.halted (.of_purse (withdraw_purse .drive d)) tag revoked
  · have stopped : KeepsMoney d (d.stopWork j.job.lane) := .of_purse (stopWork_purse j.job.lane d)
    have ended : KeepsMoney d (d.stopWork j.job.lane).endJob := stopped.before
    dsimp only
    split
    · exact (ended.unitDelivered tag).orderHalted tag
    · exact stopped.halted tag revoked
  all_goals exact .of_purse (orderHalted_purse tag d)

theorem haltOrder_keepsMoney (revoked : Bool) (d : Device) : KeepsMoney d (d.haltOrder revoked) := by
  unfold Device.haltOrder
  split
  · exact .refl d
  next o _ =>
    split
    · split
      next j _ => exact haltActive_keepsMoney o.tag revoked j d
      · exact .of_purse (orderHalted_purse o.tag _)
    · exact .refl d

theorem abandonReport_keepsMoney (tag : Nat) (j : ActiveJob) (d : Device) : KeepsMoney d (d.abandonReport tag j) := by
  unfold Device.abandonReport
  split
  · exact unitDelivered_keepsMoney tag d
  · exact .refl d

theorem abandon_keepsMoney (tag : Nat) (d : Device) : KeepsMoney d (d.abandon tag) := by
  unfold Device.abandon
  split
  · exact .of_purse rfl
  next j _ =>
    split
    · exact (abandonReport_keepsMoney tag j _).after (withdraw_purse .drive d)
    · exact (abandonReport_keepsMoney tag j _).after (stopWork_purse _ d)
    all_goals exact (abandonReport_keepsMoney tag j _).after

theorem giveUp_keepsMoney (o : Order) (cause : EndCause) (d : Device) : KeepsMoney d (d.giveUp o cause) := by
  unfold Device.giveUp
  split
  · exact (abandon_keepsMoney o.tag d).trans (endOrder_keepsMoney o.tag cause _)
  · exact endOrder_keepsMoney o.tag cause d

/-! ### The drive's failures, turns and events -/

theorem reportFault_keepsMoney (cause : EndCause) (n : Fin 64) (tag : Nat) (j : ActiveJob) (d : Device) :
    KeepsMoney d (d.reportFault cause n tag j) := by
  unfold Device.reportFault
  dsimp only
  split
  · split
    · exact unitDelivered_keepsMoney tag d
    · exact ((unitDelivered_keepsMoney tag d).before (laneFault_purse cause n _)).trans (endOrder_keepsMoney tag cause _)
  split
  · exact unitFailed_keepsMoney tag .supply d
  · exact (unitFailed_keepsMoney tag cause d).before (laneFault_purse cause n _)

theorem unitFault_keepsMoney (cause : EndCause) (d : Device) : KeepsMoney d (d.unitFault cause) := by
  unfold Device.unitFault
  split
  · exact .refl d
  next j _ =>
    split
    · exact .refl d
    next n tag _ =>
      have reported : KeepsMoney d ((d.stopWork n).endJob.reportFault cause n tag j) :=
        (reportFault_keepsMoney cause n tag j _).after (stopWork_purse n d)
      exact reported.startUnit.conclude _

theorem decideTurn_keepsMoney (at_ : Nat) (n : Fin 64) (tag : Nat) (j : ActiveJob) (d : Device) :
    KeepsMoney d (d.decideTurn at_ n tag j) := by
  have stopped : KeepsMoney d (d.stopWork n) := .of_purse (stopWork_purse n d)
  unfold Device.decideTurn
  split
  · exact (stopped.before.unitDelivered tag).startUnit.conclude _
  split
  · exact .refl d
  split
  · exact (stopped.before.unitDelivered tag).startUnit.conclude _
  split
  · exact .of_purse rfl
  · exact stopped.before

theorem camSeen_keepsMoney (at_ : Nat) (level : CamLevel) (d : Device) : KeepsMoney d (d.camSeen at_ level) := by
  unfold Device.camSeen
  split
  · exact .refl d
  next j _ =>
    split
    · exact .of_purse rfl
    · exact (decideTurn_keepsMoney at_ _ _ _ _).after (updateLane_purse ..)
    · exact .refl d

theorem camConfirm_keepsMoney (d : Device) : KeepsMoney d d.camConfirm :=
  onExpiry_keepsMoney fun due => (camSeen_keepsMoney due _ _).after

theorem departureTimeout_keepsMoney (d : Device) : KeepsMoney d d.departureTimeout :=
  onExpiry_keepsMoney fun _ => unitFault_keepsMoney .jam _

theorem turnTimerExpiry_keepsMoney (d : Device) : KeepsMoney d d.turnTimerExpiry :=
  onExpiry_keepsMoney fun _ => unitFault_keepsMoney .jam _

theorem creditDrop_keepsMoney (tag : Nat) (j : ActiveJob) (d : Device) : KeepsMoney d (d.creditDrop tag j) := by
  have ended : KeepsMoney d d.endJob := .of_purse rfl
  have credited := (ended.unitDelivered tag).startUnit.conclude d.queue
  unfold Device.creditDrop
  split
  · exact credited
  · exact credited
  · exact ended.conclude d.queue
  · exact .of_purse rfl

theorem beamBreak_keepsMoney (d : Device) : KeepsMoney d d.beamBreak := by
  unfold Device.beamBreak
  split
  · exact .of_purse rfl
  next j _ =>
    split
    · exact .of_purse rfl
    next tag _ =>
      split
      · exact creditDrop_keepsMoney tag j d
      · exact .of_purse rfl

theorem windowExpired_keepsMoney (d : Device) : KeepsMoney d d.windowExpired := by
  have ended : KeepsMoney d d.endJob := .of_purse rfl
  unfold Device.windowExpired
  split
  · exact .refl d
  split
  next n tag _ _ =>
    have emptied : KeepsMoney d ((d.endJob.unitFailed tag .noDrop).emptyLane n) :=
      (ended.trans (unitFailed_keepsMoney tag .noDrop d.endJob)).before (changeLane_purse ..)
    exact (emptied.trans (endAll_keepsMoney .soldOut _ _)).conclude _
  · exact ended.conclude _

theorem dropWindowExpiry_keepsMoney (d : Device) : KeepsMoney d d.dropWindowExpiry :=
  onExpiry_keepsMoney fun _ => windowExpired_keepsMoney _

theorem pulseEnded_keepsMoney (d : Device) : KeepsMoney d d.pulseEnded := by
  unfold Device.pulseEnded
  split
  · exact .refl d
  next j _ =>
    have judged := fitOutcome_purse j.job.lane j.passSeen (d.stopWork j.job.lane).endJob
    exact KeepsMoney.conclude (.of_purse (judged.trans (stopWork_purse j.job.lane d))) _

theorem fitPulseEnd_keepsMoney (d : Device) : KeepsMoney d d.fitPulseEnd :=
  onExpiry_keepsMoney fun _ => pulseEnded_keepsMoney _

theorem motorSample_keepsMoney (at_ : Nat) (sample : Sample) (d : Device) : KeepsMoney d (d.motorSample at_ sample) := by
  unfold Device.motorSample
  split
  · exact .refl d
  split
  · split
    · dsimp only
      split
      · exact (unitFault_keepsMoney .motorOpen _).after
      · exact .of_purse rfl
    · exact .of_purse rfl
    · exact .refl d
  · exact .refl d

/-! ### Revocations and the supply band (R36, R171) -/

theorem driveRevoked_keepsMoney (d : Device) : KeepsMoney d d.driveRevoked := by
  unfold Device.driveRevoked
  split
  · exact .refl d
  next n _ => exact (takeFrom_keepsMoney _ _).after (stopMotors_purse n d)
  · exact (haltOrder_keepsMoney true d).conclude _

theorem revoked_keepsMoney (who : Claimant) (d : Device) : KeepsMoney d (d.revoked who) := by
  cases who with
  | drive => exact driveRevoked_keepsMoney d
  | payout => exact .of_purse (payoutRevoked_purse d)
  | compressor => exact .of_purse (compressorRevoked_purse d)
  | heater z => exact .of_purse (claim_purse ..)

theorem revokeAll_keepsMoney (d : Device) : KeepsMoney d d.revokeAll :=
  KeepsMoney.after (foldl_rel (f := fun d c => d.revoked c.who) KeepsMoney.refl KeepsMoney.trans
    (fun d c => revoked_keepsMoney c.who d) d.load.grants _)

theorem supplySample_keepsMoney (sample : Sample) (d : Device) : KeepsMoney d (d.supplySample sample) := by
  simp only [Device.supplySample]
  split
  · exact .of_purse rfl
  · unfold Device.enterBand
    dsimp only
    split
    · exact (revokeAll_keepsMoney _).after
    · exact .of_purse rfl
    · exact .of_purse (grantTest_purse _)

theorem handSample_keepsMoney (c : Fin 8) (at_ : Nat) (sample : Sample) (d : Device) :
    KeepsMoney d (d.handSample c at_ sample) := by
  unfold Device.handSample
  split
  · exact .of_purse (airSample_purse 0 sample d)
  · exact .of_purse (evaporatorSample_purse 0 sample d)
  · exact .of_purse (airSample_purse 1 sample d)
  · exact .of_purse (evaporatorSample_purse 1 sample d)
  · exact .of_purse (condenserSample_purse sample d)
  · exact supplySample_keepsMoney sample d
  · exact motorSample_keepsMoney at_ sample d
  · exact .refl d

theorem updateScanner_purse (f : Scanner → Scanner) (d : Device) : purse (d.updateScanner f) = purse d := rfl

theorem storeSample_keepsMoney (c : Fin 8) (at_ : Nat) (sample : Sample) (d : Device) :
    KeepsMoney d (d.storeSample c at_ sample) := by
  unfold Device.storeSample
  exact (handSample_keepsMoney c at_ sample _).after (updateScanner_purse _ d)

theorem conversionEnd_keepsMoney (reading : Nat) (d : Device) : KeepsMoney d (d.conversionEnd reading) := by
  unfold Device.conversionEnd
  split
  · exact .refl d
  next k _ =>
    have freed : purse ((d.reach k.ends).updateScanner fun s => { s with converting := none }) = purse d := rfl
    exact ((storeSample_keepsMoney k.channel k.ends _ _).after freed).before (updateScanner_purse _ _)

/-! ### The inputs (R167) -/

theorem handInput_keepsMoney (i : InputName) (st : InputState) (d : Device) : KeepsMoney d (d.handInput i st) := by
  unfold Device.handInput
  split
  · exact (haltOrder_keepsMoney false d).conclude _
  · exact (takeFrom_keepsMoney _ _).after (startHead_purse d)
  · exact (takeFrom_keepsMoney _ _).after ((startHead_purse _).trans (startUnit_purse d))
  · exact recomputeMask_keepsMoney d
  · exact .refl d
  · exact .refl d

theorem judgeInput_keepsMoney (i : InputName) (quiet : Bool) (d : Device) : KeepsMoney d (d.judgeInput i quiet) := by
  simp only [Device.judgeInput]
  split
  · exact .refl d
  · refine (handInput_keepsMoney i _ (if quiet then _ else _)).after ?_
    split
    · rfl
    · rfl

theorem inputChange_keepsMoney (i : InputName) (d : Device) : KeepsMoney d (d.inputChange i) :=
  onExpiry_keepsMoney fun _ => (judgeInput_keepsMoney i _ _).after

theorem amendInput_keepsMoney (input level : Nat) (d : Device) : KeepsMoney d (amendInput input level d).1 := by
  unfold amendInput
  split
  next i l _ _ => exact (judgeInput_keepsMoney i false _).after
  · exact .refl d

/-! ### Requests on the lanes -/

theorem onLane_keepsMoney {lane : Nat} {f : Fin 64 → Lane → Device → Device × Reply} {d : Device}
    (h : ∀ n l, KeepsMoney d (f n l d).1) : KeepsMoney d (onLane lane f d).1 := by
  unfold onLane
  split
  · exact .refl d
  split
  · exact .refl d
  · exact h _ _

theorem enrolLane_keepsMoney (lane : Nat) (g : LaneSettings) (d : Device) : KeepsMoney d (enrolLane lane g d).1 := by
  unfold enrolLane
  split
  · exact .refl d
  · refine ite_keepsMoney (.refl d) (ite_keepsMoney (.refl d) (ite_keepsMoney (.refl d) ?_))
    exact (joinJobs_keepsMoney _ _).after

theorem amendWrites_purse (a : LaneAmend) (n : Fin 64) (l : Lane) (d : Device) : purse (amendWrites a n l d) = purse d := by
  simp only [amendWrites]
  split
  · exact (decideHold_purse n _ _).trans (updateLane_purse ..)
  · exact updateLane_purse ..

theorem amendLane_keepsMoney (lane : Nat) (a : LaneAmend) (d : Device) : KeepsMoney d (amendLane lane a d).1 :=
  onLane_keepsMoney fun n l => by
    refine ite_keepsMoney (.refl d) ?_
    split
    · exact .refl d
    · simp only [okay, amendEnrolled_eq]
      split
      · exact (joinJobs_keepsMoney _ _).after (amendWrites_purse a n l d)
      · exact .of_purse (amendWrites_purse a n l d)

theorem checkLane_keepsMoney (lane : Nat) (d : Device) : KeepsMoney d (checkLane lane d).1 :=
  onLane_keepsMoney fun _ _ => ite_keepsMoney (.refl d) ((joinJobs_keepsMoney _ _).after (updateLane_purse ..))

theorem retireLane_keepsMoney (lane : Nat) (d : Device) : KeepsMoney d (retireLane lane d).1 :=
  onLane_keepsMoney fun _ _ =>
    ite_keepsMoney (.refl d) ((KeepsMoney.before (endAll_keepsMoney .laneRetired _ d)).conclude d.queue)

/-! ### Requests on the orders (R50 to R53, R64 to R68, R71) -/

/-- R53: the cost of a CREDIT order, which the uncommitted amount covers, is committed. -/
theorem place_keepsMoney {o : Order} {d : Device}
    (covers : o.payment = .credit → o.price * o.quantity ≤ d.credit.uncommitted) :
    KeepsMoney d (place o d) := by
  have kept : purse (Device.reserve o.lane o.quantity { d with queue := { d.queue with orders := d.queue.orders ++ [o] } })
      = purse d := updateLane_purse ..
  simp only [place]
  generalize he : (if o.payment = .credit then _ else _) = e
  have committed : KeepsMoney d e := by
    rw [← he]
    split
    next pays =>
      have room := covers pays
      refine KeepsMoney.trans (.of_purse kept) (setCommitted_keepsMoney fun covered => ?_)
      rw [purse_credit kept] at covered ⊢
      simp only [Credit.uncommitted] at room
      omega
    · exact .of_purse kept
  exact (committed.before (startHead_purse e)).trans (takeFrom_keepsMoney _ _)

theorem creditRefusal_none {inexactOk : Bool} {cost : Nat} {d : Device} (h : creditRefusal inexactOk cost d = none) :
    cost ≤ d.credit.uncommitted := by
  by_contra short
  simp only [creditRefusal, Nat.lt_of_not_le short, if_true] at h
  split at h
  · cases h
  · cases h

theorem placeOrder_keepsMoney (p : Placement) (d : Device) : KeepsMoney d (placeOrder p d).1 := by
  unfold placeOrder
  split
  next range =>
    unfold placeChecked
    refine ite_keepsMoney (.refl d) (ite_keepsMoney (.refl d) ?_)
    split
    · exact .refl d
    next n l _ =>
      dsimp only
      split
      · exact .refl d
      next affords =>
        refine place_keepsMoney fun pays => ?_
        have credit : Placement.isCredit p = true := by
          simp only [Placement.inRange, Bool.and_eq_true, coded, Option.all_some] at range
          obtain ⟨pay, hp⟩ := Option.isSome_iff_exists.1 range.1.2
          simp only [Placement.order, hp, Option.getD_some] at pays
          simp [Placement.isCredit, hp, pays]
        rw [if_pos credit] at affords
        exact creditRefusal_none affords
  · exact .refl d

theorem retireOrder_purse (tag : Nat) (d : Device) : purse (retireOrder tag d).1 = purse d := by
  refine ite_purse rfl ?_
  split
  · rfl
  · exact ite_purse rfl rfl

theorem resumeQueue_keepsMoney (d : Device) : KeepsMoney d (resumeQueue d).1 :=
  (takeFrom_keepsMoney _ _).after (startHead_purse _)

theorem haltDrive_keepsMoney (d : Device) : KeepsMoney d (haltDrive d).1 :=
  ite_keepsMoney (.refl d) ((haltOrder_keepsMoney false d).conclude _)

theorem resumeAt_keepsMoney (p : UnitPosition) (d : Device) : KeepsMoney d (resumeAt p d) := by
  cases p with
  | halted => exact .of_purse (resumeUnit_purse _)
  | none => exact (takeFrom_keepsMoney _ _).after (startUnit_purse d)
  | posted => exact .refl d

theorem resumeDrive_keepsMoney (d : Device) : KeepsMoney d (resumeDrive d).1 := by
  unfold resumeDrive
  split
  · exact .refl d
  · exact ite_keepsMoney (.refl d) (ite_keepsMoney (.refl d) (resumeAt_keepsMoney _ _).after)

theorem skipOrder_keepsMoney (tag : Nat) (d : Device) : KeepsMoney d (skipOrder tag d).1 := by
  refine ite_keepsMoney (.refl d) ?_
  split
  · exact .refl d
  next o _ => exact ite_keepsMoney (.refl d) ((giveUp_keepsMoney o .skipped d).conclude _)

theorem clearQueue_keepsMoney (d : Device) : KeepsMoney d (clearQueue d).1 := by
  have current : KeepsMoney d d.clearCurrent := by
    unfold Device.clearCurrent
    split
    · exact .refl d
    next o _ => exact giveUp_keepsMoney o .cleared d
  exact (KeepsMoney.before (current.trans (endAll_keepsMoney .cleared _ _))).conclude _

end Sys2Proof.Proofs
end

section
/-! SUPPORT. Every reset and command keeps the acceptance mask and the credit record sound, and so does every step. -/
namespace Sys2Proof.Proofs

open Sys2Proof.Machine Sys2Proof.Laws

-- One proof at a time: together they wait for the kernel in a thread each, and the memory limit is met.
set_option Elab.async false

/-! ### Commands on the whole state -/

theorem takeRequest_keepsMoney {f : State → State × Reply} {s : State} (h : KeepsMoney s.dev (f s).1.dev) :
    KeepsMoney s.dev (s.takeRequest f).dev := by
  unfold State.takeRequest
  split
  · exact h
  · exact .refl s.dev

theorem request_keepsMoney {f : Device → Device × Reply} {s : State} (h : KeepsMoney s.dev (f s.dev).1) :
    KeepsMoney s.dev (s.request f).dev := takeRequest_keepsMoney h

/-- A request that leaves the money. -/
theorem request_leavesMoney {f : Device → Device × Reply} {s : State} (h : purse (f s.dev).1 = purse s.dev) :
    KeepsMoney s.dev (s.request f).dev := request_keepsMoney (.of_purse h)

theorem query_keepsMoney (f : Device → Reply) (s : State) : KeepsMoney s.dev (s.query f).dev :=
  request_keepsMoney (.refl s.dev)

theorem event_keepsMoney {f : Device → Device} {s : State} (h : KeepsMoney s.dev (f s.dev)) :
    KeepsMoney s.dev (s.event f).dev := by
  unfold State.event
  split
  · exact .refl s.dev
  · exact h

/-- An event that leaves the money. -/
theorem event_leavesMoney {f : Device → Device} {s : State} (h : purse (f s.dev) = purse s.dev) :
    KeepsMoney s.dev (s.event f).dev := event_keepsMoney (.of_purse h)

/-! ### Resets, saving, the port -/

/-- R98, R74, R191: the mask empty, nothing committed and no coin in flight, whatever the balance. -/
theorem warmReset_keepsMoney (d : Device) : KeepsMoney d d.warmReset := by
  have credit : d.warmDrive.credit = d.credit := warmDrive_frame d .credit (by simp)
  refine ⟨fun _ held => absurd rfl held, fun ⟨_, bound, _⟩ => ⟨Nat.zero_le _, ?_, fun _ hc => by cases hc⟩⟩
  show d.warmDrive.credit.balance ≤ d.warmDrive.credit.maxCredit
  rw [credit]
  exact bound

theorem beginWarm_keepsMoney (d : Device) : KeepsMoney d d.beginWarm :=
  (takeFrom_keepsMoney d.queue d).before ((checkDue_purse 1 _).trans (checkDue_purse 0 _))

theorem enterRestart_keepsMoney (s : State) : KeepsMoney s.dev s.enterRestart.dev :=
  (warmReset_keepsMoney s.dev).trans (beginWarm_keepsMoney _)

theorem resetPin_keepsMoney (s : State) : KeepsMoney s.dev s.resetPin.dev := by
  unfold State.resetPin
  split
  · exact .refl s.dev
  · exact warmReset_keepsMoney s.dev

theorem resetRelease_keepsMoney (s : State) : KeepsMoney s.dev s.resetRelease.dev := by
  unfold State.resetRelease
  split
  · exact (warmReset_keepsMoney s.dev).trans (beginWarm_keepsMoney _)
  · exact .refl s.dev

theorem restartTimeout_keepsMoney (s : State) : KeepsMoney s.dev s.restartTimeout.dev := by
  unfold State.restartTimeout
  split
  · exact .refl s.dev
  next due _ => exact (enterRestart_keepsMoney { s with dev := s.dev.reach due }).after

theorem fetch_keepsMoney (n : Nat) (s : State) : KeepsMoney s.dev (s.fetch n).dev := by
  simp only [State.fetch]
  split
  · split
    · exact (enterRestart_keepsMoney _).after
    · exact .refl s.dev
  · exact .refl s.dev

/-- R89, R107: what stands at power-on: the mask empty, no balance, nothing committed, no coin in flight. -/
structure NoMoney (d : Device) : Prop where
  mask : d.coins.mask = 0#8
  balance : d.credit.balance = 0
  committed : d.credit.committed = 0
  flight : d.coins.inFlight = none

theorem NoMoney.maskSound {d : Device} (h : NoMoney d) : d.maskSound := fun held => absurd h.mask held

theorem NoMoney.creditSound {d : Device} (h : NoMoney d) : d.creditSound := by
  refine ⟨by rw [h.committed]; exact Nat.zero_le _, by rw [h.balance]; exact Nat.zero_le _, fun c hc => ?_⟩
  rw [h.flight] at hc
  cases hc

theorem NoMoney.keepsMoney {e : Device} (h : NoMoney e) (d : Device) : KeepsMoney d e :=
  ⟨fun _ => h.maskSound, fun _ => h.creditSound⟩

theorem NoMoney.of_purse {d e : Device} (h : NoMoney d) (same : purse e = purse d) : NoMoney e := by
  simp only [purse, Prod.mk.injEq] at same
  obtain ⟨credit, coins, -⟩ := same
  exact ⟨coins ▸ h.mask, credit ▸ h.balance, credit ▸ h.committed, coins ▸ h.flight⟩

/-- R187: an image's fields name max credit, the classes and the cash box counts, and no money. -/
theorem loadFields_noMoney (bs : List Byte) {d : Device} (h : NoMoney d) : NoMoney (d.loadFields bs) := by
  unfold Device.loadFields
  dsimp only
  exact ⟨h.mask, h.balance, h.committed, h.flight⟩

theorem loadImage_noMoney (st : ImageStatus) (m : Memory) {d : Device} (h : NoMoney d) : NoMoney (d.loadImage st m) := by
  unfold Device.loadImage
  split
  · exact loadFields_noMoney _ h
  · exact h

theorem zonePowerOn_purse (loaded : Bool) (z : Fin 2) (d : Device) : purse (d.zonePowerOn loaded z) = purse d :=
  purse_of_frame (zonePowerOn_starts loaded z d).frame (by simp)

theorem beforeTaking_purse (loaded : Bool) (d : Device) : purse (beforeTaking loaded d) = purse d :=
  (zonePowerOn_purse loaded 1 _).trans (zonePowerOn_purse loaded 0 (lanesPowerOn d))

theorem powerOnRules_keepsMoney (loaded : Bool) (d : Device) : KeepsMoney d (d.powerOnRules loaded) := by
  rw [powerOnRules_eq]
  exact (KeepsMoney.after (takeFrom_keepsMoney _ _) (beforeTaking_purse loaded d)).before.trans
    (send_keepsMoney .identify (Device.startScanning _))

theorem endPowerOn_keepsMoney (b : Bool) (s : State) : KeepsMoney s.dev (s.endPowerOn b).dev := by
  have awake : NoMoney (awoken s) := ⟨rfl, rfl, rfl, rfl⟩
  have started := ((loadImage_noMoney (imageFinding b s.mem) s.mem awake).keepsMoney s.dev).trans
    (powerOnRules_keepsMoney (imageFinding b s.mem = .loaded) _)
  refine KeepsMoney.before started ?_
  show purse (if _ then _ else _) = _
  split
  · rfl
  · rfl

theorem endWarm_keepsMoney (s : State) : KeepsMoney s.dev s.endWarm.dev := by
  have started : KeepsMoney s.dev ((s.dev.findCoinMarker.startScanning).send .identify) :=
    (KeepsMoney.before (findCoinMarker_keepsMoney s.dev)).trans (send_keepsMoney .identify _)
  simp only [State.endWarm]
  split
  · exact started.before
  · exact started

theorem startupEnd_keepsMoney (b : Bool) (s : State) : KeepsMoney s.dev (s.startupEnd b).dev := by
  unfold State.startupEnd
  split
  · exact endPowerOn_keepsMoney b s
  · exact endWarm_keepsMoney s
  · exact .refl s.dev
  · exact .refl s.dev

theorem secondTick_keepsMoney (s : State) : KeepsMoney s.dev s.secondTick.dev := by
  unfold State.secondTick
  split
  · exact .refl s.dev
  · exact .of_purse rfl

theorem pageWritten_keepsMoney (acknowledged : Bool) (s : State) : KeepsMoney s.dev (s.pageWritten acknowledged).dev := by
  unfold State.pageWritten
  split
  · exact .refl s.dev
  split
  · exact .refl s.dev
  split
  · simp only [State.pageDone]
    split
    · exact .refl s.dev
    · exact .of_purse rfl
  · unfold State.pageFailed
    split
    · exact .refl s.dev
    · exact .of_purse rfl

theorem saveRetry_keepsMoney (s : State) : KeepsMoney s.dev s.saveRetry.dev := by
  unfold State.saveRetry
  split
  · exact .refl s.dev
  split
  · exact .refl s.dev
  · exact .of_purse rfl

theorem takeSave_keepsMoney (s : State) : KeepsMoney s.dev (takeSave s).1.dev := by
  unfold takeSave
  split
  · exact .refl s.dev
  · exact .refl s.dev

/-! ### Every command -/

/-- R98, R74: every command keeps the mask and the credit record sound. -/
theorem exec_keepsMoney (c : Instr) (s : State) : ∃ t, exec c s = .next t ∧ KeepsMoney s.dev t.dev := by
  cases c with
  | readLane form lane => exact ⟨_, rfl, request_leavesMoney (readLane_purse form lane s.dev)⟩
  | findProduct code => exact ⟨_, rfl, query_keepsMoney _ s⟩
  | enrolLane lane g => exact ⟨_, rfl, request_keepsMoney (enrolLane_keepsMoney lane g s.dev)⟩
  | amendLane lane a => exact ⟨_, rfl, request_keepsMoney (amendLane_keepsMoney lane a s.dev)⟩
  | restockLane lane stock => exact ⟨_, rfl, request_leavesMoney (restockLane_purse lane stock s.dev)⟩
  | checkLane lane => exact ⟨_, rfl, request_keepsMoney (checkLane_keepsMoney lane s.dev)⟩
  | retireLane lane => exact ⟨_, rfl, request_keepsMoney (retireLane_keepsMoney lane s.dev)⟩
  | readDrive => exact ⟨_, rfl, query_keepsMoney _ s⟩
  | amendDrive a => exact ⟨_, rfl, request_leavesMoney (ite_purse rfl rfl)⟩
  | placeOrder p => exact ⟨_, rfl, request_keepsMoney (placeOrder_keepsMoney p s.dev)⟩
  | readOrder tag => exact ⟨_, rfl, query_keepsMoney _ s⟩
  | readQueue => exact ⟨_, rfl, query_keepsMoney _ s⟩
  | retireOrder tag => exact ⟨_, rfl, request_leavesMoney (retireOrder_purse tag s.dev)⟩
  | holdQueue => exact ⟨_, rfl, request_leavesMoney rfl⟩
  | resumeQueue => exact ⟨_, rfl, request_keepsMoney (resumeQueue_keepsMoney s.dev)⟩
  | haltDrive => exact ⟨_, rfl, request_keepsMoney (haltDrive_keepsMoney s.dev)⟩
  | resumeDrive => exact ⟨_, rfl, request_keepsMoney (resumeDrive_keepsMoney s.dev)⟩
  | skipOrder tag => exact ⟨_, rfl, request_keepsMoney (skipOrder_keepsMoney tag s.dev)⟩
  | clearQueue => exact ⟨_, rfl, request_keepsMoney (clearQueue_keepsMoney s.dev)⟩
  | readCredit => exact ⟨_, rfl, query_keepsMoney _ s⟩
  | amendCreditLimit m => exact ⟨_, rfl, request_keepsMoney (amendCreditLimit_keepsMoney m s.dev)⟩
  | refund => exact ⟨_, rfl, request_keepsMoney (takeRefund_keepsMoney s.dev)⟩
  | readClass => exact ⟨_, rfl, query_keepsMoney _ s⟩
  | amendClass k a => exact ⟨_, rfl, request_keepsMoney (amendClass_keepsMoney k a s.dev)⟩
  | readCashbox => exact ⟨_, rfl, query_keepsMoney _ s⟩
  | clearCashbox => exact ⟨_, rfl, request_keepsMoney (clearCashbox_keepsMoney s.dev)⟩
  | readTube => exact ⟨_, rfl, query_keepsMoney _ s⟩
  | amendTube tube a => exact ⟨_, rfl, request_keepsMoney (amendTube_keepsMoney tube a s.dev)⟩
  | setTubeCount tube n => exact ⟨_, rfl, request_keepsMoney (setTubeCount_keepsMoney tube n s.dev)⟩
  | dispense tube n => exact ⟨_, rfl, request_keepsMoney (dispense_keepsMoney tube n s.dev)⟩
  | readPayout => exact ⟨_, rfl, query_keepsMoney _ s⟩
  | amendPayout a => exact ⟨_, rfl, request_leavesMoney (amendPayout_purse a s.dev)⟩
  | readLink => exact ⟨_, rfl, query_keepsMoney _ s⟩
  | amendLink a => exact ⟨_, rfl, request_keepsMoney (amendLink_keepsMoney a s.dev)⟩
  | readZone zone => exact ⟨_, rfl, query_keepsMoney _ s⟩
  | amendZone zone a => exact ⟨_, rfl, request_leavesMoney (amendZone_purse zone a s.dev)⟩
  | startDefrost zone => exact ⟨_, rfl, request_leavesMoney (startDefrost_purse zone s.dev)⟩
  | readCompressor => exact ⟨_, rfl, query_keepsMoney _ s⟩
  | amendCompressor a => exact ⟨_, rfl, request_leavesMoney (ite_purse rfl rfl)⟩
  | clearLockout => exact ⟨_, rfl, request_leavesMoney (clearLockout_purse s.dev)⟩
  | readSample k => exact ⟨_, rfl, request_leavesMoney (readSample_purse k s.dev)⟩
  | scanNow => exact ⟨_, rfl, request_leavesMoney (scanNow_purse s.dev)⟩
  | amendChannel k a => exact ⟨_, rfl, request_leavesMoney (amendChannel_purse k a s.dev)⟩
  | amendScan p => exact ⟨_, rfl, request_leavesMoney (ite_purse rfl rfl)⟩
  | readInputs => exact ⟨_, rfl, query_keepsMoney _ s⟩
  | amendInput i l => exact ⟨_, rfl, request_keepsMoney (amendInput_keepsMoney i l s.dev)⟩
  | readLoad => exact ⟨_, rfl, query_keepsMoney _ s⟩
  | amendLoad a => exact ⟨_, rfl, request_leavesMoney (amendLoad_purse a s.dev)⟩
  | readConditions => exact ⟨_, rfl, takeRequest_keepsMoney (.refl s.dev)⟩
  | clearConditions m => exact ⟨_, rfl, request_leavesMoney rfl⟩
  | amendMask m => exact ⟨_, rfl, request_leavesMoney rfl⟩
  | saveImage => exact ⟨_, rfl, takeRequest_keepsMoney (takeSave_keepsMoney s)⟩
  | restart => exact ⟨_, rfl, takeRequest_keepsMoney (.refl s.dev)⟩
  | readIdentity => exact ⟨_, rfl, takeRequest_keepsMoney (.refl s.dev)⟩
  | badFrame b => exact ⟨_, rfl, request_keepsMoney (.refl s.dev)⟩
  | unknownRequest b => exact ⟨_, rfl, request_keepsMoney (.refl s.dev)⟩
  | fetchReply n => exact ⟨_, rfl, fetch_keepsMoney n s⟩
  | requestDiscarded b => exact ⟨_, rfl, .refl s.dev⟩
  | powerOn => exact ⟨_, rfl, NoMoney.keepsMoney ⟨rfl, rfl, rfl, rfl⟩ s.dev⟩
  | resetPin => exact ⟨_, rfl, resetPin_keepsMoney s⟩
  | resetRelease => exact ⟨_, rfl, resetRelease_keepsMoney s⟩
  | restartTimeout => exact ⟨_, rfl, restartTimeout_keepsMoney s⟩
  | startupEnd b => exact ⟨_, rfl, startupEnd_keepsMoney b s⟩
  | secondTick => exact ⟨_, rfl, secondTick_keepsMoney s⟩
  | savePageWritten b => exact ⟨_, rfl, pageWritten_keepsMoney b s⟩
  | saveRetryTimer => exact ⟨_, rfl, saveRetry_keepsMoney s⟩
  | camLineEdge l => exact ⟨_, rfl, .of_purse (camLineEdge_purse l s.dev)⟩
  | camConfirm => exact ⟨_, rfl, event_keepsMoney (camConfirm_keepsMoney s.dev)⟩
  | departureTimeout => exact ⟨_, rfl, event_keepsMoney (departureTimeout_keepsMoney s.dev)⟩
  | turnTimerExpiry => exact ⟨_, rfl, event_keepsMoney (turnTimerExpiry_keepsMoney s.dev)⟩
  | beamBreak => exact ⟨_, rfl, event_keepsMoney (beamBreak_keepsMoney s.dev)⟩
  | dropWindowExpiry => exact ⟨_, rfl, event_keepsMoney (dropWindowExpiry_keepsMoney s.dev)⟩
  | fitPulseEnd => exact ⟨_, rfl, event_keepsMoney (fitPulseEnd_keepsMoney s.dev)⟩
  | linkSlot => exact ⟨_, rfl, event_keepsMoney (linkSlot_keepsMoney s.dev)⟩
  | identifyTimer => exact ⟨_, rfl, event_keepsMoney (identifyExpiry_keepsMoney s.dev)⟩
  | linkFrame b e => exact ⟨_, rfl, event_keepsMoney (linkFrame_keepsMoney b e s.dev)⟩
  | linkReplyTimeout => exact ⟨_, rfl, event_keepsMoney (linkReplyTimeout_keepsMoney s.dev)⟩
  | coinTimeout => exact ⟨_, rfl, event_keepsMoney (coinTimeout_keepsMoney s.dev)⟩
  | pulseOnEnd => exact ⟨_, rfl, event_leavesMoney (onExpiry_purse fun _ => rfl)⟩
  | pulseGapEnd => exact ⟨_, rfl, event_leavesMoney (pulseGapEnd_purse s.dev)⟩
  | chuteWindowClose => exact ⟨_, rfl, event_keepsMoney (chuteWindowClose_keepsMoney s.dev)⟩
  | chuteCount => exact ⟨_, rfl, event_keepsMoney (chuteCount_keepsMoney s.dev)⟩
  | sinceDefrostTimer z => exact ⟨_, rfl, event_leavesMoney (sinceExpiry_purse z s.dev)⟩
  | defrostTimer z => exact ⟨_, rfl, event_leavesMoney (defrostExpiry_purse z s.dev)⟩
  | dripTimer z => exact ⟨_, rfl, event_leavesMoney (dripExpiry_purse z s.dev)⟩
  | zoneMinuteTimer z => exact ⟨_, rfl, event_leavesMoney (minuteExpiry_purse z s.dev)⟩
  | restTimer => exact ⟨_, rfl, event_leavesMoney (restTimer_purse s.dev)⟩
  | startTimer => exact ⟨_, rfl, event_leavesMoney (startTimer_purse s.dev)⟩
  | confirmLineEdge l => exact ⟨_, rfl, .of_purse (confirmLineEdge_purse l s.dev)⟩
  | confirmChange => exact ⟨_, rfl, event_leavesMoney (confirmChange_purse s.dev)⟩
  | runTimer => exact ⟨_, rfl, event_leavesMoney (runTimer_purse s.dev)⟩
  | fanRunonTimer => exact ⟨_, rfl, .of_purse (onExpiry_purse fun _ => rfl)⟩
  | periodTimer => exact ⟨_, rfl, event_leavesMoney (onExpiry_purse fun _ => rfl)⟩
  | priorityTimer => exact ⟨_, rfl, event_leavesMoney (onExpiry_purse fun _ => rfl)⟩
  | conversionEnd r => exact ⟨_, rfl, event_keepsMoney (conversionEnd_keepsMoney r s.dev)⟩
  | inputLineEdge i l => exact ⟨_, rfl, .of_purse (inputLineEdge_purse i l s.dev)⟩
  | inputChange i => exact ⟨_, rfl, event_keepsMoney (inputChange_keepsMoney i s.dev)⟩
  | linkFirstByte => exact ⟨_, rfl, event_keepsMoney (linkFirstByte_keepsMoney s.dev)⟩

theorem step_keepsMoney {s t : State} (h : step s = .next t) : KeepsMoney s.dev t.dev := by
  unfold step at h
  split at h
  · obtain rfl := Host.Outcome.next.inj h
    exact .of_purse rfl
  next c rest _ =>
    obtain ⟨u, hu, keeps⟩ := exec_keepsMoney c { s with pending := rest }
    obtain rfl := Host.Outcome.next.inj (hu.symm.trans h)
    exact keeps

/-- Settles O9: the mask is recomputed wherever the link or the engine closes it, and each change of the credit record
keeps the room for a routed coin. -/
theorem maskAndCreditStaySound : Obligations.MaskAndCreditStaySound :=
  ⟨fun _ _ sound h => (step_keepsMoney h).mask sound, fun _ _ sound h => (step_keepsMoney h).credit sound⟩

end Sys2Proof.Proofs
end

section
/-! R79 to R81: change plans: what each pass gives, and what remains. -/
namespace Sys2Proof.Proofs

open Sys2Proof.Machine Sys2Proof.Laws

-- One proof at a time: together they wait for the kernel in a thread each, and the memory limit is met.
set_option Elab.async false

/-! ### A plan under calculation -/

/-- R79: the coins a tube can give to a plan: none unless it is READY and bound. -/
def freeCoins (d : Device) (u : Fin 6) : Nat :=
  if d.payout.tubes[u].state = .ready ∧ d.payout.tubes[u].boundClass.isSome = true then
    d.payout.tubes[u].count - d.payout.tubes[u].planned
  else 0

theorem coinsFree_eq (d : Device) (lines : List (Fin 6 × Nat)) (u : Fin 6) :
    d.coinsFree lines u = freeCoins d u - givenFrom lines u := by
  unfold Device.coinsFree freeCoins
  simp only [Bool.and_eq_true, decide_eq_true_eq]
  split
  · rfl
  · exact (Nat.zero_sub _).symm

theorem tubeValue_of_tubeOf {d : Device} {c : Fin 8} {t : Fin 6} (h : d.payout.tubeOf c = some t) :
    d.tubeValue t = d.coins.classes[c].value := by
  have bound := List.find?_some h
  simp only [decide_eq_true_eq] at bound
  unfold Device.tubeValue
  rw [bound]

theorem givenFrom_giveFrom {lines : List (Fin 6 × Nat)} (h : (lines.map (·.1)).Nodup) (t u : Fin 6) (n : Nat) :
    givenFrom (giveFrom lines t n) u = givenFrom lines u + if t = u then n else 0 := by
  rw [givenFrom_eq (nodup_giveFrom h t n), givenFrom_eq h, coinsFor_giveFrom h]

/-- The value of a plan's lines. -/
def planValue (d : Device) (lines : List (Fin 6 × Nat)) : Nat := (lines.map fun x => x.2 * d.tubeValue x.1).sum

theorem planValue_eq_sum (d : Device) (lines : List (Fin 6 × Nat)) :
    planValue d lines = ∑ u, coinsFor lines u * d.tubeValue u := by
  induction lines with
  | nil => simp [planValue]
  | cons l rest ih =>
    have first : ∑ u, (if l.1 = u then l.2 else 0) * d.tubeValue u = l.2 * d.tubeValue l.1 := by simp
    simp only [coinsFor_cons, Nat.add_mul, Finset.sum_add_distrib, first, ← ih]
    rfl

theorem planValue_giveFrom {lines : List (Fin 6 × Nat)} (h : (lines.map (·.1)).Nodup) (d : Device) (t : Fin 6) (n : Nat) :
    planValue d (giveFrom lines t n) = planValue d lines + n * d.tubeValue t := by
  simp [planValue_eq_sum, coinsFor_giveFrom h, Nat.add_mul, Finset.sum_add_distrib]

theorem giveFrom_positive {lines : List (Fin 6 × Nat)} (h : ∀ x ∈ lines, 0 < x.2) (t : Fin 6) (n : Nat) :
    ∀ x ∈ giveFrom lines t n, 0 < x.2 := by
  intro x hx
  unfold giveFrom at hx
  split at hx
  · exact h x hx
  next some =>
    split at hx
    · obtain ⟨y, hy, rfl⟩ := List.mem_map.1 hx
      have := h y hy
      split
      · exact Nat.lt_of_lt_of_le this (Nat.le_add_right _ _)
      · exact this
    · rcases List.mem_append.1 hx with old | new
      · exact h x old
      · rw [List.mem_singleton.1 new]
        exact Nat.pos_of_ne_zero some

theorem le_givenFrom {lines : List (Fin 6 × Nat)} (h : (lines.map (·.1)).Nodup) {x : Fin 6 × Nat} (hx : x ∈ lines) :
    x.2 ≤ givenFrom lines x.1 := by
  rw [givenFrom_eq h, coinsFor]
  exact List.le_sum_of_mem (List.mem_map.2 ⟨x, hx, if_pos rfl⟩)

/-- R79: a plan under calculation for an amount: one line to a tube, of free coins, the rest of the amount remaining. -/
structure Calculated (d : Device) (amount : Nat) (acc : List (Fin 6 × Nat) × Nat) : Prop where
  once : (acc.1.map (·.1)).Nodup
  positive : ∀ x ∈ acc.1, 0 < x.2
  free : ∀ u, givenFrom acc.1 u ≤ freeCoins d u
  total : planValue d acc.1 + acc.2 = amount

theorem calculated_start (d : Device) (amount : Nat) : Calculated d amount ([], amount) where
  once := List.nodup_nil
  positive := fun _ h => nomatch h
  free := fun _ => Nat.zero_le _
  total := Nat.zero_add _

/-- R79: free coins whose value fits what remains may be given. -/
theorem Calculated.give {d : Device} {amount : Nat} {acc : List (Fin 6 × Nat) × Nat} (h : Calculated d amount acc)
    {t : Fin 6} {n : Nat} (hn : n ≤ d.coinsFree acc.1 t) (fits : n * d.tubeValue t ≤ acc.2) :
    Calculated d amount (giveFrom acc.1 t n, acc.2 - n * d.tubeValue t) where
  once := nodup_giveFrom h.once t n
  positive := giveFrom_positive h.positive t n
  free u := by
    have before := h.free u
    rw [givenFrom_giveFrom h.once]
    split
    next same =>
      subst same
      rw [coinsFree_eq] at hn
      omega
    · exact before
  total := by
    have before := h.total
    rw [planValue_giveFrom h.once]
    omega

theorem Calculated.likeStep {d : Device} {amount : Nat} {acc : List (Fin 6 × Nat) × Nat} (h : Calculated d amount acc)
    (c : Fin 8) : Calculated d amount (d.likeStep acc c) := by
  unfold Device.likeStep
  split
  · exact h
  next t bound =>
    simp only
    split
    next gives =>
      simp only [Bool.and_eq_true, decide_eq_true_eq] at gives
      rw [← tubeValue_of_tubeOf bound] at gives ⊢
      simpa using h.give gives.1 (by simpa using gives.2)
    · exact h

theorem Calculated.greedyStep {d : Device} {amount : Nat} {acc : List (Fin 6 × Nat) × Nat} (h : Calculated d amount acc)
    (t : Fin 6) : Calculated d amount (d.greedyStep acc t) :=
  h.give (Nat.min_le_left _ _) ((Nat.mul_le_mul_right _ (Nat.min_le_right _ _)).trans (Nat.div_mul_le_self _ _))

/-- The greedy pass over a list of tubes. -/
theorem Calculated.greedy {d : Device} {amount : Nat} {acc : List (Fin 6 × Nat) × Nat} (h : Calculated d amount acc)
    (ts : List (Fin 6)) : Calculated d amount (ts.foldl d.greedyStep acc) :=
  foldl_keeps (P := Calculated d amount) (fun _ t h => h.greedyStep t) ts acc h

/-- R83: where the greedy pass begins. -/
def likePart (d : Device) (like : Bool) (amount : Nat) : List (Fin 6 × Nat) × Nat :=
  if like then d.likePass ([], amount) else ([], amount)

theorem likePart_calculated (d : Device) (like : Bool) (amount : Nat) : Calculated d amount (likePart d like amount) := by
  unfold likePart
  split
  · exact foldl_keeps (P := Calculated d amount) (fun _ c h => h.likeStep c) _ _ (calculated_start d amount)
  · exact calculated_start d amount

theorem changePlan_eq (d : Device) (like : Bool) (amount : Nat) :
    d.changePlan like amount = (d.greedyOrder (likePart d like amount).1).foldl d.greedyStep (likePart d like amount) := rfl

theorem changePlan_calculated (d : Device) (like : Bool) (amount : Nat) : Calculated d amount (d.changePlan like amount) :=
  (likePart_calculated d like amount).greedy _

theorem planValue_givenFrom {lines : List (Fin 6 × Nat)} (h : (lines.map (·.1)).Nodup) (d : Device) :
    planValue d lines = ∑ u, givenFrom lines u * d.tubeValue u := by
  rw [planValue_eq_sum]
  exact Finset.sum_congr rfl fun u _ => by rw [givenFrom_eq h]

/-! ### The greedy pass (R81) -/

/-- R81: the order of the greedy pass: the greater value first, the lower number among equals. -/
def goesBefore (d : Device) (x u : Fin 6) : Bool :=
  d.tubeValue u < d.tubeValue x || (d.tubeValue u = d.tubeValue x && x < u)

theorem goesBefore_iff {d : Device} {x u : Fin 6} :
    goesBefore d x u = true ↔ d.tubeValue u < d.tubeValue x ∨ (d.tubeValue u = d.tubeValue x ∧ x < u) := by
  simp [goesBefore]

theorem goesBefore_trans (d : Device) (x y z : Fin 6) (h : goesBefore d x y = true) (k : goesBefore d y z = true) :
    goesBefore d x z = true := by
  rw [goesBefore_iff, Fin.lt_def] at *
  omega

theorem goesBefore_asymm {d : Device} {x y : Fin 6} (h : goesBefore d x y = true) : goesBefore d y x ≠ true := by
  intro k
  rw [goesBefore_iff, Fin.lt_def] at h k
  omega

theorem mem_greedyOrder {d : Device} {lines : List (Fin 6 × Nat)} {t : Fin 6} :
    t ∈ d.greedyOrder lines ↔ 0 < d.coinsFree lines t := by
  simp [Device.greedyOrder, mem_sortBy, mem_allTubes]

theorem greedyOrder_sorted (d : Device) (lines : List (Fin 6 × Nat)) :
    (d.greedyOrder lines).Pairwise fun x u => goesBefore d x u = true := by
  refine sortBy_sorted (before := goesBefore d) (goesBefore_trans d) (((upTo_ascending 5).filter _).imp fun {x u} less => ?_)
  rw [goesBefore_iff, goesBefore_iff]
  omega

theorem sorted_nodup {d : Device} {ts : List (Fin 6)} (h : ts.Pairwise fun x u => goesBefore d x u = true) : ts.Nodup := by
  have differ {x y : Fin 6} (less : goesBefore d x y = true) : x ≠ y := by
    rintro rfl
    exact goesBefore_asymm less less
  exact h.imp differ

theorem givenFrom_greedyStep {d : Device} {amount : Nat} {acc : List (Fin 6 × Nat) × Nat} (h : Calculated d amount acc)
    (t u : Fin 6) : givenFrom (d.greedyStep acc t).1 u =
      givenFrom acc.1 u + if t = u then min (d.coinsFree acc.1 t) (acc.2 / d.tubeValue t) else 0 :=
  givenFrom_giveFrom h.once t u _

/-- R81: a tube that the pass does not name gives nothing. -/
theorem greedy_unnamed {d : Device} {amount : Nat} {u : Fin 6} {ts : List (Fin 6)} (hu : u ∉ ts) :
    ∀ {acc : List (Fin 6 × Nat) × Nat}, Calculated d amount acc →
      givenFrom (ts.foldl d.greedyStep acc).1 u = givenFrom acc.1 u := by
  induction ts with
  | nil => exact fun _ => rfl
  | cons t rest ih =>
    intro acc h
    simp only [List.mem_cons, not_or] at hu
    obtain ⟨other, later⟩ := hu
    rw [List.foldl_cons, ih later (h.greedyStep t), givenFrom_greedyStep h, if_neg (Ne.symm other), Nat.add_zero]

/-- R81: a tube that the pass names gives as many coins as it has free and as fit what its turn finds. -/
theorem greedy_named {d : Device} {amount : Nat} {acc : List (Fin 6 × Nat) × Nat} (h : Calculated d amount acc)
    {before later : List (Fin 6)} {u : Fin 6} (once : (before ++ u :: later).Nodup) :
    givenFrom ((before ++ u :: later).foldl d.greedyStep acc).1 u =
      givenFrom acc.1 u + min (d.coinsFree acc.1 u) ((before.foldl d.greedyStep acc).2 / d.tubeValue u) := by
  obtain ⟨-, tail, apart⟩ := List.nodup_append.1 once
  have earlier : u ∉ before := fun hu => apart u hu u List.mem_cons_self rfl
  have turn := h.greedy before
  have same := greedy_unnamed earlier h
  rw [List.foldl_append, List.foldl_cons, greedy_unnamed (List.nodup_cons.1 tail).1 (turn.greedyStep u),
    givenFrom_greedyStep turn, if_pos rfl, coinsFree_eq, coinsFree_eq, same]

theorem greedyStep_less (d : Device) (acc : List (Fin 6 × Nat) × Nat) (t : Fin 6) : (d.greedyStep acc t).2 ≤ acc.2 :=
  Nat.sub_le _ _

theorem greedy_less (d : Device) (ts : List (Fin 6)) (acc : List (Fin 6 × Nat) × Nat) :
    (ts.foldl d.greedyStep acc).2 ≤ acc.2 :=
  foldl_rel (R := fun a b : List (Fin 6 × Nat) × Nat => b.2 ≤ a.2) (fun _ => Nat.le_refl _)
    (fun h k => k.trans h) (greedyStep_less d) ts acc

theorem greedy_grows {d : Device} {amount : Nat} (u : Fin 6) (ts : List (Fin 6)) :
    ∀ {acc : List (Fin 6 × Nat) × Nat}, Calculated d amount acc →
      givenFrom acc.1 u ≤ givenFrom (ts.foldl d.greedyStep acc).1 u := by
  induction ts with
  | nil => exact fun _ => Nat.le_refl _
  | cons t rest ih =>
    intro acc h
    refine Nat.le_trans ?_ (ih (h.greedyStep t))
    rw [givenFrom_greedyStep h]
    exact Nat.le_add_right _ _

/-- R81: the tubes that have had their turn account for what has been given. -/
theorem greedy_remainder {d : Device} {amount : Nat} {acc : List (Fin 6 × Nat) × Nat} (h : Calculated d amount acc)
    (ts : List (Fin 6)) : (ts.foldl d.greedyStep acc).2 =
      acc.2 - ∑ u, (givenFrom (ts.foldl d.greedyStep acc).1 u - givenFrom acc.1 u) * d.tubeValue u := by
  have start := h.total
  have done := (h.greedy ts).total
  rw [planValue_givenFrom h.once] at start
  rw [planValue_givenFrom (h.greedy ts).once] at done
  have split : ∑ u, givenFrom (ts.foldl d.greedyStep acc).1 u * d.tubeValue u =
      ∑ u, givenFrom acc.1 u * d.tubeValue u +
        ∑ u, (givenFrom (ts.foldl d.greedyStep acc).1 u - givenFrom acc.1 u) * d.tubeValue u := by
    rw [← Finset.sum_add_distrib]
    refine Finset.sum_congr rfl fun u _ => ?_
    rw [← Nat.add_mul, Nat.add_sub_cancel' (greedy_grows u ts h)]
  omega

theorem sum_filter (p : Fin 6 → Bool) (f : Fin 6 → Nat) (ts : List (Fin 6)) :
    ((ts.filter p).map f).sum = (ts.map fun x => if p x then f x else 0).sum := by
  induction ts with
  | nil => rfl
  | cons t rest ih => by_cases h : p t <;> simp [h, ih]

theorem sum_allTubes (f : Fin 6 → Nat) : (allTubes.map f).sum = ∑ u, f u := by
  show ([0, 1, 2, 3, 4, 5].map f).sum = _
  simp [Fin.sum_univ_six, Nat.add_assoc]

/-- R81: what remains at a tube's turn: the amount less what the tubes before it have given. -/
theorem greedy_turn {d : Device} {amount : Nat} {acc : List (Fin 6 × Nat) × Nat} (h : Calculated d amount acc)
    {before later : List (Fin 6)} {u : Fin 6}
    (sorted : (before ++ u :: later).Pairwise fun x u => goesBefore d x u = true) :
    (before.foldl d.greedyStep acc).2 = acc.2 - ((allTubes.filter (goesBefore d · u)).map fun x =>
      (givenFrom ((before ++ u :: later).foldl d.greedyStep acc).1 x - givenFrom acc.1 x) * d.tubeValue x).sum := by
  obtain ⟨-, tail, first⟩ := List.pairwise_append.1 sorted
  have after := (List.pairwise_cons.1 tail).1
  rw [greedy_remainder h, sum_filter, sum_allTubes]
  refine congrArg (acc.2 - ·) (Finset.sum_congr rfl fun x _ => ?_)
  split
  next less =>
    have done : x ∉ u :: later := fun hx => by
      rcases List.mem_cons.1 hx with rfl | hx
      · exact goesBefore_asymm less less
      · exact goesBefore_asymm less (after x hx)
    rw [List.foldl_append, greedy_unnamed done (h.greedy before)]
  next less =>
    have still : x ∉ before := fun hx => less (first x hx u List.mem_cons_self)
    rw [greedy_unnamed still h, Nat.sub_self, Nat.zero_mul]

/-- R81: each tube gives as many coins as it has free and as fit what the tubes before it leave. -/
theorem greedyPass_gives {d : Device} {amount : Nat} {acc : List (Fin 6 × Nat) × Nat} (h : Calculated d amount acc)
    (u : Fin 6) : givenFrom (d.greedyPass acc).1 u = givenFrom acc.1 u + min (d.coinsFree acc.1 u)
      ((acc.2 - ((allTubes.filter (goesBefore d · u)).map fun x =>
        (givenFrom (d.greedyPass acc).1 x - givenFrom acc.1 x) * d.tubeValue x).sum) / d.tubeValue u) := by
  have sorted := greedyOrder_sorted d acc.1
  unfold Device.greedyPass
  by_cases named : u ∈ d.greedyOrder acc.1
  · obtain ⟨before, later, order⟩ := List.append_of_mem named
    rw [order] at sorted ⊢
    rw [← greedy_turn h sorted]
    exact greedy_named h (sorted_nodup sorted)
  · have none : d.coinsFree acc.1 u = 0 := Nat.eq_zero_of_not_pos fun some => named (mem_greedyOrder.2 some)
    rw [greedy_unnamed named h, none, Nat.zero_min, Nat.add_zero]

/-- R81: a tube that keeps a free coin is worth more than what remains. -/
theorem greedyPass_rest {d : Device} {amount : Nat} {acc : List (Fin 6 × Nat) × Nat} (h : Calculated d amount acc)
    {u : Fin 6} (keeps : givenFrom (d.greedyPass acc).1 u < freeCoins d u) (worth : 0 < d.tubeValue u) :
    (d.greedyPass acc).2 < d.tubeValue u := by
  have sorted := greedyOrder_sorted d acc.1
  unfold Device.greedyPass at keeps ⊢
  by_cases named : u ∈ d.greedyOrder acc.1
  · obtain ⟨before, later, order⟩ := List.append_of_mem named
    rw [order] at sorted keeps ⊢
    have gave := greedy_named h (sorted_nodup sorted)
    rw [coinsFree_eq] at gave
    rw [List.foldl_append, List.foldl_cons]
    refine Nat.lt_of_le_of_lt (greedy_less d later _) ?_
    generalize turn : before.foldl d.greedyStep acc = mid at gave ⊢
    have same : givenFrom mid.1 u = givenFrom acc.1 u := by
      obtain ⟨-, -, apart⟩ := List.nodup_append.1 (sorted_nodup sorted)
      rw [← turn]
      exact greedy_unnamed (fun hu => apart u hu u List.mem_cons_self rfl) h
    have all : min (d.coinsFree mid.1 u) (mid.2 / d.tubeValue u) = mid.2 / d.tubeValue u := by
      rw [coinsFree_eq, same]
      omega
    show mid.2 - min (d.coinsFree mid.1 u) (mid.2 / d.tubeValue u) * d.tubeValue u < d.tubeValue u
    rw [all, Nat.mul_comm, ← Nat.mod_eq_sub_mul_div]
    exact Nat.mod_lt _ worth
  · have none : d.coinsFree acc.1 u = 0 := Nat.eq_zero_of_not_pos fun some => named (mem_greedyOrder.2 some)
    rw [greedy_unnamed named h] at keeps
    rw [coinsFree_eq] at none
    omega

theorem giveFrom_tubes (lines : List (Fin 6 × Nat)) (t : Fin 6) (n : Nat) :
    ∃ new, (giveFrom lines t n).map (·.1) = lines.map (·.1) ++ new ∧ new.Sublist [t] := by
  unfold giveFrom
  split
  · exact ⟨[], (List.append_nil _).symm, List.nil_sublist _⟩
  split
  · refine ⟨[], ?_, List.nil_sublist _⟩
    rw [List.map_map, List.append_nil]
    refine List.map_congr_left fun x _ => ?_
    show (if x.1 = t then (t, x.2 + n) else x).1 = x.1
    split
    next same => exact same.symm
    · rfl
  · exact ⟨[t], List.map_append, List.Sublist.refl _⟩

/-- R81: the lines of the pass follow those before it, in the order of its tubes. -/
theorem greedy_tubes (d : Device) (ts : List (Fin 6)) : ∀ acc : List (Fin 6 × Nat) × Nat,
    ∃ new, (ts.foldl d.greedyStep acc).1.map (·.1) = acc.1.map (·.1) ++ new ∧ new.Sublist ts := by
  induction ts with
  | nil => exact fun acc => ⟨[], (List.append_nil _).symm, List.Sublist.refl _⟩
  | cons t rest ih =>
    intro acc
    obtain ⟨one, first, sub⟩ := giveFrom_tubes acc.1 t (min (d.coinsFree acc.1 t) (acc.2 / d.tubeValue t))
    obtain ⟨more, others, subs⟩ := ih (d.greedyStep acc t)
    refine ⟨one ++ more, ?_, sub.append subs⟩
    rw [List.foldl_cons, others, ← List.append_assoc]
    exact congrArg (· ++ more) first

/-! ### The like-coin pass (R80) -/

/-- R80: the oldest tendered class gives one coin whose tube has one free that fits, then the others follow. -/
theorem likePass_cons {d : Device} {c : Fin 8} (h : d.credit.tendered.head? = some c) (acc : List (Fin 6 × Nat) × Nat) :
    d.likePass acc = Device.likePass { d with credit := { d.credit with tendered := d.credit.tendered.tail } }
      (d.likeStep acc c) := by
  obtain ⟨rest, order⟩ := List.head?_eq_some_iff.1 h
  unfold Device.likePass
  rw [order]
  rfl

theorem likeStep_none {d : Device} {c : Fin 8} (h : d.payout.tubeOf c = none) (acc : List (Fin 6 × Nat) × Nat) :
    d.likeStep acc c = acc := by
  unfold Device.likeStep
  rw [h]

theorem likeStep_bound {d : Device} {c : Fin 8} {u : Fin 6} (h : d.payout.tubeOf c = some u)
    (acc : List (Fin 6 × Nat) × Nat) : d.likeStep acc c =
      if givenFrom acc.1 u < freeCoins d u ∧ d.coins.classes[c].value ≤ acc.2 then
        (giveFrom acc.1 u 1, acc.2 - d.coins.classes[c].value)
      else acc := by
  unfold Device.likeStep
  rw [h]
  simp only [coinsFree_eq, Nat.sub_pos_iff_lt, Bool.and_eq_true, decide_eq_true_eq]

/-- Settles O31: both passes keep a calculation's invariant, and the greedy pass is read off turn by turn. -/
theorem changePlanPaysFromTheTubes : Obligations.ChangePlanPaysFromTheTubes := by
  unfold Obligations.ChangePlanPaysFromTheTubes
  intro d like amount
  have start := likePart_calculated d like amount
  have done := changePlan_calculated d like amount
  have sorted := greedyOrder_sorted d (likePart d like amount).1
  obtain ⟨new, tubes, named⟩ := greedy_tubes d (d.greedyOrder (likePart d like amount).1) (likePart d like amount)
  rw [← changePlan_eq] at tubes
  have length : (likePart d like amount).1.length = ((likePart d like amount).1.map (·.1)).length := by simp
  refine ⟨done.once, fun x hx => ?_, done.total, fun u => ?_, fun u keeps worth => greedyPass_rest start keeps worth, ?_,
    ?_, fun acc => ⟨fun none => ?_, fun c oldest => ?_⟩⟩
  · have some := done.positive x hx
    have room := (le_givenFrom done.once hx).trans (done.free x.1)
    unfold freeCoins at room
    split at room
    next open_ => exact ⟨some, open_.1, open_.2, by omega⟩
    · omega
  · have gives := greedyPass_gives start u
    rw [coinsFree_eq] at gives
    exact gives
  · show ((d.changePlan like amount).1.map (·.1)).take (likePart d like amount).1.length = _
    rw [tubes, length]
    exact List.take_left
  · show (((d.changePlan like amount).1.map (·.1)).drop (likePart d like amount).1.length).Pairwise _
    rw [tubes, length, List.drop_left]
    exact sorted.sublist named
  · unfold Device.likePass
    rw [none]
    rfl
  · rw [likePass_cons oldest]
    refine congrArg (Device.likePass _) ?_
    split
    next unbound => exact likeStep_none unbound acc
    next u bound => exact likeStep_bound bound acc

end Sys2Proof.Proofs
end

section
/-! R86, R113, R115, R88, R122: the credit limit, the tube counts, and what the making of a plan leaves. -/
namespace Sys2Proof.Proofs

open Sys2Proof.Machine Sys2Proof.Laws

-- One proof at a time: together they wait for the kernel in a thread each, and the memory limit is met.
set_option Elab.async false

/-! ### The credit limit and the tube counts -/

theorem recomputeIf_bne {m n : Nat} {d e : Device} (same : m = n → e = d) :
    e.recomputeIf (m != n) = if m = n then d else e.recomputeMask := by
  unfold Device.recomputeIf
  by_cases h : m = n
  · simp [h, same h]
  · simp [h]

theorem amendCreditLimit_taken {m : Nat} {d : Device} (low : 1 ≤ m) (high : m ≤ 65535) (covers : d.credit.balance ≤ m)
    (still : d.coins.inFlight = none) : amendCreditLimit m d = okay (if m = d.credit.maxCredit then d else
      Device.recomputeMask { d with credit := { d.credit with maxCredit := m } }) := by
  have same : m = d.credit.maxCredit → { d with credit := { d.credit with maxCredit := m } } = d := by
    rintro rfl
    rfl
  rw [← recomputeIf_bne same]
  simp [amendCreditLimit, low, high, covers, still]

theorem amendCreditLimit_range {m : Nat} {d : Device} (h : m = 0 ∨ 65535 < m ∨ m < d.credit.balance) :
    amendCreditLimit m d = refuse .range d := by
  refine if_pos ?_
  simp only [Bool.not_eq_true', Bool.and_eq_false_iff, decide_eq_false_iff_not]
  omega

theorem amendCreditLimit_busy {m : Nat} {d : Device} (low : 1 ≤ m) (high : m ≤ 65535) (covers : d.credit.balance ≤ m)
    (flies : d.coins.inFlight.isSome = true) : amendCreditLimit m d = refuse .busy d := by
  simp [amendCreditLimit, low, high, covers, flies]

theorem setTubeCount_eq (tube : Fin 6) (n : Nat) (d : Device) : setTubeCount tube.val n d =
    if d.payout.tubes[tube].capacity < n then refuse .range d
    else if !d.payout.idle then refuse .busy d
    else ((d.updateTube tube fun r => { r with count := n }).recomputeIf (n != d.payout.tubes[tube].count),
      reply .ok (u8 d.payout.tubes[tube].count)) := by
  unfold setTubeCount
  rw [index_val]

theorem updateTube_same {t : Fin 6} {f : Tube → Tube} {d : Device} (h : f d.payout.tubes[t] = d.payout.tubes[t]) :
    d.updateTube t f = d := by
  have tubes : put d.payout.tubes t (f d.payout.tubes[t]) = d.payout.tubes := table_ext fun j => by
    rw [get_put, h]
    split
    next e => rw [e]
    · rfl
  unfold Device.updateTube
  rw [tubes]

/-- Settles O32, by the branches of the two requests. -/
theorem creditLimitAndTubeCount : Obligations.CreditLimitAndTubeCount := by
  unfold Obligations.CreditLimitAndTubeCount
  refine ⟨fun s m h => ⟨fun low high covers still => ?_, fun out => ?_, fun low high covers flies => ?_⟩,
    fun s tube n h => ⟨fun fits idle => ?_, fun more => ?_, fun fits busy => ?_⟩⟩
  all_goals
    show Host.Outcome.next (s.request _) = _
    rw [request_taken h]
  · rw [amendCreditLimit_taken low high covers still]
    rfl
  · rw [amendCreditLimit_range out]
    rfl
  · rw [amendCreditLimit_busy low high covers flies]
    rfl
  · rw [setTubeCount_eq, if_neg (Nat.not_lt.2 fits), idle]
    have same : n = s.dev.payout.tubes[tube].count → s.dev.updateTube tube (fun r => { r with count := n }) = s.dev := by
      intro same
      refine updateTube_same ?_
      rw [same]
    simp only [recomputeIf_bne same]
    rfl
  · rw [setTubeCount_eq, if_pos more]
    rfl
  · rw [setTubeCount_eq, if_neg (Nat.not_lt.2 fits), busy]
    rfl

/-! ### What grants leave of a plan -/

/-- R115, R120: a grant leaves the tubes and lets a plan in WAIT_LOAD go on. -/
structure PlanGoesOn (d e : Device) : Prop where
  tubes : e.payout.tubes = d.payout.tubes
  plan : e.payout.plan = d.payout.plan ∨ e.payout.plan = d.payout.plan.map Plan.eject

theorem PlanGoesOn.refl (d : Device) : PlanGoesOn d d := ⟨rfl, .inl rfl⟩

theorem eject_eject (p : Plan) : p.eject.eject = p.eject := by
  unfold Plan.eject
  by_cases h : p.state = .waitLoad
  · simp [h]
  · simp [h]

theorem PlanGoesOn.trans {a b c : Device} (h : PlanGoesOn a b) (k : PlanGoesOn b c) : PlanGoesOn a c := by
  refine ⟨k.tubes.trans h.tubes, ?_⟩
  rcases k.plan with same | goes
  · rw [same]
    exact h.plan
  · rw [goes]
    rcases h.plan with same | went
    · exact .inr (by rw [same])
    · refine .inr ?_
      rw [went, Option.map_map]
      congr 1
      exact funext eject_eject

theorem tryPulse_plan (d : Device) :
    d.tryPulse.payout.tubes = d.payout.tubes ∧ d.tryPulse.payout.plan = d.payout.plan := by
  unfold Device.tryPulse
  split
  · exact ⟨rfl, rfl⟩
  split
  · split
    · exact ⟨rfl, rfl⟩
    · exact ⟨rfl, rfl⟩
  · exact ⟨rfl, rfl⟩

theorem onGrant_goesOn (who : Claimant) (d : Device) : PlanGoesOn d (d.onGrant who) := by
  by_cases h : who = .payout
  · subst h
    obtain ⟨tubes, plan⟩ := tryPulse_plan (d.updatePlan Plan.eject)
    exact ⟨tubes, .inr plan⟩
  · have same := onGrant_payout h d
    exact ⟨congrArg Payout.tubes same, .inl (congrArg Payout.plan same)⟩

theorem claim_goesOn (c : Claim) (d : Device) : PlanGoesOn d (d.claim c) := by
  have joined : PlanGoesOn d { d with load := { d.load with waiters := d.load.waiters ++ [c] } } := ⟨rfl, .inl rfl⟩
  refine joined.trans (grantLoop_induct (R := PlanGoesOn) .refl .trans (fun {d c rest} _ _ _ => ?_) _ _)
  have taken : PlanGoesOn d { d with load := d.load.grantHead c rest } := ⟨rfl, .inl rfl⟩
  exact taken.trans (onGrant_goesOn c.who _)

/-! ### What the making of a plan leaves (R115) -/

theorem coinsFor_filter (lines : List (Fin 6 × Nat)) (t : Fin 6) :
    ((lines.filter (·.1 = t)).map (·.2)).sum = coinsFor lines t := by
  induction lines with
  | nil => rfl
  | cons l rest ih => by_cases h : l.1 = t <;> simp [h, ih]

/-- R115: a plan made from its lines: WAIT_LOAD or, its claim granted at once, EJECTING; without lines it has ended. -/
structure PlanMade (kind : PlanKind) (req : Requested) (lines : List (Fin 6 × Nat)) (d e : Device) : Prop where
  plan : e.payout.plan = some (newPlan kind req lines) ∨ e.payout.plan = some (newPlan kind req lines).eject
  tubes (t : Fin 6) : e.payout.tubes[t] =
    { d.payout.tubes[t] with planned := d.payout.tubes[t].planned + coinsFor lines t }
  ended : lines = [] → e.payout.plan = some (newPlan kind req []) ∧ e.conditions.has .payoutEnded = true
  claimed : lines ≠ [] → e.coins.mask = 0#8 ∧ payoutClaim ∈ e.load.grants ++ e.load.waiters ∧
    d.changesOnly (.coins :: grantParts) e
  frame : d.changesOnly (.conditions :: .coins :: grantParts) e

theorem planned_plan (kind : PlanKind) (req : Requested) (lines : List (Fin 6 × Nat)) (d : Device) :
    (planned kind req lines d).payout.plan = some (newPlan kind req lines) := by
  unfold planned
  rw [raisePlanned_eq]
  rfl

theorem planned_tube (kind : PlanKind) (req : Requested) (lines : List (Fin 6 × Nat)) (d : Device) (t : Fin 6) :
    (planned kind req lines d).payout.tubes[t] =
      { d.payout.tubes[t] with planned := d.payout.tubes[t].planned + coinsFor lines t } :=
  raisePlanned_tube lines t _

theorem planned_frame (kind : PlanKind) (req : Requested) (lines : List (Fin 6 × Nat)) (d : Device) :
    d.changesOnly [.payout] (planned kind req lines d) := by
  rw [planned_eq]
  exact fun p hp => by cases p <;> first | rfl | simp at hp

/-- R98: while a plan with a line runs the mask is empty. -/
theorem mask_of_busy {d : Device} (h : d.payout.idle = false) : d.recomputeMask.coins.mask = 0#8 := by
  by_contra held
  have closed := (recomputeMask_maskSound d held).2
  exact absurd (closed.symm.trans h) (by decide)

theorem newPlan_busy {kind : PlanKind} {req : Requested} {lines : List (Fin 6 × Nat)} (some : lines ≠ []) :
    (newPlan kind req lines).state = .waitLoad ∧ (newPlan kind req lines).result = none := by
  cases lines with
  | nil => exact absurd rfl some
  | cons l rest => exact ⟨rfl, rfl⟩

theorem makePlan_made (kind : PlanKind) (req : Requested) (lines : List (Fin 6 × Nat)) (d : Device) :
    PlanMade kind req lines d (d.makePlan kind req lines) := by
  have base := planned_frame kind req lines d
  have plan := planned_plan kind req lines d
  have tubes := planned_tube kind req lines d
  by_cases none : lines = []
  · subst none
    have ended : d.makePlan kind req [] = (planned kind req [] d).raise .payoutEnded := rfl
    rw [ended]
    refine ⟨.inl plan, tubes, fun _ => ⟨plan, raised_has _ _⟩, fun some => absurd rfl some, ?_⟩
    exact changesOnly_trans (changesOnly_mono base (by decide))
      (fun p hp => by cases p <;> first | rfl | simp at hp)
  · have claims : d.makePlan kind req lines = ((planned kind req lines d).claim payoutClaim).recomputeMask :=
      if_neg (by simpa using none)
    have goes := claim_goesOn payoutClaim (planned kind req lines d)
    have only : d.changesOnly (.coins :: grantParts) (d.makePlan kind req lines) := by
      rw [claims]
      refine changesOnly_trans (changesOnly_mono base (by decide)) (changesOnly_trans
        (changesOnly_mono (claim_frame payoutClaim _) (by decide)) (fun p hp => by cases p <;> first | rfl | simp at hp))
    have runs := goes.plan
    rw [plan] at runs
    have state := (newPlan_busy (kind := kind) (req := req) none).1
    have busy : ((planned kind req lines d).claim payoutClaim).payout.idle = false := by
      rcases runs with same | went
      · simp [Payout.idle, same, state]
      · simp [Payout.idle, went, Plan.eject, state]
    refine ⟨?_, fun t => ?_, fun h => absurd h none, fun _ => ⟨?_, ?_, only⟩, changesOnly_mono only (by decide)⟩
    · rw [claims]
      exact runs
    · rw [claims]
      exact (congrArg (fun v : Vector Tube 6 => v[t]) goes.tubes).trans (tubes t)
    · rw [claims]
      exact mask_of_busy busy
    · rw [claims]
      show payoutClaim ∈ ((planned kind req lines d).claim payoutClaim).load.grants ++
        ((planned kind req lines d).claim payoutClaim).load.waiters
      rw [claim_entries]
      simp

/-- R114, R115: the record of the plan made. -/
structure PlanRecord (kind : PlanKind) (req : Requested) (lines : List (Fin 6 × Nat)) (p : Plan) : Prop where
  kinds : p.kind = kind
  requested : p.requested = req
  opens : p.lines = lines.map openLine
  paid : p.paid = 0
  overpaid : p.overpaid = 0
  runs : lines ≠ [] → (p.state = .waitLoad ∨ p.state = .ejecting) ∧ p.result = none
  ended : lines = [] → p.state = .ended ∧ p.result = some .short

theorem newPlan_record (kind : PlanKind) (req : Requested) (lines : List (Fin 6 × Nat)) :
    PlanRecord kind req lines (newPlan kind req lines) where
  kinds := rfl
  requested := rfl
  opens := rfl
  paid := rfl
  overpaid := rfl
  runs some := ⟨.inl (newPlan_busy some).1, (newPlan_busy some).2⟩
  ended none := by rw [none]; exact ⟨rfl, rfl⟩

/-- R115, R120: a plan that goes on has the same record but for its state. -/
theorem PlanRecord.eject {kind : PlanKind} {req : Requested} {lines : List (Fin 6 × Nat)} {p : Plan}
    (h : PlanRecord kind req lines p) : PlanRecord kind req lines p.eject := by
  unfold Plan.eject
  split
  next waits =>
    refine ⟨h.kinds, h.requested, h.opens, h.paid, h.overpaid,
      fun some => ⟨.inr rfl, (h.runs some).2⟩, fun none => ?_⟩
    exact absurd (waits.symm.trans (h.ended none).1) (by decide)
  · exact h

theorem PlanMade.record {kind : PlanKind} {req : Requested} {lines : List (Fin 6 × Nat)} {d e : Device}
    (h : PlanMade kind req lines d e) : ∃ p, e.payout.plan = some p ∧ PlanRecord kind req lines p := by
  rcases h.plan with waits | goes
  · exact ⟨_, waits, newPlan_record ..⟩
  · exact ⟨_, goes, (newPlan_record ..).eject⟩

theorem PlanRecord.tubes {kind : PlanKind} {req : Requested} {lines : List (Fin 6 × Nat)} {p : Plan}
    (h : PlanRecord kind req lines p) : p.lines.map (fun l => (l.tube, l.planned)) = lines := by
  rw [h.opens, List.map_map]
  exact List.map_id lines

theorem PlanRecord.fresh {kind : PlanKind} {req : Requested} {lines : List (Fin 6 × Nat)} {p : Plan}
    (h : PlanRecord kind req lines p) : ∀ l ∈ p.lines, l.paid = 0 ∧ l.state = .opened := by
  intro l hl
  rw [h.opens] at hl
  obtain ⟨x, -, rfl⟩ := List.mem_map.1 hl
  exact ⟨rfl, rfl⟩

/-! ### REFUND and DISPENSE (R88, R122) -/

theorem markRefund_credit (k : RefundPending) (d : Device) :
    (d.markRefund k).credit = { d.credit with pending := k } := by
  unfold Device.markRefund
  split
  next same => rw [← same]
  · rfl

theorem markRefund_frame (k : RefundPending) (d : Device) : d.changesOnly [.conditions, .credit] (d.markRefund k) := by
  unfold Device.markRefund
  split
  · exact changesOnly_refl _ d
  · exact fun p hp => by cases p <;> first | rfl | simp at hp

theorem markRefund_changePlan (k : RefundPending) (d : Device) (like : Bool) (amount : Nat) :
    (d.markRefund k).changePlan like amount = d.changePlan like amount := by
  unfold Device.markRefund
  split
  · rfl
  · rfl

theorem takeRefund_taken {d : Device} (some : d.credit.committed < d.credit.balance) (idle : d.payout.idle = true)
    (still : d.coins.inFlight = none) : takeRefund d =
      let u := d.credit.balance - d.credit.committed
      ((d.markRefund .no).makePlan .refund (.amount u) (d.changePlan true u).1,
        reply .accepted (u16 u ++ u16 (u - (d.changePlan true u).2))) := by
  have u : d.credit.uncommitted ≠ 0 := Nat.sub_ne_zero_of_lt some
  have stands : d.moneyStill = true := by simp [Device.moneyStill, idle, still]
  simp only [takeRefund, if_neg u, stands, Bool.not_true, Bool.false_eq_true, if_false, Device.payBack, decide_true,
    markRefund_changePlan]
  rfl

theorem dispense_taken {tube : Fin 6} {n : Nat} {d : Device} (idle : d.payout.idle = true)
    (still : d.coins.inFlight = none) (unasked : d.credit.pending = .no) (low : 1 ≤ n) (high : n ≤ 250)
    (ready : d.payout.tubes[tube].state = .ready)
    (room : n + d.payout.tubes[tube].planned ≤ d.payout.tubes[tube].count) :
    dispense tube.val n d = (d.makePlan .dispense (.coins tube n) [(tube, n)], reply .accepted []) := by
  have stands : d.moneyStill = true := by simp [Device.moneyStill, idle, still]
  have enough : ¬ d.payout.tubes[tube].count - d.payout.tubes[tube].planned < n := by omega
  unfold dispense
  rw [index_val]
  simp only [low, high, stands, unasked, ready, enough]
  rfl

/-- Settles O33: REFUND and DISPENSE make their plan as `PlanMade` says. -/
theorem refundAndDispenseMakeAPlan : Obligations.RefundAndDispenseMakeAPlan := by
  unfold Obligations.RefundAndDispenseMakeAPlan
  intro s h idle still
  refine ⟨fun some => ?_, fun tube n unasked low high ready room => ?_⟩
  · intro u plan
    have made := makePlan_made .refund (.amount u) plan.1 (s.dev.markRefund .no)
    have only : s.dev.changesOnly moneyParts ((s.dev.markRefund .no).makePlan .refund (.amount u) plan.1) :=
      changesOnly_trans (changesOnly_mono (markRefund_frame .no s.dev) (by decide))
        (changesOnly_mono made.frame (by decide))
    have credit := (made.frame .credit (by decide)).trans (markRefund_credit .no s.dev)
    have done : exec .refund s = .next ((s.withDev ((s.dev.markRefund .no).makePlan .refund (.amount u) plan.1)).replied
        .accepted (u16 u ++ u16 (u - plan.2))) := by
      show Host.Outcome.next (s.request _) = _
      rw [request_taken h, takeRefund_taken some idle still]
      rfl
    obtain ⟨p, is, record⟩ := made.record
    refine ⟨_, p, done, rfl, credit, is, record.kinds, record.requested, record.tubes, record.fresh, record.paid,
      record.overpaid, fun tube => ?_, fun none => ?_, fun some => ?_, only⟩
    · have counts := made.tubes tube
      rw [markRefund_payout, ← coinsFor_filter] at counts
      have count := congrArg Tube.count counts
      have raised := congrArg Tube.planned counts
      exact ⟨count, raised⟩
    · obtain ⟨ended, short⟩ := record.ended none
      exact ⟨ended, short, (made.ended none).2⟩
    · obtain ⟨mask, claims, -⟩ := made.claimed some
      obtain ⟨state, unended⟩ := record.runs some
      exact ⟨state, unended, mask, claims⟩
  · have made := makePlan_made .dispense (.coins tube n) [(tube, n)] s.dev
    have done : exec (.dispense tube.val n) s = .next ((s.withDev (s.dev.makePlan .dispense (.coins tube n)
        [(tube, n)])).replied .accepted []) := by
      show Host.Outcome.next (s.request _) = _
      rw [request_taken h, dispense_taken idle still unasked low high ready room]
      rfl
    obtain ⟨p, is, record⟩ := made.record
    obtain ⟨mask, claims, only⟩ := made.claimed (List.cons_ne_nil _ _)
    exact ⟨_, p, done, rfl, only .credit (by decide), is, record.kinds, record.requested, record.opens, record.paid,
      (record.runs (List.cons_ne_nil _ _)).1, mask, claims, only⟩

end Sys2Proof.Proofs
end

section
/-! R116, R117, R121: the pulses of the payout engine and the counts of its chute. -/
namespace Sys2Proof.Proofs

open Sys2Proof.Machine Sys2Proof.Laws

-- One proof at a time: together they wait for the kernel in a thread each, and the memory limit is met.
set_option Elab.async false

/-! ### Pulses -/

/-- R116: no coin is pulsed while a chute window is open. -/
theorem tryPulse_held {d : Device} (h : d.payout.windowOpen = true) : d.tryPulse = d := by
  unfold Device.tryPulse
  split
  · rfl
  · exact if_neg (by simp [h])

/-- R116: the current line's coin is pulsed once the solenoid, the gap and the window let it. -/
theorem tryPulse_pulses {d : Device} {p : Plan} {i : Nat} {l : PlanLine} (plan : d.payout.plan = some p)
    (ejects : p.state = .ejecting) (line : p.currentLine = some (i, l)) (off : d.payout.solenoid = none)
    (ended : d.payout.gapTimer = none) (closed : d.payout.windowOpen = false) :
    d.tryPulse = { d with payout := d.payout.pulse d.now i l.tube } := by
  unfold Device.tryPulse
  simp only [plan, ejects, off, ended, closed, line]
  rfl

/-- R116: the records as the gap has ended. -/
def gapEnded (due : Nat) (d : Device) : Device :=
  { d with now := max d.now due, payout := { d.payout with gapTimer := none } }

theorem pulseGapEnd_due {d : Device} {due : Nat} (h : d.payout.gapTimer = some due) :
    d.pulseGapEnd = (gapEnded due d).tryPulse := by
  unfold Device.pulseGapEnd
  rw [h]
  rfl

/-! ### Counts -/

theorem chuteCount_stray {d : Device} (h : ∀ c, d.payout.coin = some c → c.windowOpen = false) :
    d.chuteCount = d.strayChute := by
  unfold Device.chuteCount
  split
  · rfl
  next c is => exact if_neg (by simp [h c is])

theorem chuteCount_open {d : Device} {c : PendingCoin} (is : d.payout.coin = some c) (opened : c.windowOpen = true) :
    d.chuteCount = d.payCoin c := by
  unfold Device.chuteCount
  rw [is]
  exact if_pos opened

/-- R117 steps 1 to 4: the coin seen in the window has left its tube and is counted in the plan. -/
def coinCounted (c : PendingCoin) (d : Device) : Device :=
  ((d.setCoin (some { c with seen := c.seen + 1 })).coinOut c.tube).updatePlan (Plan.payCoin c.line (d.tubeValue c.tube))

theorem payCoin_eq (c : PendingCoin) (d : Device) : d.payCoin c =
    ((coinCounted c d).debitCoin (d.tubeValue c.tube)).recomputeIf (d.payout.tubes[c.tube].count != 0) := rfl

theorem coinOut_payout (t : Fin 6) (d : Device) : (d.coinOut t).payout =
    { d.payout with tubes := put d.payout.tubes t d.payout.tubes[t].coinOut } := by
  simp only [Device.coinOut]
  split
  · rfl
  · rfl

theorem coinOut_frame (t : Fin 6) (d : Device) : d.changesOnly [.conditions, .payout] (d.coinOut t) := by
  simp only [Device.coinOut]
  split
  · exact fun p hp => by cases p <;> first | rfl | simp at hp
  · exact fun p hp => by cases p <;> first | rfl | simp at hp

theorem coinOut_fault {t : Fin 6} {d : Device} (empty : d.payout.tubes[t].count = 0) :
    (d.coinOut t).conditions.has .tubeFault = true := by
  simp only [Device.coinOut, if_pos empty]
  exact raised_has _ _

theorem coinCounted_payout (c : PendingCoin) (d : Device) : (coinCounted c d).payout =
    { d.payout with
      coin := some { c with seen := c.seen + 1 }
      tubes := put d.payout.tubes c.tube d.payout.tubes[c.tube].coinOut
      plan := d.payout.plan.map (Plan.payCoin c.line (d.tubeValue c.tube)) } := by
  unfold coinCounted
  rw [updatePlan_payout, coinOut_payout]
  rfl

theorem coinCounted_frame (c : PendingCoin) (d : Device) : d.changesOnly [.conditions, .payout] (coinCounted c d) := by
  have seen : d.changesOnly [.conditions, .payout] (d.setCoin (some { c with seen := c.seen + 1 })) :=
    fun p hp => by cases p <;> first | rfl | simp at hp
  have counted (e : Device) (f : Plan → Plan) : e.changesOnly [.conditions, .payout] (e.updatePlan f) :=
    fun p hp => by cases p <;> first | rfl | simp at hp
  exact changesOnly_trans (changesOnly_trans seen (coinOut_frame c.tube _)) (counted _ _)

/-- R117 step 5: what a paid coin of a plan changes: the balance by k, the rest of its value overpaid. -/
structure CoinDebited (v k : Nat) (p : Plan) (d e : Device) : Prop where
  payout : e.payout = { d.payout with plan := some (if p.kind = .dispense then p else overpay (v - k) p) }
  balance : e.credit.balance = d.credit.balance - k
  committed : e.credit.committed = d.credit.committed
  raised : ∀ c, d.conditions.has c = true → e.conditions.has c = true
  frame : d.changesOnly [.conditions, .payout, .credit, .coins] e

theorem setBalance_raised (n : Nat) (d : Device) (c : Condition) (h : d.conditions.has c = true) :
    (d.setBalance n).conditions.has c = true := by
  unfold Device.setBalance
  split
  · exact h
  · exact has_raise c .creditChanged d.conditions h

theorem debitCoin_debited {d : Device} {p : Plan} (v : Nat) (plan : d.payout.plan = some p) :
    CoinDebited v (if p.kind = .dispense then 0 else min v (d.credit.balance - d.credit.committed)) p d
      (d.debitCoin v) := by
  by_cases dispenses : p.kind = .dispense
  · have same : d.debitCoin v = d := if_neg (by simp [plan, dispenses])
    simp only [if_pos dispenses, same]
    exact ⟨by rw [if_pos dispenses, ← plan], rfl, rfl, fun _ => id, changesOnly_refl _ d⟩
  · have pays : d.debitCoin v = (d.setBalance (d.credit.balance - d.credit.debit v)).updatePlan
        (overpay (v - d.credit.debit v)) := if_pos (by simp [plan, dispenses])
    have payout : (d.setBalance (d.credit.balance - d.credit.debit v)).payout = d.payout :=
      setBalance_frame _ d .payout (by decide)
    obtain ⟨balance, committed⟩ := setBalance_credit (d.credit.balance - d.credit.debit v) d
    simp only [if_neg dispenses, pays]
    refine ⟨?_, balance, committed, setBalance_raised _ d, ?_⟩
    · rw [updatePlan_payout, payout, plan, if_neg dispenses]
      rfl
    · exact changesOnly_trans (changesOnly_mono (setBalance_frame _ d) (by decide))
        (fun p hp => by cases p <;> first | rfl | simp at hp)

theorem recomputeIf_frame (b : Bool) (d : Device) : d.changesOnly [.coins] (d.recomputeIf b) := by
  cases b
  · exact changesOnly_refl _ d
  · exact fun p hp => by cases p <;> first | rfl | simp at hp

theorem changeAt_get {α : Type} (f : α → α) : ∀ (xs : List α) (k i : Nat) (x : α), xs[i]? = some x →
    (changeAt f k xs)[i]? = some (if i = k then f x else x) := by
  intro xs
  induction xs with
  | nil => exact fun _ _ _ h => by simp at h
  | cons y ys ih =>
    intro k i x h
    cases k with
    | zero =>
      cases i with
      | zero => simp_all [changeAt]
      | succ i => simpa [changeAt] using h
    | succ k =>
      cases i with
      | zero => simpa [changeAt] using h
      | succ i => simpa [changeAt] using ih k i x (by simpa using h)

/-- Settles O54, a count in the open window by its three stages: the tube, the plan, the balance. -/
theorem pulsesAndChuteCounts : Obligations.PulsesAndChuteCounts := by
  unfold Obligations.PulsesAndChuteCounts
  refine ⟨⟨fun s due h timer => ?_, fun s due h timer => ⟨fun opened => ?_, ?_⟩, fun s h closed => ?_⟩, ?_⟩
  · show Host.Outcome.next (s.event _) = _
    rw [event_awake h, Device.pulseOnEnd, timer]
    rfl
  · show Host.Outcome.next (s.event _) = _
    rw [event_awake h, pulseGapEnd_due timer, tryPulse_held (d := gapEnded due s.dev) opened]
    rfl
  · intro p i l plan ejects line off closed
    show Host.Outcome.next (s.event _) = _
    rw [event_awake h, pulseGapEnd_due timer,
      tryPulse_pulses (d := gapEnded due s.dev) plan ejects line off rfl closed]
    simp only [Payout.pulse, gapEnded]
    rcases s.dev.payout.coin with _ | c
    · rfl
    · rfl
  · show Host.Outcome.next (s.event _) = _
    rw [event_awake h, chuteCount_stray closed]
    rfl
  · intro s c p h coin opened plan r v k
    have counted := coinCounted_payout c s.dev
    have credit : (coinCounted c s.dev).credit = s.dev.credit := coinCounted_frame c s.dev .credit (by decide)
    have planned : (coinCounted c s.dev).payout.plan = some (p.payCoin c.line v) := by
      rw [counted, plan]
      rfl
    have debited : CoinDebited v k (p.payCoin c.line v) (coinCounted c s.dev) ((coinCounted c s.dev).debitCoin v) := by
      have due := debitCoin_debited v planned
      rw [credit] at due
      exact due
    have settled := recomputeIf_frame (r.count != 0) ((coinCounted c s.dev).debitCoin v)
    have done : exec .chuteCount s = .next (s.withDev (((coinCounted c s.dev).debitCoin v).recomputeIf (r.count != 0))) := by
      show Host.Outcome.next (s.event _) = _
      rw [event_awake h, chuteCount_open coin opened, payCoin_eq]
    have payout := (settled .payout (by decide)).trans debited.payout
    have conditions := settled .conditions (by decide)
    have money := settled .credit (by decide)
    refine ⟨_, _, done, ?_, fun empty => ?_, ?_, congrArg Payout.plan payout, ?_, ?_, fun i l line => ?_, ?_, ?_, rfl, rfl,
      changesOnly_trans (changesOnly_mono (coinCounted_frame c s.dev) (by decide))
        (changesOnly_trans (changesOnly_mono debited.frame (by decide)) (changesOnly_mono settled (by decide)))⟩
    · exact (congrArg Payout.tubes payout).trans (congrArg Payout.tubes counted)
    · exact conditions ▸ debited.raised _ (coinOut_fault empty)
    · exact (congrArg Payout.coin payout).trans (congrArg Payout.coin counted)
    · split
      · rfl
      · rfl
    · show (if p.kind = .dispense then _ else _ : Plan).overpaid = if p.kind = .dispense then _ else _
      split
      · rfl
      · rfl
    · have paid := changeAt_get PlanLine.pay p.lines c.line i l line
      split
      · simpa [Plan.payCoin, PlanLine.pay] using paid
      · simpa [Plan.payCoin, PlanLine.pay, overpay] using paid
    · exact (congrArg Credit.balance money).trans (by rw [debited.balance, credit])
    · exact (congrArg Credit.committed money).trans (by rw [debited.committed, credit])

end Sys2Proof.Proofs
end

section
/-! SUPPORT. R85, R90 to R103: the replies of the coin link: how a frame is read, what a payback and the end of a
handshake leave, and what the end of an exchange does. -/
namespace Sys2Proof.Proofs

open Sys2Proof.Machine Sys2Proof.Laws

-- One proof at a time: together they wait for the kernel in a thread each, and the memory limit is met.
set_option Elab.async false

/-! ### Frames (R90, R91) -/

/-- R90: a frame with one byte of payload is taken with the report it makes. -/
theorem goodReply_one (m : Message) (kind k : Byte) :
    goodReply m [0x01#8, kind, 0x01#8, k, kind ^^^ k] false = (reportOf kind.toNat [k]).filter (·.fits m) := by
  have check : checkByte [0x01#8, kind, 0x01#8, k] = kind ^^^ k := by
    show 0#8 ^^^ 0x01#8 ^^^ kind ^^^ 0x01#8 ^^^ k = kind ^^^ k
    rw [BitVec.zero_xor, BitVec.xor_comm 0x01#8 kind, BitVec.xor_assoc kind, BitVec.xor_self, BitVec.xor_zero]
  have kept : frameKept [0x01#8, kind, 0x01#8, k, kind ^^^ k] false = true := by
    show (some (kind ^^^ k) == some (checkByte [0x01#8, kind, 0x01#8, k]) && true) = true
    rw [check]
    simp
  exact if_pos kept

theorem index_ofNat (k : Fin 8) : index 8 (BitVec.ofNat 8 k.val).toNat = some k := by
  have small : (BitVec.ofNat 8 k.val).toNat = k.val := by
    rw [BitVec.toNat_ofNat]
    omega
  rw [small, index_val]

theorem classReport_ofNat (f : Fin 8 → Report) (k : Fin 8) : classReport f (BitVec.ofNat 8 k.val) = some (f k) := by
  rw [classReport, index_ofNat, Option.map_some]

theorem goodReply_coinReady (k : Fin 8) :
    goodReply .poll [0x01#8, 0x11#8, 0x01#8, BitVec.ofNat 8 k.val, 0x11#8 ^^^ BitVec.ofNat 8 k.val] false =
      some (.coinReady k) := by
  have report : reportOf (0x11#8 : Byte).toNat [BitVec.ofNat 8 k.val] = some (.coinReady k) :=
    classReport_ofNat .coinReady k
  rw [goodReply_one, report]
  rfl

theorem goodReply_coinDone (k : Fin 8) :
    goodReply .poll [0x01#8, 0x12#8, 0x01#8, BitVec.ofNat 8 k.val, 0x12#8 ^^^ BitVec.ofNat 8 k.val] false =
      some (.coinDone k) := by
  have report : reportOf (0x12#8 : Byte).toNat [BitVec.ofNat 8 k.val] = some (.coinDone k) :=
    classReport_ofNat .coinDone k
  rw [goodReply_one, report]
  rfl

theorem goodReply_coinReturned (k : Fin 8) :
    goodReply .poll [0x01#8, 0x13#8, 0x01#8, BitVec.ofNat 8 k.val, 0x13#8 ^^^ BitVec.ofNat 8 k.val] false =
      some (.coinReturned k) := by
  have report : reportOf (0x13#8 : Byte).toNat [BitVec.ofNat 8 k.val] = some (.coinReturned k) :=
    classReport_ofNat .coinReturned k
  rw [goodReply_one, report]
  rfl

theorem goodReply_fault {code : Byte} (h : code ≠ 0#8) :
    goodReply .poll [0x01#8, 0x15#8, 0x01#8, code, 0x15#8 ^^^ code] false = some (.fault code.toNat) := by
  have report : reportOf (0x15#8 : Byte).toNat [code] = some (.fault code.toNat) := if_neg h
  rw [goodReply_one, report]
  rfl

theorem goodReply_ident (b : Byte) :
    goodReply .identify [0x01#8, 0x16#8, 0x01#8, b, 0x16#8 ^^^ b] false = some (.ident [b]) := by
  have report : reportOf (0x16#8 : Byte).toNat [b] = some (.ident [b]) := rfl
  rw [goodReply_one, report]
  rfl

/-- R92: a frame read as a good reply. -/
theorem linkFrame_replied {s : State} {e : Exchange} {bytes : List Byte} {r : Report} (h : s.awake)
    (is : s.dev.coins.exchange = some e) (started : e.replyStarted = true)
    (good : goodReply e.message bytes false = some r) :
    exec (.linkFrame bytes false) s = .next (s.withDev (s.dev.replied e.message r)) := by
  show Host.Outcome.next (s.event _) = _
  rw [event_awake h]
  unfold Device.linkFrame
  rw [is]
  simp only [started, good, if_true]

/-- R92: the records with the exchange over and no miss counted. -/
def answered (d : Device) : Device := d.updateCoins fun c => { c with exchange := none, missCount := 0 }

theorem replied_poll (r : Report) (d : Device) : d.replied .poll r = ((answered d).handleReport r).afterExchange := rfl

theorem replied_identify (r : Report) (d : Device) :
    d.replied .identify r = ((answered d).handleReport r).afterExchange := rfl

/-! ### The end of an exchange (R92, R100) -/

theorem routeDue_of_sent {d : Device} (h : ∀ coin, d.coins.inFlight = some coin → coin.routeState = .sent) :
    d.coins.routeDue = false := by
  unfold CoinAcceptance.routeDue
  cases flight : d.coins.inFlight with
  | none => rfl
  | some coin => simp [h coin flight]

/-- R92: without a route due the next slot is timed. -/
theorem afterExchange_timed {d : Device} (link : d.coins.link = .present) (ended : d.coins.exchange = none)
    (quiet : d.coins.routeDue = false) :
    d.afterExchange = d.updateCoins fun c => { c with slotTimer := some (d.now + c.pollPeriod) } := by
  unfold Device.afterExchange
  simp only [link, ended, quiet]
  rfl

/-- R100: a route due is sent at once. -/
theorem afterExchange_routed {d : Device} {coin : CoinInFlight} (link : d.coins.link = .present)
    (ended : d.coins.exchange = none) (flight : d.coins.inFlight = some coin) (due : coin.routeState = .due) :
    d.afterExchange = d.send (.route coin.coinClass coin.route) := by
  have routes : d.coins.routeDue = true := by simp [CoinAcceptance.routeDue, flight, due]
  have message : d.coins.slotMessage = .route coin.coinClass coin.route := by
    simp [CoinAcceptance.slotMessage, flight, due]
  unfold Device.afterExchange Device.openSlot
  simp only [link, ended, routes, message]
  rfl

theorem send_route (c : Fin 8) (r : Route) (d : Device) : d.send (.route c r) = d.updateCoins fun k =>
    { k with exchange := some { message := .route c r, replyStarted := false, replyTimer := some (d.now + 15) }
             lastSent := messageFrame (.route c r), slotTimer := none } := by
  unfold Device.send
  simp only [Bool.and_true, reduceCtorEq, if_false]
  rfl

/-- R92: what the end of an exchange leaves of the link's records. -/
structure LinkTurns (d e : Device) : Prop where
  flight : e.coins.inFlight = d.coins.inFlight
  marker : e.coins.marker = d.coins.marker
  uncertain : e.coins.uncertain = d.coins.uncertain
  cashbox : e.coins.cashbox = d.coins.cashbox
  frame : d.changesOnly [.coins] e

theorem LinkTurns.credit {d e : Device} (h : LinkTurns d e) : e.credit = d.credit := h.frame .credit (by decide)

theorem LinkTurns.payout {d e : Device} (h : LinkTurns d e) : e.payout = d.payout := h.frame .payout (by decide)

theorem LinkTurns.conditions {d e : Device} (h : LinkTurns d e) : e.conditions = d.conditions :=
  h.frame .conditions (by decide)

theorem LinkTurns.refl (d : Device) : LinkTurns d d := ⟨rfl, rfl, rfl, rfl, changesOnly_refl _ d⟩

theorem updateCoins_frame (f : CoinAcceptance → CoinAcceptance) (d : Device) :
    d.changesOnly [.coins] (d.updateCoins f) :=
  fun p hp => by cases p <;> first | rfl | simp at hp

theorem send_turns (m : Message) (d : Device) : LinkTurns d (d.send m) :=
  ⟨rfl, rfl, rfl, rfl, updateCoins_frame _ d⟩

theorem openSlot_turns (d : Device) : LinkTurns d d.openSlot := by
  unfold Device.openSlot
  split
  · exact send_turns _ d
  · exact .refl d

theorem afterExchange_turns (d : Device) : LinkTurns d d.afterExchange := by
  unfold Device.afterExchange
  split
  · split
    · exact openSlot_turns d
    · exact ⟨rfl, rfl, rfl, rfl, updateCoins_frame _ d⟩
  · exact .refl d

/-! ### Paybacks (R85) -/

/-- R85: what a payback leaves: the link but for its mask, the credit record but for its mark, the tubes' counts. -/
structure PaysBack (d e : Device) : Prop where
  link : ∃ m due, e.coins = { d.coins with mask := m, maskDue := due }
  credit : ∃ k, e.credit = { d.credit with pending := k }
  counts : ∀ u : Fin 6, e.payout.tubes[u].count = d.payout.tubes[u].count
  raised : ∀ c, d.conditions.has c = true → e.conditions.has c = true
  frame : d.changesOnly moneyParts e

theorem PaysBack.refl (d : Device) : PaysBack d d :=
  ⟨⟨_, _, rfl⟩, ⟨_, rfl⟩, fun _ => rfl, fun _ => id, changesOnly_refl _ d⟩

theorem PaysBack.trans {a b c : Device} (h : PaysBack a b) (k : PaysBack b c) : PaysBack a c := by
  obtain ⟨m, due, link⟩ := h.link
  obtain ⟨mark, credit⟩ := h.credit
  obtain ⟨m', due', link'⟩ := k.link
  obtain ⟨mark', credit'⟩ := k.credit
  refine ⟨⟨m', due', ?_⟩, ⟨mark', ?_⟩, fun u => (k.counts u).trans (h.counts u),
    fun x => k.raised x ∘ h.raised x, changesOnly_trans h.frame k.frame⟩
  · rw [link', link]
  · rw [credit', credit]

theorem recomputeMask_paysBack (d : Device) : PaysBack d d.recomputeMask :=
  ⟨⟨_, _, rfl⟩, ⟨_, rfl⟩, fun _ => rfl, fun _ => id,
    fun p hp => by cases p <;> first | rfl | simp [moneyParts] at hp⟩

theorem raise_paysBack (c : Condition) (d : Device) : PaysBack d (d.raise c) :=
  ⟨⟨_, _, rfl⟩, ⟨_, rfl⟩, fun _ => rfl, fun k => has_raise k c d.conditions,
    fun p hp => by cases p <;> first | rfl | simp [moneyParts] at hp⟩

theorem markRefund_paysBack (k : RefundPending) (d : Device) : PaysBack d (d.markRefund k) := by
  unfold Device.markRefund
  split
  · exact .refl d
  · refine PaysBack.trans (b := { d with credit := { d.credit with pending := k } }) ?_ (raise_paysBack _ _)
    exact ⟨⟨_, _, rfl⟩, ⟨_, rfl⟩, fun _ => rfl, fun _ => id,
      fun p hp => by cases p <;> first | rfl | simp [moneyParts] at hp⟩

theorem claim_paysBack (c : Claim) (d : Device) : PaysBack d (d.claim c) := by
  have frame := claim_frame c d
  refine ⟨⟨_, _, frame .coins (by decide)⟩, ⟨_, frame .credit (by decide)⟩, fun u => ?_, fun k h => ?_,
    changesOnly_mono frame (by decide)⟩
  · rw [(claim_goesOn c d).tubes]
  · have same : (d.claim c).conditions = d.conditions := frame .conditions (by decide)
    rw [same]
    exact h

theorem planned_paysBack (kind : PlanKind) (req : Requested) (lines : List (Fin 6 × Nat)) (d : Device) :
    PaysBack d (planned kind req lines d) := by
  have frame := planned_frame kind req lines d
  refine ⟨⟨_, _, frame .coins (by decide)⟩, ⟨_, frame .credit (by decide)⟩, fun u => ?_, fun k h => ?_,
    changesOnly_mono frame (by decide)⟩
  · rw [planned_tube]
  · have same : (planned kind req lines d).conditions = d.conditions := frame .conditions (by decide)
    rw [same]
    exact h

theorem makePlan_paysBack (kind : PlanKind) (req : Requested) (lines : List (Fin 6 × Nat)) (d : Device) :
    PaysBack d (d.makePlan kind req lines) := by
  refine (planned_paysBack kind req lines d).trans ?_
  simp only [Device.makePlan]
  split
  · exact raise_paysBack _ _
  · exact (claim_paysBack payoutClaim (planned kind req lines d)).trans (recomputeMask_paysBack _)

theorem servePayback_paysBack (d : Device) : PaysBack d d.servePayback := by
  unfold Device.servePayback
  split
  · exact .refl d
  split
  · refine (markRefund_paysBack .no d).trans ?_
    dsimp only
    split
    · exact .refl _
    · exact makePlan_paysBack ..
  · exact .refl d

theorem askPayback_paysBack (k : RefundPending) (d : Device) : PaysBack d (d.askPayback k) :=
  (markRefund_paysBack _ d).trans (servePayback_paysBack _)

/-! ### The end of a handshake (R76, R103) -/

/-- R76: the end of a handshake leaves what a payback leaves, with no coin in flight and no marker. -/
structure HandshakeEnds (d e : Device) : Prop where
  link : ∃ m due, e.coins = { d.coins with inFlight := none, marker := none, mask := m, maskDue := due }
  credit : ∃ k, e.credit = { d.credit with pending := k }
  counts : ∀ u : Fin 6, e.payout.tubes[u].count = d.payout.tubes[u].count
  changed : e.conditions.has .creditChanged = true
  frame : d.changesOnly moneyParts e

theorem HandshakeEnds.balance {d e : Device} (h : HandshakeEnds d e) : e.credit.balance = d.credit.balance := by
  obtain ⟨k, credit⟩ := h.credit
  rw [credit]

theorem endHandshake_ends (d : Device) : HandshakeEnds d d.endHandshake := by
  have pays : PaysBack ((landed d).raise .creditChanged) d.endHandshake := servePayback_paysBack _
  obtain ⟨m, due, link⟩ := pays.link
  exact ⟨⟨m, due, link⟩, pays.credit, pays.counts, pays.raised _ (raised_has _ _),
    changesOnly_trans (fun p hp => by cases p <;> first | rfl | simp [moneyParts] at hp) pays.frame⟩

/-- R103: the record of a handshake that ends uncertain. -/
def uncertainCoin (coin : CoinInFlight) (cause : UncertainCause) : UncertainCoin :=
  { coinClass := coin.coinClass, value := coin.value, route := coin.route, routeState := some coin.routeState
    cause := cause }

/-- R103: what a handshake that ends uncertain leaves. -/
structure EndsUncertain (coin : CoinInFlight) (cause : UncertainCause) (d e : Device) : Prop where
  link : ∃ m due, e.coins = { d.coins with
    inFlight := none, marker := none, mask := m, maskDue := due, uncertain := some (uncertainCoin coin cause) }
  balance : e.credit.balance = d.credit.balance
  counts : ∀ u : Fin 6, e.payout.tubes[u].count = d.payout.tubes[u].count
  uncertain : e.conditions.has .coinUncertain = true
  changed : e.conditions.has .creditChanged = true
  frame : d.changesOnly moneyParts e

theorem endUncertain_ends (coin : CoinInFlight) (cause : UncertainCause) (d : Device) :
    EndsUncertain coin cause d (d.endUncertain coin cause) := by
  have ends := endHandshake_ends (d.updateCoins fun c => { c with uncertain := some (uncertainCoin coin cause) })
  obtain ⟨m, due, link⟩ := ends.link
  refine ⟨⟨m, due, link⟩, ends.balance, ends.counts, raised_has _ _,
    has_raise _ _ _ ends.changed, ?_⟩
  refine changesOnly_trans (changesOnly_mono (updateCoins_frame _ d) (by decide)) (changesOnly_trans ends.frame ?_)
  exact fun p hp => by cases p <;> first | rfl | simp [moneyParts] at hp

end Sys2Proof.Proofs
end

section
/-! R92, R94, R98 to R105: what each report of the acceptor does. -/
namespace Sys2Proof.Proofs

open Sys2Proof.Machine Sys2Proof.Laws

-- One proof at a time: together they wait for the kernel in a thread each, and the memory limit is met.
set_option Elab.async false

/-! ### Coins offered (R99, R102, R103) -/

/-- R99: the route of an offered class, as the table gives it. -/
theorem routeFor_eq (d : Device) (c : Fin 8) : d.routeFor c =
    if d.coins.classes[c].enabled = false then (.reject, some .disabled)
    else if d.payout.idle = false then (.reject, some .payout)
    else if d.credit.maxCredit < d.credit.balance + d.coins.classes[c].value then (.reject, some .limit)
    else match d.payout.tubeRoute c with
         | some t => (.tube t, none)
         | none => if d.onRef .cashbox then (.cashbox, none) else (.reject, some .noRoute) := by
  unfold Device.routeFor
  simp only [Bool.not_eq_true'] <;> rfl

/-- R102: the records as the class in flight is offered again. -/
def offeredAgain (coin : CoinInFlight) (d : Device) : Device :=
  d.updateCoins fun k => { k with inFlight := some { coin with routeState := .due } }

theorem coinReady_again {d : Device} {coin : CoinInFlight} (flight : d.coins.inFlight = some coin) :
    d.coinReady coin.coinClass = offeredAgain coin d := by
  have due : d.setRouteState .due = offeredAgain coin d := by
    show { d with coins := { d.coins with inFlight := d.coins.inFlight.map _ } } = _
    rw [flight]
    rfl
  rw [← due]
  unfold Device.coinReady
  rw [flight]
  exact if_pos rfl

/-- R100, R102: the class in flight is offered again: its route is sent again. -/
theorem readyAgain {d : Device} {coin : CoinInFlight} (link : d.coins.link = .present) (ended : d.coins.exchange = none)
    (flight : d.coins.inFlight = some coin) : (d.coinReady coin.coinClass).afterExchange = d.updateCoins fun k =>
      { k with inFlight := some { coin with routeState := .due }
               exchange := some { message := .route coin.coinClass coin.route, replyStarted := false
                                  replyTimer := some (d.now + 15) }
               lastSent := messageFrame (.route coin.coinClass coin.route), slotTimer := none } := by
  rw [coinReady_again flight, afterExchange_routed (d := offeredAgain coin d) link ended rfl rfl, send_route]
  rfl

/-- R99, R100: a coin is offered: its handshake begins and its route is sent at once. -/
theorem offer_sent {d : Device} {c : Fin 8} {r : Route × Option RejectReason} (link : d.coins.link = .present)
    (ended : d.coins.exchange = none) (route : d.routeFor c = r) : (d.offer c).afterExchange = d.updateCoins fun k =>
      { k with inFlight := some { coinClass := c, value := d.coins.classes[c].value, route := r.1, reason := r.2
                                  routeState := .due, offeredAt := d.now }
               marker := some { coinClass := c, value := d.coins.classes[c].value, route := r.1 }
               exchange := some { message := .route c r.1, replyStarted := false, replyTimer := some (d.now + 15) }
               lastSent := messageFrame (.route c r.1), slotTimer := none } := by
  subst route
  rw [afterExchange_routed (d := d.offer c) link ended rfl rfl, send_route]
  rfl

/-- R103: another class is offered: the coin in flight ends uncertain and the new one is routed. -/
theorem readyOther {d : Device} {coin : CoinInFlight} {k : Fin 8} (flight : d.coins.inFlight = some coin)
    (other : k ≠ coin.coinClass) : d.coinReady k = (d.endUncertain coin .protocol).offer k := by
  unfold Device.coinReady
  rw [flight]
  exact if_neg (Ne.symm other)

/-! ### Coins delivered (R101) -/

theorem coinDone_wrong {d : Device} {coin : CoinInFlight} {k : Fin 8} (flight : d.coins.inFlight = some coin)
    (wrong : coin.route = .reject ∨ k ≠ coin.coinClass) : d.coinDone k = d.endUncertain coin .protocol := by
  unfold Device.coinDone
  rw [flight]
  refine if_pos ?_
  rcases wrong with rejected | other
  · simp [rejected]
  · simp [Ne.symm other]

theorem coinDone_credits {d : Device} {coin : CoinInFlight} (flight : d.coins.inFlight = some coin)
    (routed : coin.route ≠ .reject) : d.coinDone coin.coinClass =
      (((d.countCoin coin).creditCoin coin.coinClass coin.value).endHandshake).recomputeMask := by
  unfold Device.coinDone
  rw [flight]
  exact if_neg (by simp [routed])

theorem coinIn_count (t u : Fin 6) (d : Device) : (d.coinIn t).payout.tubes[u].count =
    if t = u then (if d.payout.tubes[u].count = d.payout.tubes[u].capacity then d.payout.tubes[u].count
      else d.payout.tubes[u].count + 1) else d.payout.tubes[u].count := by
  by_cases same : t = u
  · subst same
    rw [if_pos rfl]
    unfold Device.coinIn Tube.full
    by_cases full : d.payout.tubes[t].count = d.payout.tubes[t].capacity
    · rw [if_pos full, if_pos (decide_eq_true full)]
      show (put d.payout.tubes t _)[t].count = _
      rw [get_put, if_pos rfl]
    · rw [if_neg full, if_neg (by simpa using full)]
      show (put d.payout.tubes t _)[t].count = _
      rw [get_put, if_pos rfl]
  · rw [if_neg same]
    unfold Device.coinIn
    split
    · show (put d.payout.tubes t _)[u].count = _
      rw [get_put, if_neg (Ne.symm same)]
    · show (put d.payout.tubes t _)[u].count = _
      rw [get_put, if_neg (Ne.symm same)]

/-- R101 step 1: a coin counts in the tube it was routed to. -/
theorem countCoin_tube (coin : CoinInFlight) (d : Device) (u : Fin 6) : (d.countCoin coin).payout.tubes[u].count =
    if coin.route = .tube u then (if d.payout.tubes[u].count = d.payout.tubes[u].capacity then d.payout.tubes[u].count
      else d.payout.tubes[u].count + 1) else d.payout.tubes[u].count := by
  unfold Device.countCoin
  cases coin.route with
  | tube t => simpa using coinIn_count t u d
  | cashbox => rfl
  | reject => rfl

/-- R101 step 1: a coin counts in the cash box when it was routed there. -/
theorem countCoin_cashbox (coin : CoinInFlight) (d : Device) (k : Fin 8) : (d.countCoin coin).coins.cashbox[k] =
    if coin.route = .cashbox ∧ k = coin.coinClass then min 65535 (d.coins.cashbox[k] + 1) else d.coins.cashbox[k] := by
  unfold Device.countCoin
  cases coin.route with
  | tube t =>
    have same : (d.coinIn t).coins = d.coins := congrArg (·.2.1) (coinIn_purse t d)
    show (d.coinIn t).coins.cashbox[k] = _
    rw [same, if_neg (by simp)]
  | cashbox =>
    show (put d.coins.cashbox coin.coinClass (bump d.coins.cashbox[coin.coinClass]))[k] = _
    rw [get_put]
    by_cases same : k = coin.coinClass
    · subst same
      simp [bump, satAdd]
    · simp [same]
  | reject => rw [if_neg (by simp)]

/-! ### The return lever (R85, R105) -/

theorem join_refund (k : RefundPending) : k.join .refund = .refund := by
  cases k
  · rfl
  · rfl
  · rfl

theorem askRefund_eq (d : Device) : d.askPayback .refund = (d.markRefund .refund).servePayback := by
  rw [Device.askPayback, join_refund]

theorem markRefund_still (k : RefundPending) (d : Device) : (d.markRefund k).moneyStill = d.moneyStill := by
  have frame := markRefund_frame k d
  have payout : (d.markRefund k).payout = d.payout := frame .payout (by decide)
  have coins : (d.markRefund k).coins = d.coins := frame .coins (by decide)
  rw [Device.moneyStill, payout, coins, Device.moneyStill]

/-- R85: while money moves the mark waits. -/
theorem askRefund_held {d : Device} (h : d.moneyStill = false) : d.askPayback .refund = d.markRefund .refund := by
  have mark : (d.markRefund .refund).credit.pending = .refund := by rw [markRefund_credit]
  rw [askRefund_eq]
  unfold Device.servePayback
  rw [mark, markRefund_still, h]
  rfl

/-- R85: once money stands still what is uncommitted is paid back. -/
theorem askRefund_served {d : Device} (h : d.moneyStill = true) : d.askPayback .refund =
    if d.credit.uncommitted = 0 then (d.markRefund .refund).markRefund .no
    else ((d.markRefund .refund).markRefund .no).payBack .refund d.credit.uncommitted := by
  have mark : (d.markRefund .refund).credit.pending = .refund := by rw [markRefund_credit]
  have uncommitted : (d.markRefund .refund).credit.uncommitted = d.credit.uncommitted := by
    rw [markRefund_credit]
    rfl
  rw [askRefund_eq]
  unfold Device.servePayback
  rw [mark, markRefund_still, h, uncommitted]
  rfl

theorem askRefund_pending {d : Device} (h : d.moneyStill = true) : (d.askPayback .refund).credit.pending = .no := by
  rw [askRefund_served h]
  split
  · rw [markRefund_credit]
  · have same := (makePlan_made .refund (.amount d.credit.uncommitted)
      (((d.markRefund .refund).markRefund .no).changePlan true d.credit.uncommitted).1
      ((d.markRefund .refund).markRefund .no)).frame .credit (by decide)
    exact (congrArg Credit.pending same).trans (by rw [markRefund_credit])

theorem askRefund_plan {d : Device} (h : d.moneyStill = true) (some : d.credit.committed < d.credit.balance) :
    ∃ p, (d.askPayback .refund).payout.plan = .some p ∧ p.kind = .refund ∧
      p.requested = .amount (d.credit.balance - d.credit.committed) := by
  have u : d.credit.uncommitted ≠ 0 := Nat.sub_ne_zero_of_lt some
  rw [askRefund_served h, if_neg u]
  obtain ⟨p, is, record⟩ := (makePlan_made .refund (.amount d.credit.uncommitted)
    (((d.markRefund .refund).markRefund .no).changePlan true d.credit.uncommitted).1
    ((d.markRefund .refund).markRefund .no)).record
  exact ⟨p, is, record.kinds, record.requested⟩

theorem askRefund_changed {d : Device} (h : d.credit.pending ≠ .refund) :
    (d.askPayback .refund).conditions.has .creditChanged = true := by
  rw [askRefund_eq]
  refine (servePayback_paysBack _).raised _ ?_
  unfold Device.markRefund
  rw [if_neg h]
  exact raised_has _ _

/-! ### Every report -/

/-- R92: a good reply to a POLL, read from its frame. -/
theorem pollReply {s : State} {e : Exchange} {bytes : List Byte} {r : Report} (h : s.awake)
    (is : s.dev.coins.exchange = some e) (started : e.replyStarted = true) (poll : e.message = .poll)
    (good : goodReply .poll bytes false = some r) :
    exec (.linkFrame bytes false) s = .next (s.withDev (((answered s.dev).handleReport r).afterExchange)) := by
  rw [linkFrame_replied h is started (poll ▸ good), poll, replied_poll]

/-- R92: a report that changes nothing but the link's records, without a route due. -/
theorem replied_timed {d e : Device} (is : e.coins.inFlight = d.coins.inFlight) (link : e.coins.link = .present)
    (ended : e.coins.exchange = none)
    (sent : ∀ coin, d.coins.inFlight = some coin → coin.routeState = .sent) :
    e.afterExchange = e.updateCoins fun c => { c with slotTimer := some (e.now + c.pollPeriod) } :=
  afterExchange_timed link ended (routeDue_of_sent (is ▸ sent))

theorem coinReturned_idle {d : Device} (h : d.coins.inFlight = none) : d.coinReturned = d := by
  unfold Device.coinReturned
  rw [h]
  rfl

theorem coinDone_idle {d : Device} (k : Fin 8) (h : d.coins.inFlight = none) : d.coinDone k = d := by
  unfold Device.coinDone
  rw [h]

theorem coinReturned_ends {d : Device} {coin : CoinInFlight} (h : d.coins.inFlight = some coin) :
    d.coinReturned = d.endHandshake := by
  unfold Device.coinReturned
  rw [h]
  rfl

theorem coinReady_offers {d : Device} (k : Fin 8) (h : d.coins.inFlight = none) : d.coinReady k = d.offer k := by
  unfold Device.coinReady
  rw [h]

theorem answered_frame (d : Device) : d.changesOnly [.coins] (answered d) := updateCoins_frame _ d

/-- What the link changes beside a report's effect is in the parts a payback may change. -/
theorem reply_frame {d e : Device} (h : (answered d).changesOnly moneyParts e) : d.changesOnly moneyParts e.afterExchange :=
  changesOnly_trans (changesOnly_mono (answered_frame d) (by decide))
    (changesOnly_trans h (changesOnly_mono (afterExchange_turns e).frame (by decide)))

/-- R102, R76: COIN_RETURNED ends the handshake with nothing credited. -/
theorem returned_reply {d : Device} {coin : CoinInFlight} (flight : d.coins.inFlight = some coin) :
    let t := ((answered d).coinReturned).afterExchange
    t.coins.inFlight = none ∧ t.coins.marker = none ∧ t.conditions.has .creditChanged = true ∧
      t.coins.uncertain = d.coins.uncertain ∧ t.coins.cashbox = d.coins.cashbox ∧ t.credit.balance = d.credit.balance ∧
      (∀ u : Fin 6, t.payout.tubes[u].count = d.payout.tubes[u].count) ∧ d.changesOnly moneyParts t := by
  rw [coinReturned_ends (d := answered d) flight]
  have ends := endHandshake_ends (answered d)
  obtain ⟨m, due, link⟩ := ends.link
  have turns := afterExchange_turns (answered d).endHandshake
  refine ⟨?_, ?_, ?_, ?_, ?_, ?_, fun u => ?_, reply_frame ends.frame⟩
  · rw [turns.flight, link]
  · rw [turns.marker, link]
  · rw [turns.conditions, ends.changed]
  · rw [turns.uncertain, link]
    rfl
  · rw [turns.cashbox, link]
    rfl
  · rw [turns.credit, ends.balance]
    rfl
  · rw [turns.payout, ends.counts]
    rfl

/-- R103: COIN_READY of another class: the coin in flight is lost from sight and the new one's route is sent. -/
theorem otherReady_reply {d : Device} {coin : CoinInFlight} {k : Fin 8} (present : d.coins.link = .present)
    (flight : d.coins.inFlight = some coin) (other : k ≠ coin.coinClass) :
    let t := ((answered d).coinReady k).afterExchange
    ∃ coin', t.coins.uncertain = some (uncertainCoin coin .protocol) ∧ t.coins.inFlight = some coin' ∧
      coin'.coinClass = k ∧ coin'.offeredAt = d.now ∧ coin'.routeState = .due ∧
      t.coins.exchange.map (·.message) = some (.route k coin'.route) ∧ t.conditions.has .coinUncertain = true ∧
      t.credit.balance = d.credit.balance ∧ d.changesOnly moneyParts t := by
  rw [readyOther (d := answered d) flight other]
  have ends := endUncertain_ends coin .protocol (answered d)
  obtain ⟨m, due, link⟩ := ends.link
  generalize (answered d).endUncertain coin .protocol = e at ends link
  have present' : e.coins.link = .present := (congrArg CoinAcceptance.link link).trans present
  have ended : e.coins.exchange = none := congrArg CoinAcceptance.exchange link
  have now : e.now = d.now := ends.frame .clock (by decide)
  have offered : (answered d).changesOnly moneyParts (e.offer k) :=
    changesOnly_trans ends.frame (changesOnly_mono (updateCoins_frame _ e) (by decide))
  have frame := reply_frame offered
  rw [offer_sent present' ended rfl] at frame ⊢
  exact ⟨_, congrArg CoinAcceptance.uncertain link, rfl, rfl, now, rfl, rfl, ends.uncertain, ends.balance, frame⟩

/-- R103: COIN_DONE against a REJECT or of another class: the coin in flight is lost from sight. -/
theorem wrongDone_reply {d : Device} {coin : CoinInFlight} {k : Fin 8} (flight : d.coins.inFlight = some coin)
    (wrong : coin.route = .reject ∨ k ≠ coin.coinClass) :
    let t := ((answered d).coinDone k).afterExchange
    t.coins.uncertain = some (uncertainCoin coin .protocol) ∧ t.coins.inFlight = none ∧ t.coins.marker = none ∧
      t.conditions.has .coinUncertain = true ∧ t.conditions.has .creditChanged = true ∧
      t.credit.balance = d.credit.balance ∧ t.coins.cashbox = d.coins.cashbox ∧
      (∀ u : Fin 6, t.payout.tubes[u].count = d.payout.tubes[u].count) ∧ d.changesOnly moneyParts t := by
  rw [coinDone_wrong (d := answered d) flight wrong]
  have ends := endUncertain_ends coin .protocol (answered d)
  obtain ⟨m, due, link⟩ := ends.link
  have turns := afterExchange_turns ((answered d).endUncertain coin .protocol)
  refine ⟨?_, ?_, ?_, ?_, ?_, ?_, ?_, fun u => ?_, reply_frame ends.frame⟩
  · rw [turns.uncertain, link]
  · rw [turns.flight, link]
  · rw [turns.marker, link]
  · rw [turns.conditions, ends.uncertain]
  · rw [turns.conditions, ends.changed]
  · rw [turns.credit, ends.balance]
    rfl
  · rw [turns.cashbox, link]
    rfl
  · rw [turns.payout, ends.counts]
    rfl

/-- R85, R105: RETURN_LEVER asks for a refund, served at once when money stands still. -/
theorem lever_reply (d : Device) :
    let t := ((answered d).askPayback .refund).afterExchange
    t.coins.inFlight = d.coins.inFlight ∧ t.credit.balance = d.credit.balance ∧
      (d.payout.idle = false ∨ d.coins.inFlight.isSome = true →
        t.credit.pending = .refund ∧ t.payout = d.payout ∧ d.changesOnly [.conditions, .credit, .coins] t) ∧
      (d.payout.idle = true → d.coins.inFlight = none → t.credit.pending = .no ∧
        (d.credit.committed < d.credit.balance → ∃ p, t.payout.plan = some p ∧ p.kind = .refund ∧
          p.requested = .amount (d.credit.balance - d.credit.committed))) ∧
      (d.credit.pending ≠ .refund → t.conditions.has .creditChanged = true) ∧ d.changesOnly moneyParts t := by
  have asked := askPayback_paysBack .refund (answered d)
  have turns := afterExchange_turns ((answered d).askPayback .refund)
  obtain ⟨m, due, link⟩ := asked.link
  obtain ⟨k, credit⟩ := asked.credit
  refine ⟨?_, ?_, fun moves => ?_, fun idle none => ?_, fun unasked => ?_, reply_frame asked.frame⟩
  · rw [turns.flight, link]
    rfl
  · rw [turns.credit, credit]
    rfl
  · have held : (answered d).moneyStill = false := by
      show (d.payout.idle && d.coins.inFlight.isNone) = false
      rcases moves with runs | flies
      · rw [runs, Bool.false_and]
      · rw [← Option.not_isSome, flies, Bool.not_true, Bool.and_false]
    rw [askRefund_held held] at turns ⊢
    have marked := markRefund_frame .refund (answered d)
    refine ⟨?_, ?_, ?_⟩
    · rw [turns.credit, markRefund_credit]
    · rw [turns.payout, markRefund_payout]
      rfl
    · exact changesOnly_trans (changesOnly_mono (answered_frame d) (by decide))
        (changesOnly_trans (changesOnly_mono marked (by decide)) (changesOnly_mono turns.frame (by decide)))
  · have still : (answered d).moneyStill = true := by
      show (d.payout.idle && d.coins.inFlight.isNone) = true
      rw [idle, none]
      rfl
    rw [turns.credit, turns.payout]
    exact ⟨askRefund_pending still, askRefund_plan still⟩
  · rw [turns.conditions]
    exact askRefund_changed unasked

/-- R76, R78, R101: COIN_DONE of a coin routed to a tube or the cash box credits and counts it. -/
theorem coinDone_reply {d : Device} {coin : CoinInFlight} (flight : d.coins.inFlight = some coin)
    (routed : coin.route ≠ .reject) :
    let t := ((answered d).coinDone coin.coinClass).afterExchange
    t.credit.balance = d.credit.balance + coin.value ∧
      t.credit.tendered = (if d.credit.tendered.length < 16 then d.credit.tendered
        else d.credit.tendered.drop 1) ++ [coin.coinClass] ∧
      t.coins.inFlight = none ∧ t.coins.marker = none ∧ t.conditions.has .creditChanged = true ∧
      (∀ k : Fin 6, t.payout.tubes[k].count = if coin.route = .tube k then
          (if d.payout.tubes[k].count = d.payout.tubes[k].capacity then d.payout.tubes[k].count
           else d.payout.tubes[k].count + 1)
        else d.payout.tubes[k].count) ∧
      (∀ k : Fin 8, t.coins.cashbox[k] = if coin.route = .cashbox ∧ k = coin.coinClass then
          min 65535 (d.coins.cashbox[k] + 1) else d.coins.cashbox[k]) ∧
      d.changesOnly moneyParts t := by
  rw [coinDone_credits (d := answered d) flight routed]
  have counted : (answered d).changesOnly [.conditions, .coins, .payout] ((answered d).countCoin coin) :=
    countCoin_frame coin (answered d)
  have money : ((answered d).countCoin coin).credit = d.credit := counted .credit (by decide)
  have ends := endHandshake_ends (((answered d).countCoin coin).creditCoin coin.coinClass coin.value)
  obtain ⟨m, due, link⟩ := ends.link
  obtain ⟨k, credit⟩ := ends.credit
  have turns := afterExchange_turns
    (((answered d).countCoin coin).creditCoin coin.coinClass coin.value).endHandshake.recomputeMask
  have frame : (answered d).changesOnly moneyParts
      (((answered d).countCoin coin).creditCoin coin.coinClass coin.value).endHandshake.recomputeMask :=
    changesOnly_trans (changesOnly_mono counted (by decide)) (changesOnly_trans
      (changesOnly_trans (fun p hp => by cases p <;> first | rfl | simp [moneyParts] at hp) ends.frame)
      (fun p hp => by cases p <;> first | rfl | simp [moneyParts] at hp))
  refine ⟨?_, ?_, ?_, ?_, ?_, fun u => ?_, fun c => ?_, reply_frame frame⟩
  · rw [turns.credit]
    refine ends.balance.trans ?_
    show ((answered d).countCoin coin).credit.balance + coin.value = _
    rw [money]
  · rw [turns.credit]
    refine (congrArg Credit.tendered credit).trans ?_
    show tender coin.coinClass ((answered d).countCoin coin).credit.tendered = _
    rw [money]
    rfl
  · rw [turns.flight]
    exact congrArg CoinAcceptance.inFlight link
  · rw [turns.marker]
    exact congrArg CoinAcceptance.marker link
  · rw [turns.conditions]
    exact ends.changed
  · rw [turns.payout]
    exact (ends.counts u).trans (countCoin_tube coin (answered d) u)
  · rw [turns.cashbox]
    exact (congrArg (fun x : CoinAcceptance => x.cashbox[c]) link).trans (countCoin_cashbox coin (answered d) c)

/-- R93, R98: a good IDENT while ABSENT makes the link PRESENT with a SET_MASK due. -/
theorem ident_reply {d : Device} {bytes : List Byte}
    (sent : ∀ coin, d.coins.inFlight = some coin → coin.routeState = .sent) :
    let t := ((answered d).linkPresent bytes).afterExchange
    t.coins.link = .present ∧ t.coins.identity = some bytes ∧ t.coins.maskDue = true ∧
      t.conditions.has .linkChanged = true ∧ t.coins.slotTimer = some (d.now + d.coins.pollPeriod) ∧
      d.changesOnly [.conditions, .coins] t := by
  have timed : ((answered d).linkPresent bytes).afterExchange = ((answered d).linkPresent bytes).updateCoins fun c =>
      { c with slotTimer := some (d.now + c.pollPeriod) } := replied_timed rfl rfl rfl sent
  rw [timed]
  exact ⟨rfl, rfl, rfl, raised_has _ _, rfl, fun p hp => by cases p <;> first | rfl | simp at hp⟩

/-- R92: a report that leaves the coin in flight and the link leaves the next slot timed. -/
theorem timedReply {s : State} {e : Exchange} {bytes : List Byte} {r : Report} {d : Device} (h : s.awake)
    (is : s.dev.coins.exchange = some e) (started : e.replyStarted = true) (poll : e.message = .poll)
    (good : goodReply .poll bytes false = some r) (handled : (answered s.dev).handleReport r = d)
    (flight : d.coins.inFlight = s.dev.coins.inFlight) (link : d.coins.link = .present) (ended : d.coins.exchange = none)
    (sent : ∀ coin, s.dev.coins.inFlight = some coin → coin.routeState = .sent) :
    exec (.linkFrame bytes false) s =
      .next (s.withDev (d.updateCoins fun c => { c with slotTimer := some (d.now + c.pollPeriod) })) := by
  rw [pollReply h is started poll good, handled, replied_timed flight link ended sent]

/-- Settles O53, report by report. -/
theorem linkFramesRouteAndCreditCoins : Obligations.LinkFramesRouteAndCreditCoins := by
  unfold Obligations.LinkFramesRouteAndCreditCoins
  refine ⟨?_, fun s e b h is started identify absent sent => ?_⟩
  · intro s e h is started poll present c frame code8 uncertain
    have read {bytes : List Byte} {r : Report} (good : goodReply .poll bytes false = some r) :=
      pollReply h is started poll good
    refine ⟨fun code some sent => ?fault, fun kind k which none => ?ignored, fun coin k flight =>
      ⟨?returned, fun same => ?again, fun other => ?other, fun wrong => ?wrong⟩, ?lever, fun sent => ?idle,
      fun k route reason none routed => ?ready, fun coin flight routed => ?done⟩
    case fault => exact timedReply h is started poll (goodReply_fault some) rfl rfl present rfl sent
    case ignored =>
      have sent (coin : CoinInFlight) (is : s.dev.coins.inFlight = some coin) : coin.routeState = .sent :=
        absurd (none.symm.trans is) (by simp)
      rcases which with rfl | rfl
      · exact timedReply h is started poll (goodReply_coinDone k) (coinDone_idle (d := answered s.dev) k none) rfl present
          rfl sent
      · exact timedReply h is started poll (goodReply_coinReturned k) (coinReturned_idle (d := answered s.dev) none) rfl
          present rfl sent
    case returned =>
      obtain ⟨ended, marker, changed, uncertain, cashbox, balance, counts, only⟩ := returned_reply flight
      exact ⟨_, read (goodReply_coinReturned k), ended, marker, changed, uncertain, cashbox, balance, counts, rfl, rfl,
        only⟩
    case again =>
      subst same
      have again := readyAgain (d := answered s.dev) present rfl flight
      exact (read (goodReply_coinReady _)).trans (congrArg (fun d => Host.Outcome.next (s.withDev d)) again)
    case other =>
      obtain ⟨coin', uncertain, flies, class_, offered, due, sends, raised, balance, only⟩ :=
        otherReady_reply present flight other
      exact ⟨_, coin', read (goodReply_coinReady k), uncertain, flies, class_, offered, due, sends, raised, balance, rfl,
        rfl, only⟩
    case wrong =>
      obtain ⟨uncertain, ended, marker, raised, changed, balance, cashbox, counts, only⟩ := wrongDone_reply flight wrong
      exact ⟨_, read (goodReply_coinDone k), uncertain, ended, marker, raised, changed, balance, cashbox, counts, rfl, rfl,
        only⟩
    case lever =>
      obtain ⟨flies, balance, held, served, changed, only⟩ := lever_reply s.dev
      refine ⟨_, read (r := .returnLever) rfl, flies, balance, fun moves => ?_, served, changed, rfl, rfl, only⟩
      obtain ⟨pending, payout, less⟩ := held moves
      exact ⟨pending, payout, rfl, rfl, less⟩
    case idle => exact timedReply h is started poll (r := .idle) rfl rfl rfl present rfl sent
    case ready =>
      have route_ : (answered s.dev).routeFor k = (route, reason) := by
        rw [routed, routeFor_eq]
        rfl
      have sends := offer_sent (d := answered s.dev) present rfl route_
      rw [← coinReady_offers (d := answered s.dev) k none] at sends
      exact (read (goodReply_coinReady k)).trans (congrArg (fun d => Host.Outcome.next (s.withDev d)) sends)
    case done =>
      obtain ⟨balance, tendered, ended, marker, changed, counts, cashbox, only⟩ := coinDone_reply flight routed
      exact ⟨_, read (goodReply_coinDone coin.coinClass), balance, tendered, ended, marker, changed, counts, cashbox, rfl,
        rfl, only⟩
  · obtain ⟨present, identity, due, changed, timer, only⟩ := ident_reply (bytes := [b]) sent
    have reply := linkFrame_replied h is started (identify ▸ goodReply_ident b)
    rw [identify, replied_identify] at reply
    exact ⟨_, reply, present, identity, due, changed, timer, rfl, rfl, only⟩

end Sys2Proof.Proofs
end

section
/-! R96 to R98: which classes the recomputed mask holds, and the requests on the class table and the cash box counts. -/
namespace Sys2Proof.Proofs

open Sys2Proof.Machine Sys2Proof.Laws

-- One proof at a time: together they wait for the kernel in a thread each, and the memory limit is met.
set_option Elab.async false

/-! ### Sets of classes (11.6) -/

/-- The set `m` with those classes of a list that `f` holds of: how `classSet` gathers its members. -/
def withClasses (f : Fin 8 → Bool) (cs : List (Fin 8)) (m : BitVec 8) : BitVec 8 :=
  cs.foldl (fun m c => if f c then m ||| (1#8 <<< c.val) else m) m

theorem classSet_eq (f : Fin 8 → Bool) : classSet f = withClasses f allClasses 0#8 := rfl

/-- Class a stands at bit a. -/
theorem classBit_iff (a c : Fin 8) : (1#8 <<< a.val).getLsbD c.val = true ↔ c = a := by
  revert a c
  decide

theorem mem_withClasses (f : Fin 8 → Bool) (c : Fin 8) (cs : List (Fin 8)) (m : BitVec 8) :
    (withClasses f cs m).getLsbD c.val = true ↔ m.getLsbD c.val = true ∨ (c ∈ cs ∧ f c = true) := by
  induction cs generalizing m with
  | nil => simp [withClasses]
  | cons a rest ih =>
    have next : withClasses f (a :: rest) m =
        withClasses f rest (if f a then m ||| (1#8 <<< a.val) else m) := rfl
    have joined : (if f a then m ||| (1#8 <<< a.val) else m).getLsbD c.val = true ↔
        m.getLsbD c.val = true ∨ (c = a ∧ f c = true) := by
      by_cases taken : f a = true
      · rw [if_pos taken, BitVec.getLsbD_or, Bool.or_eq_true, classBit_iff]
        exact or_congr_right ⟨fun same => ⟨same, same ▸ taken⟩, And.left⟩
      · rw [if_neg taken]
        exact ⟨.inl, fun h => h.elim id fun ⟨same, holds⟩ => absurd (same ▸ holds) taken⟩
    rw [next, ih, joined, List.mem_cons, or_and_right, or_assoc]

theorem mem_classSet (f : Fin 8 → Bool) (c : Fin 8) : (classSet f).getLsbD c.val = true ↔ f c = true := by
  rw [classSet_eq, mem_withClasses]
  simp [show c ∈ allClasses from mem_upTo c]

/-! ### The acceptance mask (R98) -/

/-- R98, R99: a class has a tube route when its bound tube is READY and not full. -/
theorem tubeRoute_isSome_iff (p : Payout) (c : Fin 8) : (p.tubeRoute c).isSome = true ↔
    ∃ t, p.tubeOf c = some t ∧ p.tubes[t].state = .ready ∧ p.tubes[t].count ≠ p.tubes[t].capacity := by
  unfold Payout.tubeRoute
  cases bound : p.tubeOf c with
  | none => simp
  | some t =>
    have usable : (p.tubes[t].state = .ready && !p.tubes[t].full) = true ↔
        p.tubes[t].state = .ready ∧ p.tubes[t].count ≠ p.tubes[t].capacity := by simp [Tube.full]
    simp only [Option.isSome_ite, Option.some.injEq, exists_eq_left', usable]

/-- R98: when the mask holds a class. -/
theorem accepts_iff (d : Device) (c : Fin 8) : d.accepts c = true ↔
    d.coins.link = .present ∧ d.payout.idle = true ∧ d.coins.classes[c].enabled = true ∧
      d.credit.balance + d.coins.classes[c].value ≤ d.credit.maxCredit ∧
      ((∃ t, d.payout.tubeOf c = some t ∧ d.payout.tubes[t].state = .ready ∧
          d.payout.tubes[t].count ≠ d.payout.tubes[t].capacity) ∨ d.onRef .cashbox = true) := by
  rw [← tubeRoute_isSome_iff]
  simp only [Device.accepts, Bool.and_eq_true, Bool.or_eq_true, decide_eq_true_eq, and_assoc]

theorem recomputeMask_frame (d : Device) : d.changesOnly [.coins] d.recomputeMask := by
  intro p hp
  cases p with
  | coins => simp at hp
  | _ => rfl

/-- Settles O30: the recomputed mask is the set of the classes accepted. -/
theorem acceptanceMaskRule : Obligations.AcceptanceMaskRule := by
  intro d c
  refine ⟨(mem_classSet d.accepts c).trans (accepts_iff d c), ?_, recomputeMask_frame d⟩
  show (d.coins.acknowledged != some d.recomputeMask.coins.mask) = true ↔ _
  exact bne_iff_ne

/-! ### AMEND CLASS and CLEAR CASHBOX (R96, R97) -/

/-- R96: the record of an amendment with its enabled mark in range. -/
theorem applied_eq {a : ClassAmend} (h : named 0 1 a.enabled) (r : CoinClass) : ClassAmend.applied a r =
    { value := a.value.getD r.value
      enabled := match a.enabled with
                 | some 0 => false
                 | some _ => true
                 | none => r.enabled } := by
  unfold ClassAmend.applied
  cases code : a.enabled with
  | none => rfl
  | some v =>
    obtain ⟨-, top⟩ := h v code
    match v, top with
    | 0, _ => rfl
    | 1, _ => rfl

/-- R96: an amendment that passes both checks writes the class's record and the mask is recomputed. -/
theorem amendClass_taken {c : Fin 8} {a : ClassAmend} {d : Device} (value : named 1 10000 a.value)
    (enabled : named 0 1 a.enabled)
    (still : ∀ v, a.value = some v → v ≠ d.coins.classes[c].value → d.payout.idle = true) :
    amendClass c.val a d = okay (d.updateCoins fun k =>
      { k with classes := put k.classes c (ClassAmend.applied a d.coins.classes[c]) }).recomputeMask := by
  have range : (within 1 10000 a.value && coded yesNoOf a.enabled) = true := by
    rw [within_iff.2 value, coded_of_named rfl rfl enabled]
    rfl
  have allowed : (a.value.any (· ≠ d.coins.classes[c].value) && !d.payout.idle) = false := by
    cases idle : d.payout.idle with
    | true => rw [Bool.not_true, Bool.and_false]
    | false =>
      rw [Bool.not_false, Bool.and_true, Option.any_eq_false]
      intro v hv
      have same : v = d.coins.classes[c].value := by
        by_contra other
        exact absurd (idle.symm.trans (still v hv other)) (by decide)
      simp [same]
  unfold amendClass
  simp only [index_val, range, allowed, Bool.not_true, Bool.false_eq_true, if_false]

/-- Settles O34: AMEND CLASS passes its two checks, and CLEAR CASHBOX has none. -/
theorem amendClassAndClearCashbox : Obligations.AmendClassAndClearCashbox := by
  intro s h
  refine ⟨fun c a value enabled still => ?_, ?_⟩
  · have taken := amendClass_taken value enabled still
    rw [applied_eq enabled] at taken
    exact request_okay (f := amendClass c.val a) h taken
  · exact congrArg Host.Outcome.next (request_taken h clearCashbox)

end Sys2Proof.Proofs
end

section
/-! R92, R93, R98, R100, R103: the slots of the coin link, its misses, the loss of the link and the coin's timeout. -/
namespace Sys2Proof.Proofs

open Sys2Proof.Machine Sys2Proof.Laws

-- One proof at a time: together they wait for the kernel in a thread each, and the memory limit is met.
set_option Elab.async false

/-! ### Events and their timers -/

/-- An event on the records of a device that is not held in reset. -/
theorem next_event {s : State} (h : s.awake) {f : Device → Device} {d : Device} (acts : f s.dev = d) :
    Host.Outcome.next (φ := Fault) (ρ := Refusal) (s.event f) = .next (s.withDev d) := by
  rw [event_awake h, acts]

theorem onExpiry_due {t : Timer} {due : Nat} (runs : t = some due) (f : Nat → Device → Device) (d : Device) :
    d.onExpiry t f = f due (d.reach due) := by
  rw [runs]
  rfl

theorem reach_frame (due : Nat) (d : Device) : d.changesOnly [.clock] (d.reach due) := by
  intro p hp
  cases p with
  | clock => simp at hp
  | _ => rfl

/-- A change of the money after the clock has reached a timer's end. -/
theorem money_after_reach {d e : Device} {due : Nat} (h : (d.reach due).changesOnly moneyParts e) :
    d.changesOnly (.clock :: moneyParts) e :=
  changesOnly_trans (changesOnly_mono (reach_frame due d) (by decide))
    (changesOnly_mono h fun _ => List.mem_cons_of_mem _)

/-! ### Slots and IDENTIFY (R92, R93, R100) -/

/-- R92: at a slot the first message due is sent. -/
theorem linkSlot_sends {d : Device} {due : Nat} {m : Message} (runs : d.coins.slotTimer = some due)
    (link : d.coins.link = .present) (quiet : d.coins.exchange = none) (first : d.coins.slotMessage = m) :
    d.linkSlot = ((d.reach due).updateCoins fun c => { c with slotTimer := none }).send m := by
  subst first
  rw [Device.linkSlot, onExpiry_due runs]
  refine if_pos ?_
  show (decide (d.coins.link = .present) && d.coins.exchange.isNone) = true
  rw [link, quiet]
  rfl

theorem slotMessage_route {c : CoinAcceptance} {coin : CoinInFlight} (flight : c.inFlight = some coin)
    (due : coin.routeState = .due) : c.slotMessage = .route coin.coinClass coin.route := by
  simp [CoinAcceptance.slotMessage, flight, due]

/-- R92: without a route due a SET_MASK that is due goes before a POLL. -/
theorem slotMessage_routed {c : CoinAcceptance} (sent : ∀ coin, c.inFlight = some coin → coin.routeState = .sent) :
    c.slotMessage = if c.maskDue then .setMask c.mask else .poll := by
  unfold CoinAcceptance.slotMessage
  cases flight : c.inFlight with
  | none => rfl
  | some coin => simp [sent coin flight]

theorem send_setMask (k : BitVec 8) (d : Device) : d.send (.setMask k) = d.updateCoins fun c =>
    { c with exchange := some { message := .setMask k, replyStarted := false, replyTimer := some (d.now + 15) }
             lastSent := messageFrame (.setMask k), slotTimer := none, maskDue := false } := by
  unfold Device.send
  simp only [Bool.and_false, reduceCtorEq, if_false]
  rfl

theorem send_poll (d : Device) : d.send .poll = d.updateCoins fun c =>
    { c with exchange := some { message := .poll, replyStarted := false, replyTimer := some (d.now + 15) }
             lastSent := messageFrame .poll, slotTimer := none } := by
  unfold Device.send
  simp only [Bool.and_true, reduceCtorEq, if_false]
  rfl

theorem send_identify (d : Device) : d.send .identify = d.updateCoins fun c =>
    { c with exchange := some { message := .identify, replyStarted := false, replyTimer := some (d.now + 15) }
             lastSent := [0x06#8, 0x04#8, 0x00#8, 0x02#8], slotTimer := none
             identifyTimer := some (d.now + 500) } := by
  unfold Device.send
  simp only [Bool.and_true, if_true]
  rfl

/-- R93: 500 ms after the last IDENTIFY the next one is sent. -/
theorem identifyExpiry_sends {d : Device} {due : Nat} (runs : d.coins.identifyTimer = some due)
    (link : d.coins.link = .absent) (quiet : d.coins.exchange = none) :
    d.identifyExpiry = (d.reach due).send .identify := by
  rw [Device.identifyExpiry, onExpiry_due runs]
  refine if_pos ?_
  show (decide (d.coins.link = .absent) && d.coins.exchange.isNone) = true
  rw [link, quiet]
  rfl

/-- R92: the first byte of a reply stops its 15 ms. -/
theorem linkFirstByte_starts {d : Device} {e : Exchange} (is : d.coins.exchange = some e)
    (waits : e.replyTimer.isSome = true) : d.linkFirstByte = d.updateCoins fun c =>
      { c with exchange := some { e with replyStarted := true, replyTimer := none } } := by
  show { d with coins := { d.coins with exchange := d.coins.exchange.map _ } } = _
  rw [is, Option.map_some, if_pos waits]
  rfl

/-! ### Misses (R92, R93, R98) -/

/-- R98: a SET_MASK is due again after its exchange has failed. -/
def masksAgain : Message → Bool
  | .setMask _ => true
  | _ => false

/-- R92: the records with the exchange over and its miss counted. -/
def missCounted (m : Message) (d : Device) : Device := d.updateCoins fun c =>
  { c with exchange := none, missCount := c.missCount + 1, maskDue := c.maskDue || masksAgain m }

/-- R93: the miss that brings the count to 3 takes the link down. -/
theorem missed_present {d : Device} (m : Message) (link : d.coins.link = .present) : d.missed m =
    if 3 ≤ d.coins.missCount + 1 then (missCounted m d).linkLost else (missCounted m d).afterExchange := by
  unfold Device.missed
  dsimp only
  split
  next absent => exact absurd (absent.symm.trans link) (by decide)
  next => rfl

/-- R92: an earlier miss times the next slot, no route being due. -/
theorem missed_timed {d : Device} (m : Message) (link : d.coins.link = .present) (few : d.coins.missCount < 2)
    (sent : ∀ coin, d.coins.inFlight = some coin → coin.routeState = .sent) :
    d.missed m = (missCounted m d).updateCoins fun c => { c with slotTimer := some (d.now + c.pollPeriod) } := by
  rw [missed_present m link, if_neg (by omega)]
  exact replied_timed (d := d) rfl link rfl sent

theorem linkReplyTimeout_misses {d : Device} {e : Exchange} {due : Nat} (is : d.coins.exchange = some e)
    (runs : e.replyTimer = some due) : d.linkReplyTimeout = (d.reach due).missed e.message := by
  unfold Device.linkReplyTimeout
  rw [is]
  exact onExpiry_due runs _ d

/-- R90: a frame with a framing error is no reply. -/
theorem goodReply_framingError (m : Message) (bytes : List Byte) : goodReply m bytes true = none := by
  have discarded : frameKept bytes true = false := by
    unfold frameKept
    split
    · rfl
    · rfl
  unfold goodReply
  rw [discarded]
  rfl

theorem linkFrame_misses {d : Device} {e : Exchange} (is : d.coins.exchange = some e) (started : e.replyStarted = true)
    (bytes : List Byte) : d.linkFrame bytes true = d.missed e.message := by
  unfold Device.linkFrame
  rw [is]
  simp only [started, goodReply_framingError, if_true]

/-! ### The link is lost (R93, R103) -/

/-- R98: without the link the mask is empty. -/
theorem mask_of_absent {d : Device} (absent : d.coins.link = .absent) (sound : d.maskSound) : d.coins.mask = 0#8 := by
  by_contra held
  obtain ⟨present, -⟩ := sound held
  exact absurd (absent.symm.trans present) (by decide)

/-- R93: what a coin in flight leaves as the link is lost. -/
structure CoinLost (d e : Device) : Prop where
  link : e.coins.link = d.coins.link
  misses : e.coins.missCount = d.coins.missCount
  acknowledged : e.coins.acknowledged = d.coins.acknowledged
  flight : e.coins.inFlight = none
  balance : e.credit.balance = d.credit.balance
  uncertain : ∀ coin, d.coins.inFlight = some coin →
    e.conditions.has .coinUncertain = true ∧ e.coins.uncertain = some (uncertainCoin coin .linkLost)
  frame : d.changesOnly moneyParts e

theorem loseCoin_lost (d : Device) : CoinLost d d.loseCoin := by
  unfold Device.loseCoin
  cases flight : d.coins.inFlight with
  | none =>
    have absent (coin : CoinInFlight) : d.coins.inFlight ≠ some coin := by simp [flight]
    exact ⟨rfl, rfl, rfl, flight, rfl, fun coin is => absurd is (absent coin), changesOnly_refl _ d⟩
  | some coin =>
    have ends := endUncertain_ends coin .linkLost d
    obtain ⟨m, due, link⟩ := ends.link
    show CoinLost d (d.endUncertain coin .linkLost)
    refine ⟨by rw [link], by rw [link], by rw [link], by rw [link], ends.balance, fun coin' is => ?_, ends.frame⟩
    obtain rfl := Option.some.inj (flight.symm.trans is)
    exact ⟨ends.uncertain, congrArg CoinAcceptance.uncertain link⟩

/-- R93: what the loss of the link leaves: no link, no mask, no coin in flight, and an IDENTIFY sent. -/
structure LinkFalls (d e : Device) : Prop where
  link : e.coins.link = .absent
  misses : e.coins.missCount = 0
  acknowledged : e.coins.acknowledged = none
  mask : e.coins.mask = 0#8
  flight : e.coins.inFlight = none
  changed : e.conditions.has .linkChanged = true
  identifies : e.coins.exchange.map (·.message) = some .identify
  uncertain : ∀ coin, d.coins.inFlight = some coin →
    e.conditions.has .coinUncertain = true ∧ e.coins.uncertain = some (uncertainCoin coin .linkLost)
  balance : e.credit.balance = d.credit.balance
  frame : d.changesOnly moneyParts e

/-- R93: the records with the link ABSENT, before its mask is recomputed. -/
def unlinked (d : Device) : Device := d.updateCoins fun c =>
  { c with link := .absent, missCount := 0, acknowledged := none, slotTimer := none }

theorem linkLost_eq (d : Device) :
    d.linkLost = ((((unlinked d).recomputeMask).loseCoin).raise .linkChanged).send .identify := rfl

theorem unlinked_frame (d : Device) : d.changesOnly [.coins] (unlinked d).recomputeMask :=
  changesOnly_trans (updateCoins_frame _ d) (recomputeMask_frame _)

theorem linkLost_falls (d : Device) : LinkFalls d d.linkLost := by
  have lost := loseCoin_lost (unlinked d).recomputeMask
  have sound := (loseCoin_keepsMoney (unlinked d).recomputeMask).mask (recomputeMask_maskSound (unlinked d))
  rw [linkLost_eq]
  generalize (unlinked d).recomputeMask.loseCoin = e at lost sound
  refine ⟨lost.link, lost.misses, lost.acknowledged, mask_of_absent lost.link sound, lost.flight, raised_has _ _, rfl,
    fun coin is => ?_, lost.balance, ?_⟩
  · obtain ⟨raised, record⟩ := lost.uncertain coin is
    exact ⟨has_raise _ _ _ raised, record⟩
  · have entered : d.changesOnly moneyParts e :=
      changesOnly_trans (changesOnly_mono (unlinked_frame d) (by decide)) lost.frame
    have raised : e.changesOnly moneyParts (e.raise .linkChanged) := (raise_paysBack .linkChanged e).frame
    have sent := (send_turns .identify (e.raise .linkChanged)).frame
    exact changesOnly_trans entered (changesOnly_trans raised (changesOnly_mono sent (by decide)))

/-- R93: the third miss in a row loses the link. -/
theorem missed_falls {d : Device} (m : Message) (link : d.coins.link = .present) (two : d.coins.missCount = 2) :
    LinkFalls d (d.missed m) := by
  rw [missed_present m link, if_pos (by omega)]
  have falls := linkLost_falls (missCounted m d)
  exact { falls with
    frame := changesOnly_trans (changesOnly_mono (updateCoins_frame _ d) (by decide)) falls.frame }

/-! ### The coin's timeout (R103) -/

theorem coinTimeout_ends {d : Device} {coin : CoinInFlight} (flight : d.coins.inFlight = some coin) :
    d.coinTimeout = (d.reach (coin.offeredAt + Config.coinMs)).endUncertain coin .timeout := by
  unfold Device.coinTimeout
  rw [flight]

/-! ### Slots and misses -/

/-- R92: LINK SLOT while PRESENT with no exchange under way. -/
theorem exec_linkSlot {s : State} {due : Nat} {m : Message} (h : s.awake) (runs : s.dev.coins.slotTimer = some due)
    (link : s.dev.coins.link = .present) (quiet : s.dev.coins.exchange = none) (first : s.dev.coins.slotMessage = m) :
    exec .linkSlot s =
      .next (s.withDev (((s.dev.reach due).updateCoins fun c => { c with slotTimer := none }).send m)) :=
  next_event h (linkSlot_sends runs link quiet first)

/-- Settles O52, event by event. -/
theorem linkSlotsAndMisses : Obligations.LinkSlotsAndMisses := by
  unfold Obligations.LinkSlotsAndMisses
  refine ⟨⟨fun s due h runs link quiet =>
      ⟨fun coin flight due => ?route, fun sent => ⟨fun mask => ?mask, fun current => ?poll⟩⟩,
    fun s due h runs link quiet => ?identify, fun s e h is waits => ?first⟩,
    fun s e due h is runs link => ⟨fun few sent => ?miss, fun two => ?third⟩,
    fun s e bytes h is started link few sent => ?framing, fun s coin h flight => ?timeout⟩
  case route =>
    rw [exec_linkSlot h runs link quiet (slotMessage_route flight due), send_route]
    rfl
  case mask =>
    have first : s.dev.coins.slotMessage = .setMask s.dev.coins.mask := by rw [slotMessage_routed sent, if_pos mask]
    rw [exec_linkSlot h runs link quiet first, send_setMask]
    rfl
  case poll =>
    have first : s.dev.coins.slotMessage = .poll := by rw [slotMessage_routed sent, current, if_neg (by decide)]
    rw [exec_linkSlot h runs link quiet first, send_poll, ← current]
    rfl
  case identify =>
    exact next_event h ((identifyExpiry_sends runs link quiet).trans (send_identify _))
  case first => exact next_event h (linkFirstByte_starts is waits)
  case miss =>
    exact next_event h ((linkReplyTimeout_misses is runs).trans
      (missed_timed (d := s.dev.reach due) e.message link few sent))
  case third =>
    have falls := missed_falls (d := s.dev.reach due) e.message link two
    exact ⟨_, next_event h (linkReplyTimeout_misses is runs), falls.link, falls.misses, falls.acknowledged, falls.mask,
      falls.flight, falls.changed, falls.identifies, falls.uncertain, falls.balance, rfl, rfl,
      money_after_reach falls.frame⟩
  case framing =>
    exact next_event h ((linkFrame_misses is started bytes).trans (missed_timed e.message link few sent))
  case timeout =>
    have ends := endUncertain_ends coin .timeout (s.dev.reach (coin.offeredAt + Config.coinMs))
    obtain ⟨m, due, link⟩ := ends.link
    exact ⟨_, next_event h (coinTimeout_ends flight), congrArg CoinAcceptance.inFlight link,
      congrArg CoinAcceptance.marker link, congrArg CoinAcceptance.uncertain link, ends.uncertain, ends.balance,
      (congrArg CoinAcceptance.cashbox link).trans rfl, ends.counts, rfl, rfl, money_after_reach ends.frame⟩

end Sys2Proof.Proofs
end

section
/-! R112: AMEND TUBE: its checks, the record it writes, and when the mask is recomputed. -/
namespace Sys2Proof.Proofs

open Sys2Proof.Machine Sys2Proof.Laws

-- One proof at a time: together they wait for the kernel in a thread each, and the memory limit is met.
set_option Elab.async false

/-- R112: the binding an amendment names, or the present one. -/
def bindsTo (a : TubeAmend) (present b : Option (Fin 8)) : Prop :=
  a.boundClass = none ∧ b = present ∨ a.boundClass = some (b.map (·.val))

/-- R112: the states AMEND TUBE may name. -/
def namesState (a : TubeAmend) : Prop := a.state = none ∨ a.state = some 0 ∨ a.state = some 2

/-- R112: the record after an amendment that results in the binding b. -/
def amendedTube (a : TubeAmend) (b : Option (Fin 8)) (r : Tube) : Tube :=
  { r with boundClass := b, capacity := a.capacity.getD r.capacity,
           state := if b = none then .disabled
                    else if a.state = some 0 then .ready
                    else if a.state = some 2 then .disabled
                    else if r.boundClass = none then .ready
                    else r.state,
           lastFault := if a.state = some 0 then none else r.lastFault }

theorem binding_eq {a : TubeAmend} {present b : Option (Fin 8)} (h : bindsTo a present b) :
    TubeAmend.binding a present = b := by
  unfold TubeAmend.binding
  rcases h with ⟨unnamed, same⟩ | names
  · rw [unnamed, same]
  · rw [names]
    cases b with
    | none => rfl
    | some c => exact index_val c

theorem binding_inRange {a : TubeAmend} {present b : Option (Fin 8)} (h : bindsTo a present b) :
    a.boundClass.all (fun b => b.all (· < 8)) = true := by
  rcases h with ⟨unnamed, -⟩ | names
  · rw [unnamed]
    rfl
  · rw [names]
    cases b with
    | none => rfl
    | some c => exact decide_eq_true c.isLt

theorem applied_tube {a : TubeAmend} {b : Option (Fin 8)} {r : Tube} (binds : bindsTo a r.boundClass b)
    (state : namesState a) : TubeAmend.applied a r = amendedTube a b r := by
  unfold TubeAmend.applied TubeAmend.stateAfter amendedTube
  rw [binding_eq binds]
  rcases state with unnamed | ready | disabled
  · simp [unnamed]
  · simp [ready, tubeStateOf]
  · simp [disabled, tubeStateOf]

/-- R112 check 1. -/
theorem tubeAmend_inRange {a : TubeAmend} {b : Option (Fin 8)} {r : Tube} (binds : bindsTo a r.boundClass b)
    (capacity : named 1 250 a.capacity) (holds : ∀ v, a.capacity = some v → r.count ≤ v) (state : namesState a) :
    TubeAmend.inRange a r = true := by
  have covers : a.capacity.all (r.count ≤ ·) = true :=
    Option.all_eq_true _ _ |>.2 fun v hv => decide_eq_true (holds v hv)
  have codes : coded tubeStateOf a.state = true := by
    rcases state with h | h | h
    all_goals
      rw [h]
      rfl
  rw [TubeAmend.inRange, binding_inRange binds, within_iff.2 capacity, covers, codes]
  rfl

/-- R112 check 2: while the engine runs only the capacity may change. -/
theorem tubeAmend_still {a : TubeAmend} {r : Tube} {idle : Bool}
    (h : idle = true ∨ (a.boundClass = none ∧ a.state = none ∧ r.boundClass.isSome = true)) :
    (TubeAmend.changes a r && !idle) = false := by
  rcases h with still | ⟨binding, state, bound⟩
  · rw [still, Bool.not_true, Bool.and_false]
  · have unchanged : TubeAmend.changes a r = false := by
      simp [TubeAmend.changes, TubeAmend.stateAfter, TubeAmend.binding, binding, state, Option.isSome_iff_ne_none.1 bound]
    rw [unchanged, Bool.false_and]

/-- R112 check 3. -/
theorem not_boundElsewhere {d : Device} {t : Fin 6} {b : Option (Fin 8)}
    (free : ∀ u c, b = some c → u ≠ t → d.payout.tubes[u].boundClass ≠ some c) : boundElsewhere d t b = false := by
  unfold boundElsewhere
  rw [List.any_eq_false]
  intro u _
  cases b with
  | none => simp
  | some c =>
    by_cases same : u = t
    · simp [same]
    · simpa [same] using free u c rfl same

/-- R112 check 4. -/
theorem tubeAmend_allowed {a : TubeAmend} {b : Option (Fin 8)} {r : Tube} (binds : bindsTo a r.boundClass b)
    (empty : r.boundClass.isSome = true → b.isSome = true → b ≠ r.boundClass → r.count = 0)
    (state : namesState a) (bound : a.state = some 0 → b.isSome = true) : TubeAmend.notAllowed a r = false := by
  have rebinds : (r.boundClass.isSome && b.isSome && b != r.boundClass && r.count != 0) = false := by
    by_contra refused
    simp only [Bool.not_eq_false, Bool.and_eq_true, bne_iff_ne] at refused
    obtain ⟨⟨⟨was, is⟩, new⟩, some⟩ := refused
    exact some (empty was is new)
  have readies : (a.state.bind tubeStateOf = some .ready && b.isNone) = false := by
    rcases state with h | h | h
    · rw [h]
      rfl
    · rw [Option.isNone_eq_false_iff.2 (bound h), Bool.and_false]
    · rw [h]
      rfl
  unfold TubeAmend.notAllowed
  rw [binding_eq binds]
  simp only [rebinds, readies, Bool.or_self]

theorem amendTube_taken {tube : Fin 6} {a : TubeAmend} {d : Device} (range : TubeAmend.inRange a d.payout.tubes[tube] = true)
    (still : (TubeAmend.changes a d.payout.tubes[tube] && !d.payout.idle) = false)
    (free : (TubeAmend.binding a d.payout.tubes[tube].boundClass != d.payout.tubes[tube].boundClass &&
      boundElsewhere d tube (TubeAmend.binding a d.payout.tubes[tube].boundClass)) = false)
    (allowed : TubeAmend.notAllowed a d.payout.tubes[tube] = false) :
    amendTube tube.val a d = okay ((d.updateTube tube (TubeAmend.applied a)).recomputeIf
      ((TubeAmend.applied a d.payout.tubes[tube]).boundClass != d.payout.tubes[tube].boundClass ||
        (TubeAmend.applied a d.payout.tubes[tube]).state != d.payout.tubes[tube].state ||
        (TubeAmend.applied a d.payout.tubes[tube]).capacity != d.payout.tubes[tube].capacity)) := by
  unfold amendTube
  simp only [index_val, range, still, free, allowed, Bool.not_true, Bool.false_eq_true, if_false]

/-- R98, R109: the mask is recomputed unless a tube's binding, state and capacity are as they were. -/
theorem recomputeIf_tubeChanged (r r' : Tube) (d : Device) :
    d.recomputeIf (r'.boundClass != r.boundClass || r'.state != r.state || r'.capacity != r.capacity) =
      if r'.boundClass = r.boundClass ∧ r'.state = r.state ∧ r'.capacity = r.capacity then d else d.recomputeMask := by
  unfold Device.recomputeIf
  by_cases same : r'.boundClass = r.boundClass ∧ r'.state = r.state ∧ r'.capacity = r.capacity
  · rw [if_pos same]
    simp [same]
  · rw [if_neg same, if_pos]
    by_contra unchanged
    simp only [Bool.not_eq_true, Bool.or_eq_false_iff, bne_eq_false_iff_eq, and_assoc] at unchanged
    exact same unchanged

/-- Settles O35: the four checks pass, and the record is written. -/
theorem amendTubeSetsBindingAndState : Obligations.AmendTubeSetsBindingAndState := by
  unfold Obligations.AmendTubeSetsBindingAndState
  intro s tube a b h r binds capacity holds state still free empty bound
  have elsewhere : (TubeAmend.binding a r.boundClass != r.boundClass &&
      boundElsewhere s.dev tube (TubeAmend.binding a r.boundClass)) = false := by
    rw [binding_eq binds]
    by_cases same : b = r.boundClass
    · rw [bne_eq_false_iff_eq.2 same, Bool.false_and]
    · rw [not_boundElsewhere (free same), Bool.and_false]
  have taken := amendTube_taken (tubeAmend_inRange binds capacity holds state) (tubeAmend_still still) elsewhere
    (tubeAmend_allowed binds empty state bound)
  rw [recomputeIf_tubeChanged, Device.updateTube, applied_tube binds state] at taken
  exact request_okay (f := amendTube tube.val a) h taken

end Sys2Proof.Proofs
end

section
/-! R116, R118, R119: the close of a chute window: the coin settled, the tube jammed, the plan replanned, pulsed or
ended. -/
namespace Sys2Proof.Proofs

open Sys2Proof.Machine Sys2Proof.Laws

-- One proof at a time: together they wait for the kernel in a thread each, and the memory limit is met.
set_option Elab.async false

/-! ### Load given back -/

theorem grantTest_goesOn (d : Device) : PlanGoesOn d d.grantTest := by
  refine grantLoop_induct (R := PlanGoesOn) .refl .trans (fun {d c rest} _ _ _ => ?_) _ d
  have taken : PlanGoesOn d { d with load := d.load.grantHead c rest } := ⟨rfl, .inl rfl⟩
  exact taken.trans (onGrant_goesOn c.who _)

theorem giveBack_goesOn (who : Claimant) (d : Device) : PlanGoesOn d (d.giveBack who) := by
  unfold Device.giveBack
  split
  · have left (b : LoadBudget) : PlanGoesOn d { d with load := b } := ⟨rfl, .inl rfl⟩
    exact (left _).trans (grantTest_goesOn _)
  · exact .refl d

theorem withdraw_goesOn (who : Claimant) (d : Device) : PlanGoesOn d (d.withdraw who) := by
  have left (b : LoadBudget) : PlanGoesOn d { d with load := b } := ⟨rfl, .inl rfl⟩
  simp only [Device.withdraw]
  split
  · exact (left _).trans (grantTest_goesOn _)
  · exact left _

theorem dropLoad_goesOn (who : Claimant) (d : Device) : PlanGoesOn d (d.dropLoad who) := by
  unfold Device.dropLoad
  split
  · exact giveBack_goesOn who d
  · exact withdraw_goesOn who d

theorem dropLoad_frame (who : Claimant) (d : Device) : d.changesOnly grantParts (d.dropLoad who) := by
  unfold Device.dropLoad
  split
  · exact giveBack_frame who d
  · exact withdraw_frame who d

/-- A change of what grants may change that keeps the tubes' counts. -/
theorem paysBack_of_grants {d e : Device} (frame : d.changesOnly grantParts e)
    (counts : ∀ u : Fin 6, e.payout.tubes[u].count = d.payout.tubes[u].count) : PaysBack d e := by
  have conditions : e.conditions = d.conditions := frame .conditions (by decide)
  exact ⟨⟨_, _, frame .coins (by decide)⟩, ⟨_, frame .credit (by decide)⟩, counts, fun c h => conditions ▸ h,
    changesOnly_mono frame (by decide)⟩

theorem dropLoad_paysBack (who : Claimant) (d : Device) : PaysBack d (d.dropLoad who) :=
  paysBack_of_grants (dropLoad_frame who d) fun u => by rw [(dropLoad_goesOn who d).tubes]

/-! ### A jammed tube -/

/-- R118: a tube that has jammed and means to eject nothing. -/
def jammedEmpty (r : Tube) : Prop := r.state = .jammed ∧ r.planned = 0

/-- R118, R119: what follows a jam leaves the jammed tube's record, and of the rest what a payback leaves. -/
structure JamStands (t : Fin 6) (d e : Device) : Prop where
  paysBack : PaysBack d e
  tube : jammedEmpty d.payout.tubes[t] → e.payout.tubes[t] = d.payout.tubes[t]

theorem JamStands.refl (t : Fin 6) (d : Device) : JamStands t d d := ⟨.refl d, fun _ => rfl⟩

theorem JamStands.trans {t : Fin 6} {a b c : Device} (h : JamStands t a b) (k : JamStands t b c) : JamStands t a c := by
  refine ⟨h.paysBack.trans k.paysBack, fun jam => ?_⟩
  have same := h.tube jam
  exact (k.tube (same ▸ jam)).trans same

theorem jamStands_of_tubes {d e : Device} (t : Fin 6) (h : PaysBack d e) (same : e.payout.tubes = d.payout.tubes) :
    JamStands t d e := ⟨h, fun _ => by rw [same]⟩

theorem payout_frame (p : Payout) (d : Device) : d.changesOnly [.payout] { d with payout := p } := by
  intro q hq
  cases q with
  | payout => simp at hq
  | _ => rfl

/-- A change of the payout records alone that keeps the tubes' counts. -/
theorem paysBack_of_payout {d : Device} {p : Payout}
    (counts : ∀ u : Fin 6, p.tubes[u].count = d.payout.tubes[u].count) : PaysBack d { d with payout := p } :=
  paysBack_of_grants (changesOnly_mono (payout_frame p d) (by decide)) counts

theorem setCoin_paysBack (c : Option PendingCoin) (d : Device) : PaysBack d (d.setCoin c) :=
  paysBack_of_payout (p := { d.payout with coin := c }) fun _ => rfl

/-- R79: a plan takes no coin from a jammed tube. -/
theorem changePlan_passesJam {t : Fin 6} {d : Device} (jam : d.payout.tubes[t].state = .jammed) (like : Bool)
    (amount : Nat) : coinsFor (d.changePlan like amount).1 t = 0 := by
  have plan := changePlan_calculated d like amount
  have none : freeCoins d t = 0 := if_neg fun free => absurd (jam.symm.trans free.1) (by decide)
  have gives := plan.free t
  rw [givenFrom_eq plan.once, none] at gives
  exact Nat.le_zero.1 gives

/-! ### Pulses, replanning and the end of a plan -/

theorem tryPulse_jamStands (t : Fin 6) (d : Device) : JamStands t d d.tryPulse := by
  obtain ⟨tubes, -⟩ := tryPulse_plan d
  have frame : d.changesOnly grantParts d.tryPulse := changesOnly_mono (tryPulse_frame d) (by decide)
  exact jamStands_of_tubes t (paysBack_of_grants frame fun u => by rw [tubes]) tubes

/-- R119: replanning raises each tube's planned count by its coins in the first lines that fit of a change plan. -/
theorem replan_tube (d : Device) (t : Fin 6) : ∃ n amount k, d.replan.payout.tubes[t] =
    { d.payout.tubes[t] with planned := d.payout.tubes[t].planned + n } ∧
      n ≤ coinsFor ((d.changePlan false amount).1.take k) t := by
  have stays : d.replan = d → ∃ n amount k, d.replan.payout.tubes[t] =
      { d.payout.tubes[t] with planned := d.payout.tubes[t].planned + n } ∧
        n ≤ coinsFor ((d.changePlan false amount).1.take k) t := fun same => ⟨0, 0, 0, by rw [same]; rfl, Nat.zero_le _⟩
  cases plan : d.payout.plan with
  | none => exact stays (by rw [Device.replan, plan])
  | some p =>
    by_cases nothing : d.unpaid p = 0
    · exact stays (by simp only [Device.replan, plan, if_pos nothing])
    · have replans : d.replan = (d.updatePlan (withLines ((d.changePlan false (d.unpaid p)).1.take
          (Config.maxPlanLines - p.lines.length)))).raisePlanned
            ((d.changePlan false (d.unpaid p)).1.take (Config.maxPlanLines - p.lines.length)) := by
        simp only [Device.replan, plan, if_neg nothing]
        rfl
      rw [replans]
      exact ⟨_, _, _, raisePlanned_tube _ t _, Nat.le_refl _⟩

theorem replan_jamStands (t : Fin 6) (d : Device) : JamStands t d d.replan := by
  constructor
  · rw [replan_payout]
    refine paysBack_of_payout fun u => ?_
    obtain ⟨_, _, _, record, -⟩ := replan_tube d u
    rw [record]
  · rintro ⟨jam, -⟩
    obtain ⟨n, amount, k, record, few⟩ := replan_tube d t
    have none : n = 0 := by
      have all := few.trans (coinsFor_take (d.changePlan false amount).1 t k)
      rw [changePlan_passesJam jam] at all
      exact Nat.le_zero.1 all
    rw [record, none]
    rfl

/-- R119 steps 1 and 2: at the end of a plan nothing is planned. -/
theorem closePlan_tube (d : Device) (u : Fin 6) :
    d.closePlan.payout.tubes[u] = { d.payout.tubes[u] with planned := 0 } := by
  simp only [Device.closePlan, get_mapAll]
  rfl

theorem closePlan_jamStands (t : Fin 6) (d : Device) : JamStands t d d.closePlan := by
  refine ⟨paysBack_of_payout (p := d.closePlan.payout) fun u => by rw [closePlan_tube], ?_⟩
  rintro ⟨-, unplanned⟩
  rw [closePlan_tube, ← unplanned]

theorem payBack_jamStands (t : Fin 6) (kind : PlanKind) (amount : Nat) (d : Device) :
    JamStands t d (d.payBack kind amount) := by
  refine ⟨makePlan_paysBack .., ?_⟩
  rintro ⟨jam, -⟩
  have made := (makePlan_made kind (.amount amount) (d.changePlan (kind = .refund) amount).1 d).tubes t
  rw [changePlan_passesJam jam] at made
  exact made

theorem servePayback_jamStands (t : Fin 6) (d : Device) : JamStands t d d.servePayback := by
  unfold Device.servePayback
  split
  · exact .refl t d
  split
  · refine (jamStands_of_tubes t (markRefund_paysBack .no d) (by rw [markRefund_payout])).trans ?_
    dsimp only
    split
    · exact .refl t _
    · exact payBack_jamStands t ..
  · exact .refl t d

/-- R119 steps 3 to 5: the load is given back, PAYOUT_ENDED raised and the mask recomputed. -/
def planEnded (d : Device) : Device := ((d.closePlan.dropLoad .payout).raise .payoutEnded).recomputeMask

theorem endPlan_eq (d : Device) : d.endPlan = (planEnded d).servePayback := rfl

theorem planEnded_jamStands (t : Fin 6) (d : Device) : JamStands t d (planEnded d) := by
  have dropped := jamStands_of_tubes t (dropLoad_paysBack .payout d.closePlan) (dropLoad_goesOn .payout d.closePlan).tubes
  have raised (e : Device) := jamStands_of_tubes t (raise_paysBack .payoutEnded e) rfl
  have masked (e : Device) := jamStands_of_tubes t (recomputeMask_paysBack e) rfl
  exact (((closePlan_jamStands t d).trans dropped).trans (raised _)).trans (masked _)

theorem endPlan_jamStands (t : Fin 6) (d : Device) : JamStands t d d.endPlan :=
  (planEnded_jamStands t d).trans (servePayback_jamStands t _)

theorem afterWindow_jamStands (t : Fin 6) (d : Device) : JamStands t d d.afterWindow := by
  simp only [Device.afterWindow]
  split
  · exact tryPulse_jamStands t d
  split
  · exact (replan_jamStands t d).trans (tryPulse_jamStands t _)
  · exact (replan_jamStands t d).trans (endPlan_jamStands t _)

/-! ### The jam (R118) -/

/-- R118: the record of a tube that jams. -/
def jammedTube (r : Tube) : Tube := { r with state := .jammed, lastFault := some .jam, planned := 0 }

theorem jamTube_payout (t : Fin 6) (d : Device) : (d.jamTube t).payout =
    { d.payout with tubes := put d.payout.tubes t (jammedTube d.payout.tubes[t]), plan := d.payout.plan.map (jamLines t) } :=
  rfl

theorem jamTube_tube (t : Fin 6) (d : Device) : (d.jamTube t).payout.tubes[t] = jammedTube d.payout.tubes[t] := by
  rw [jamTube_payout, get_put, if_pos rfl]

theorem jamTube_fault (t : Fin 6) (d : Device) : (d.jamTube t).conditions.has .tubeFault = true := raised_has _ _

theorem jamTube_paysBack (t : Fin 6) (d : Device) : PaysBack d (d.jamTube t) := by
  have jammed : PaysBack d { d with payout := (d.jamTube t).payout } := by
    refine paysBack_of_payout fun u => ?_
    rw [jamTube_payout, get_put]
    split
    next same => rw [same]; rfl
    · rfl
  exact (jammed.trans (raise_paysBack .tubeFault _)).trans (recomputeMask_paysBack _)

/-- R118: what a second miss leaves. -/
structure Jams (t : Fin 6) (d e : Device) : Prop where
  tube : e.payout.tubes[t] = jammedTube d.payout.tubes[t]
  fault : e.conditions.has .tubeFault = true
  frame : d.changesOnly moneyParts e

/-- R118: a second miss jams the coin's tube, whatever becomes of the plan. -/
theorem closeWindow_jams {c : PendingCoin} (unseen : c.seen = 0) (uncut : c.cut = false) (retry : c.attempt = .retry)
    (d : Device) : Jams c.tube d (d.closeWindow c) := by
  have closes : d.closeWindow c = (((d.setCoin none).jamTube c.tube).replan).afterWindow := by
    simp [Device.closeWindow, unseen, uncut, retry]
  have stands : JamStands c.tube ((d.setCoin none).jamTube c.tube) (d.closeWindow c) := by
    rw [closes]
    exact (replan_jamStands c.tube _).trans (afterWindow_jamStands c.tube _)
  have record := jamTube_tube c.tube (d.setCoin none)
  have jam : jammedEmpty ((d.setCoin none).jamTube c.tube).payout.tubes[c.tube] := record ▸ ⟨rfl, rfl⟩
  exact ⟨(stands.tube jam).trans record, stands.paysBack.raised _ (jamTube_fault c.tube _),
    (((setCoin_paysBack none d).trans (jamTube_paysBack c.tube _)).trans stands.paysBack).frame⟩

/-! ### The close of a window (R116, R117, R120) -/

/-- R116 to R120: the pending coin after its window, its tube not jammed: paid, to be pulsed anew after a cut, or again
as a RETRY. -/
def settledCoin (c : PendingCoin) : Option PendingCoin :=
  if 0 < c.seen then none
  else if c.cut then some { c with windowOpen := false, cut := false, attempt := .first }
  else some { c with windowOpen := false, attempt := .retry }

theorem closeWindow_settles {c : PendingCoin} (h : 0 < c.seen ∨ c.cut = true ∨ c.attempt = .first) (d : Device) :
    d.closeWindow c = (d.setCoin (settledCoin c)).afterWindow := by
  unfold Device.closeWindow settledCoin
  by_cases paid : 0 < c.seen
  · simp only [if_pos paid]
  by_cases cut : c.cut = true
  · simp only [if_neg paid, if_pos cut]
  have first : c.attempt = .first := (h.resolve_left paid).resolve_left cut
  simp only [if_neg paid, if_neg cut, first]

theorem settledCoin_closed (c : PendingCoin) : (settledCoin c).any (·.windowOpen) = false := by
  unfold settledCoin
  split
  · rfl
  split
  · rfl
  · rfl

theorem settledCoin_attempt (c : PendingCoin) : ((settledCoin c).map (·.attempt)).getD .first =
    if 0 < c.seen ∨ c.cut = true then .first else .retry := by
  unfold settledCoin
  by_cases paid : 0 < c.seen
  · simp [paid]
  by_cases cut : c.cut = true
  · simp [paid, cut]
  · simp [paid, cut]

theorem hasOpenLine_eq {p : Payout} {plan : Plan} (h : p.plan = some plan) :
    p.hasOpenLine = plan.currentLine.isSome := by
  rw [Payout.hasOpenLine, h]
  rfl

theorem afterWindow_pulses {d : Device} {p : Plan} (plan : d.payout.plan = some p) (line : p.currentLine.isSome = true) :
    d.afterWindow = d.tryPulse := if_pos ((hasOpenLine_eq plan).trans line)

/-- R116: no coin is pulsed while the gap runs. -/
theorem tryPulse_waits {d : Device} (h : d.payout.gapTimer.isSome = true) : d.tryPulse = d := by
  unfold Device.tryPulse
  split
  · rfl
  · exact if_neg (by simp [Option.isSome_iff_ne_none.1 h])

/-- R116: the close of the window, the clock having reached it. -/
theorem chuteWindowClose_open {d : Device} {c : PendingCoin} (is : d.payout.coin = some c) (opened : c.windowOpen = true) :
    d.chuteWindowClose = (d.reach c.windowEnd).closeWindow c := by
  unfold Device.chuteWindowClose
  rw [is]
  exact if_pos opened

/-! ### The end of a plan (R119) -/

/-- R119: a plan whose amount has been paid is not replanned. -/
theorem replan_paid {d : Device} {p : Plan} {a : Nat} (plan : d.payout.plan = some p) (req : p.requested = .amount a)
    (paid : a ≤ p.paid) : d.replan = d := by
  have none : d.unpaid p = 0 := by
    unfold Device.unpaid
    rw [req]
    show a - p.paid - _ = 0
    omega
  simp only [Device.replan, plan, none, if_true]

/-- R119: the record of a plan that has paid its amount. -/
def completed (p : Plan) : Plan := { p with state := .ended, result := some .complete }

/-- R119: what the end of a plan that has paid its amount leaves, no payback pending. -/
structure Completes (p : Plan) (d e : Device) : Prop where
  plan : e.payout.plan = some (completed p)
  unplanned : ∀ u : Fin 6, e.payout.tubes[u].planned = 0
  ended : e.conditions.has .payoutEnded = true
  frame : d.changesOnly moneyParts e

theorem closePlan_plan {d : Device} {p : Plan} (plan : d.payout.plan = some p) (complete : p.complete = true) :
    d.closePlan.payout.plan = some (completed p) := by
  show d.payout.plan.map _ = _
  rw [plan, Option.map_some, complete]
  rfl

theorem planEnded_completes {d : Device} {p : Plan} (plan : d.payout.plan = some p) (complete : p.complete = true) :
    Completes p d (planEnded d) := by
  have closed := closePlan_plan plan complete
  have goes := dropLoad_goesOn .payout d.closePlan
  refine ⟨?_, fun u => ?_, raised_has _ _, (planEnded_jamStands 0 d).paysBack.frame⟩
  · show (d.closePlan.dropLoad .payout).payout.plan = _
    have stays : (completed p).eject = completed p := rfl
    rcases goes.plan with same | went
    · rw [same, closed]
    · rw [went, closed, Option.map_some, stays]
  · show (d.closePlan.dropLoad .payout).payout.tubes[u].planned = 0
    rw [goes.tubes, closePlan_tube]

/-- R119: with every line paid, nothing left and no payback pending the plan ends. -/
theorem afterWindow_completes {d : Device} {p : Plan} {a : Nat} (plan : d.payout.plan = some p)
    (lines : p.currentLine = none) (req : p.requested = .amount a) (paid : a ≤ p.paid) (unasked : d.credit.pending = .no) :
    Completes p d d.afterWindow := by
  have complete : p.complete = true := by
    unfold Plan.complete
    rw [req]
    exact decide_eq_true paid
  have shut : ¬ d.payout.hasOpenLine = true := by simp [hasOpenLine_eq plan, lines]
  have credit : (planEnded d).credit = d.credit := dropLoad_frame .payout d.closePlan .credit (by decide)
  have ends : d.afterWindow = planEnded d := by
    simp only [Device.afterWindow, if_neg shut, replan_paid plan req paid]
    rw [endPlan_eq, servePayback_unasked (credit ▸ unasked)]
  rw [ends]
  exact planEnded_completes plan complete

/-- R116: the records as the window has closed and its coin is settled. -/
def windowClosed (c : PendingCoin) (d : Device) : Device := (d.reach c.windowEnd).setCoin (settledCoin c)

theorem chuteWindowClose_settles {d : Device} {c : PendingCoin} (is : d.payout.coin = some c)
    (opened : c.windowOpen = true) (h : 0 < c.seen ∨ c.cut = true ∨ c.attempt = .first) :
    d.chuteWindowClose = (windowClosed c d).afterWindow := by
  rw [chuteWindowClose_open is opened, closeWindow_settles h]
  rfl

/-- R116: the gap has ended: the current line's next coin is pulsed at the close. -/
theorem windowClosed_pulses {d : Device} {c : PendingCoin} {p : Plan} {i : Nat} {l : PlanLine}
    (plan : d.payout.plan = some p) (ejects : p.state = .ejecting) (line : p.currentLine = some (i, l))
    (off : d.payout.solenoid = none) (ended : d.payout.gapTimer = none) : (windowClosed c d).afterWindow =
      { d with now := max d.now c.windowEnd, payout := { d.payout with
        solenoid := some l.tube, onTimer := some (max d.now c.windowEnd + d.payout.set.onTime)
        pulseGap := d.payout.set.gap
        coin := some { tube := l.tube, line := i, windowOpen := true, windowEnd := max d.now c.windowEnd + 300
                       seen := 0, cut := false
                       attempt := if 0 < c.seen ∨ c.cut = true then .first else .retry } } } := by
  rw [afterWindow_pulses (d := windowClosed c d) plan (by rw [line]; rfl),
    tryPulse_pulses (d := windowClosed c d) plan ejects line off ended (settledCoin_closed c), ← settledCoin_attempt]
  simp only [Payout.pulse, ended]
  rfl

/-- R116: the gap still runs: the next pulse waits for it. -/
theorem windowClosed_waits {d : Device} {p : Plan} (c : PendingCoin) (plan : d.payout.plan = some p)
    (line : p.currentLine.isSome = true) (gap : d.payout.gapTimer.isSome = true) :
    (windowClosed c d).afterWindow = windowClosed c d := by
  rw [afterWindow_pulses (d := windowClosed c d) plan line, tryPulse_waits (d := windowClosed c d) gap]

/-- Settles O55, by what becomes of the coin as its window closes. -/
theorem chuteWindowCloseSettlesTheCoin : Obligations.ChuteWindowCloseSettlesTheCoin := by
  unfold Obligations.ChuteWindowCloseSettlesTheCoin
  intro s c p h coin opened plan now
  refine ⟨fun i l gap off ejects line settles => ?pulses, fun gap line => ?waits, fun unseen uncut retry => ?jams,
    fun a paid lines req covered unasked => ?ends⟩
  case pulses =>
    exact next_event h ((chuteWindowClose_settles coin opened settles).trans
      (windowClosed_pulses plan ejects line off gap))
  case waits =>
    have waits {r : Option PendingCoin} (settles : 0 < c.seen ∨ c.cut = true ∨ c.attempt = .first)
        (is : settledCoin c = r) : exec .chuteWindowClose s =
          .next (s.withDev { s.dev with now := now, payout := { s.dev.payout with coin := r } }) := by
      refine next_event h ((chuteWindowClose_settles coin opened settles).trans ?_)
      rw [windowClosed_waits c plan line gap, ← is]
      rfl
    refine ⟨fun paid => waits (.inl paid) ?_, fun unseen uncut first => waits (.inr (.inr first)) ?_,
      fun unseen cut => waits (.inr (.inl cut)) ?_⟩
    · simp [settledCoin, paid]
    · simp [settledCoin, unseen, uncut]
    · simp [settledCoin, unseen, cut]
  case jams =>
    have jams := closeWindow_jams unseen uncut retry (s.dev.reach c.windowEnd)
    exact ⟨_, next_event h (chuteWindowClose_open coin opened), congrArg Tube.state jams.tube,
      congrArg Tube.lastFault jams.tube, congrArg Tube.planned jams.tube, (congrArg Tube.count jams.tube).trans rfl, jams.fault,
      rfl, rfl, money_after_reach jams.frame⟩
  case ends =>
    have ends := afterWindow_completes (d := windowClosed c s.dev) plan lines req covered unasked
    have idle : (windowClosed c s.dev).afterWindow.payout.idle = true := by
      rw [Payout.idle, ends.plan]
      rfl
    have closed : (s.dev.reach c.windowEnd).changesOnly moneyParts (windowClosed c s.dev) :=
      (setCoin_paysBack (settledCoin c) (s.dev.reach c.windowEnd)).frame
    exact ⟨_, next_event h (chuteWindowClose_settles coin opened (.inl paid)), ends.plan, ends.unplanned, ends.ended,
      idle, rfl, rfl, money_after_reach (changesOnly_trans closed ends.frame)⟩

end Sys2Proof.Proofs
end

section
/-! SUPPORT. R129 to R131: what grants, claims and the compressor leave of the zones; the state a zone takes, and the
entry of DEFROST. -/
namespace Sys2Proof.Proofs

open Sys2Proof.Machine Sys2Proof.Laws

-- One proof at a time: together they wait for the kernel in a thread each, and the memory limit is met.
set_option Elab.async false

/-! ### Grants and claims -/

/-- R131: a zone but for the time of its defrost timer, which a grant of its heater's claim starts. -/
def untimed (r : Zone) : Zone := { r with defrost := r.defrost.map fun f => { f with timer := none } }

/-- What grants, claims and the compressor may change: of the zones, the time of a defrost timer alone. -/
structure Steady (d e : Device) : Prop where
  frame : d.changesOnly grantParts e
  zones : ∀ z : Fin 2, untimed e.zones[z] = untimed d.zones[z]

theorem Steady.refl (d : Device) : Steady d d := ⟨changesOnly_refl _ d, fun _ => rfl⟩

theorem Steady.trans {a b c : Device} (h : Steady a b) (k : Steady b c) : Steady a c :=
  ⟨changesOnly_trans h.frame k.frame, fun z => (k.zones z).trans (h.zones z)⟩

/-- A change of the load budget's records alone. -/
theorem withLoad_steady (b : LoadBudget) (d : Device) : Steady d { d with load := b } :=
  ⟨fun p hp => by cases p <;> first | rfl | simp [grantParts] at hp, fun _ => rfl⟩

theorem updateCompressor_steady (f : Compressor → Compressor) (d : Device) : Steady d (d.updateCompressor f) :=
  ⟨fun p hp => by cases p <;> first | rfl | simp [grantParts] at hp, fun _ => rfl⟩

theorem heaterGranted_zones (y z : Fin 2) (d : Device) : untimed (d.heaterGranted y).zones[z] = untimed d.zones[z] := by
  simp only [Device.heaterGranted, updateZone_zones, get_put]
  split
  next here =>
    subst here
    cases running : d.zones[z].defrost with
    | none => simp only [untimed, running, Option.map_none]
    | some f =>
      simp only [untimed, running, Option.map_some]
      split <;> rfl
  · rfl

theorem driveGranted_zones (d : Device) : d.driveGranted.zones = d.zones := by
  unfold Device.driveGranted
  split
  · rfl
  · split <;> rfl

theorem onGrant_zones (who : Claimant) (z : Fin 2) (d : Device) : untimed (d.onGrant who).zones[z] = untimed d.zones[z] := by
  cases who with
  | drive => rw [Device.onGrant, driveGranted_zones]
  | payout => rw [Device.onGrant, Device.payoutGranted, tryPulse_frame (d.updatePlan Plan.eject) .zones (by simp)]; rfl
  | compressor => rfl
  | heater y => exact heaterGranted_zones y z d

theorem granted_steady (c : Claim) (rest : List Claim) (d : Device) : Steady d (granted d c rest) :=
  ⟨granted_frame d c rest, fun z => onGrant_zones c.who z _⟩

theorem grantTest_steady (d : Device) : Steady d d.grantTest :=
  grantLoop_induct Steady.refl Steady.trans (fun {d c rest} _ _ _ => granted_steady c rest d) _ d

theorem claim_steady (c : Claim) (d : Device) : Steady d (d.claim c) := (withLoad_steady _ d).trans (grantTest_steady _)

theorem giveBack_steady (who : Claimant) (d : Device) : Steady d (d.giveBack who) := by
  unfold Device.giveBack
  split
  · exact (withLoad_steady _ d).trans (grantTest_steady _)
  · exact .refl d

theorem withdraw_steady (who : Claimant) (d : Device) : Steady d (d.withdraw who) := by
  simp only [Device.withdraw]
  split
  · exact (withLoad_steady _ d).trans (grantTest_steady _)
  · exact withLoad_steady _ d

theorem dropLoad_steady (who : Claimant) (d : Device) : Steady d (d.dropLoad who) := by
  unfold Device.dropLoad
  split
  · exact giveBack_steady who d
  · exact withdraw_steady who d

/-! ### The compressor -/

theorem tryStart_steady (d : Device) : Steady d d.tryStart := by
  unfold Device.tryStart
  split
  · exact (updateCompressor_steady _ d).trans (claim_steady _ _)
  · exact .refl d

theorem leaveWaiting_steady (d : Device) : Steady d d.leaveWaiting :=
  (updateCompressor_steady _ d).trans (withdraw_steady _ _)

theorem stopCompressor_steady (why : LastStop) (d : Device) : Steady d (d.stopCompressor why) :=
  (updateCompressor_steady _ d).trans (giveBack_steady _ _)

theorem stopIfMet_steady (d : Device) : Steady d d.stopIfMet := by
  unfold Device.stopIfMet
  split
  · exact stopCompressor_steady .demandMet d
  · exact .refl d

theorem reportValves_steady (d : Device) : Steady d d.reportValves := by
  simp only [Device.reportValves]
  split
  · exact .refl d
  have demanded := updateCompressor_steady (fun c => { c with demand := d.zones.toList.any Zone.valve }) d
  split
  · exact demanded.trans (tryStart_steady _)
  split
  · exact demanded.trans (leaveWaiting_steady _)
  · exact demanded.trans (stopIfMet_steady _)

/-! ### A zone's record written -/

/-- Zone `z` reads `r` but for the time of a defrost timer; grants, claims and the compressor apart, nothing else has
changed. -/
structure Becomes (z : Fin 2) (r : Zone) (d e : Device) : Prop where
  frame : d.changesOnly grantParts e
  zone : untimed e.zones[z] = untimed r
  others : ∀ y, y ≠ z → untimed e.zones[y] = untimed d.zones[y]

theorem Becomes.steady {z : Fin 2} {r : Zone} {a b c : Device} (h : Becomes z r a b) (k : Steady b c) : Becomes z r a c :=
  ⟨changesOnly_trans h.frame k.frame, (k.zones z).trans h.zone, fun y hy => (k.zones y).trans (h.others y hy)⟩

theorem Becomes.trans {z : Fin 2} {r r' : Zone} {a b c : Device} (h : Becomes z r a b) (k : Becomes z r' b c) :
    Becomes z r' a c :=
  ⟨changesOnly_trans h.frame k.frame, k.zone, fun y hy => (k.others y hy).trans (h.others y hy)⟩

theorem Becomes.refl (z : Fin 2) (d : Device) : Becomes z d.zones[z] d d :=
  ⟨changesOnly_refl _ d, rfl, fun _ _ => rfl⟩

@[simp] theorem zone_updateZone (z : Fin 2) (f : Zone → Zone) (d : Device) : (d.updateZone z f).zones[z] = f d.zones[z] := by
  rw [updateZone_zones, get_put, if_pos rfl]

theorem zone_updateZone_other {y z : Fin 2} (h : y ≠ z) (f : Zone → Zone) (d : Device) :
    (d.updateZone z f).zones[y] = d.zones[y] := by
  rw [updateZone_zones, get_put, if_neg h]

theorem updateZone_becomes (z : Fin 2) (f : Zone → Zone) (d : Device) : Becomes z (f d.zones[z]) d (d.updateZone z f) :=
  ⟨changesOnly_mono (updateZone_frame z f d) (by simp [grantParts]), by rw [zone_updateZone],
    fun y hy => by rw [zone_updateZone_other hy]⟩

/-- R129: the zone takes the state, and its valve's opening or closing is reported. -/
theorem setZoneState_becomes (z : Fin 2) (st : ZoneState) (d : Device) :
    Becomes z { d.zones[z] with state := st } d (d.setZoneState z st) := by
  have written := updateZone_becomes z (fun r => { r with state := st }) d
  simp only [Device.setZoneState]
  split
  · exact written
  · exact written.steady (reportValves_steady _)

/-- R129: a state with the valve as it was is one write of the zone's record. -/
theorem setZoneState_quiet {z : Fin 2} {st : ZoneState} {d : Device}
    (h : (d.zones[z].state = .calling) = (st = .calling)) :
    d.setZoneState z st = d.updateZone z fun r => { r with state := st } := by
  simp only [Device.setZoneState]
  refine if_pos ?_
  simp only [zone_updateZone, Zone.valve, h]

/-! ### The entry of DEFROST (R130, R131) -/

/-- R131: a zone's defrost begins: its end temperature and maximum are fixed. -/
def defrostBegun (r : Zone) : Zone :=
  { r with sinceDefrost := 0, sinceTimer := none, defrostDue := false
           defrost := some { endTemp := r.set.defrostEnd, maxMinutes := r.set.defrostMax, timer := none } }

/-- R131: a zone as it enters DEFROST. -/
def enteredZone (r : Zone) : Zone := { defrostBegun r with state := .defrost }

/-- R131: what the entry of DEFROST leaves. -/
structure Enters (z : Fin 2) (d e : Device) : Prop where
  becomes : Becomes z (enteredZone d.zones[z]) d e
  claim : heaterClaim z ∈ e.load.grants ++ e.load.waiters

theorem enterDefrost_enters (z : Fin 2) (d : Device) : Enters z d (d.enterDefrost z) := by
  refine ⟨?_, ?_⟩
  · have entered := setZoneState_becomes z .defrost (d.updateZone z defrostBegun)
    rw [zone_updateZone] at entered
    exact ((updateZone_becomes z defrostBegun d).trans entered).steady (claim_steady (heaterClaim z) _)
  · simp only [Device.enterDefrost, claim_entries]
    exact List.mem_append_right _ List.mem_cons_self

/-- R130: the zone enters a defrost that is due. -/
def enters (r : Zone) : Prop := r.defrostDue = true ∧ (r.state = .satisfied ∨ r.state = .calling)

theorem checkDue_enters {z : Fin 2} {d : Device} (h : enters d.zones[z]) : Enters z d (d.checkDue z) := by
  have due : (d.zones[z].defrostDue && (d.zones[z].state = .satisfied || d.zones[z].state = .calling)) = true := by
    simpa [enters] using h
  simp only [Device.checkDue, due, if_true]
  exact enterDefrost_enters z d

theorem checkDue_waits {z : Fin 2} {d : Device} (h : ¬ enters d.zones[z]) : d.checkDue z = d := by
  have idle : ¬ (d.zones[z].defrostDue && (d.zones[z].state = .satisfied || d.zones[z].state = .calling)) = true := by
    simpa [enters] using h
  simp only [Device.checkDue]
  exact if_neg idle

/-- A defrost is under way in a record but for its time. -/
theorem defrost_of_untimed {r r' : Zone} {f : Defrost} (h : untimed r = untimed r') (under : r'.defrost = some f) :
    ∃ g, r.defrost = some g ∧ g.endTemp = f.endTemp ∧ g.maxMinutes = f.maxMinutes := by
  have same : r.defrost.map (fun f => { f with timer := none }) = some { f with timer := none } :=
    (congrArg Zone.defrost h).trans (congrArg (Option.map _) under)
  obtain ⟨g, hg, eq⟩ := Option.map_eq_some_iff.1 same
  exact ⟨g, hg, (congrArg Defrost.endTemp eq :), (congrArg Defrost.maxMinutes eq :)⟩

theorem noDefrost_of_untimed {r r' : Zone} (h : untimed r = untimed r') (none' : r'.defrost = none) :
    r.defrost = none := by
  have same : r.defrost.map (fun f => { f with timer := none }) = none :=
    (congrArg Zone.defrost h).trans (congrArg (Option.map _) none')
  exact Option.map_eq_none_iff.1 same

/-- R130, R131: the zone's record as it has entered DEFROST. -/
theorem Enters.record {z : Fin 2} {d e : Device} (h : Enters z d e) : e.zones[z].state = .defrost ∧
    e.zones[z].sinceDefrost = 0 ∧ e.zones[z].defrostDue = false ∧ e.zones[z].sinceTimer = none ∧
    e.zones[z].set = d.zones[z].set := by
  have zone := h.becomes.zone
  exact ⟨(congrArg Zone.state zone :), (congrArg Zone.sinceDefrost zone :), (congrArg Zone.defrostDue zone :),
    (congrArg Zone.sinceTimer zone :), (congrArg Zone.set zone :)⟩

/-! ### START DEFROST (R141) -/

/-- R141: the checks, in order. -/
theorem startDefrost_refuses {z : Fin 2} {d : Device} {st : ZoneState} (is : d.zones[z].state = st) :
    (d.zones[z].set.enabled = false → startDefrost z.val d = refuse .notAllowed d) ∧
    (d.zones[z].set.enabled = true → st = .defrost ∨ st = .drip → startDefrost z.val d = refuse .busy d) ∧
    (d.zones[z].set.enabled = true → st = .probeFault → startDefrost z.val d = refuse .notAllowed d) := by
  refine ⟨fun off => ?_, fun on busy => ?_, fun on fault => ?_⟩
  · simp only [startDefrost, index_val, off, Bool.not_false, if_true]
  · rcases busy with rfl | rfl <;> simp only [startDefrost, index_val, on, is, Bool.not_true, Bool.false_eq_true, if_false]
  · simp only [startDefrost, index_val, on, is, fault, Bool.not_true, Bool.false_eq_true, if_false]

/-- R141, R130: with the checks passed the defrost is due. -/
theorem startDefrost_taken {z : Fin 2} {d : Device} (on : d.zones[z].set.enabled = true)
    (ready : d.zones[z].state = .satisfied ∨ d.zones[z].state = .calling) : startDefrost z.val d =
      ((d.updateZone z fun r => { r with defrostDue := true }).checkDue z, reply .accepted []) := by
  rcases ready with is | is <;>
    simp only [startDefrost, index_val, on, is, Bool.not_true, Bool.false_eq_true, if_false]

/-- Settles O37: a check that fails refuses; with all passed the zone enters the defrost that has become due. -/
theorem startDefrostChecksAndEnters : Obligations.StartDefrostChecksAndEnters := by
  unfold Obligations.StartDefrostChecksAndEnters
  intro s h
  refine ⟨fun zone beyond => ?_, fun z => ?_⟩
  · have none_ : index 2 zone = none := dif_neg (Nat.not_lt.2 beyond)
    exact request_refused (f := startDefrost zone) h (by simp only [startDefrost, none_])
  intro r
  obtain ⟨off, busy, fault⟩ := startDefrost_refuses (z := z) (d := s.dev) rfl
  refine ⟨fun no => request_refused h (off no), fun on st => request_refused h (busy on st),
    fun on st => request_refused h (fault on st), fun on ready => ?_⟩
  let m := s.dev.updateZone z fun r => { r with defrostDue := true }
  have due : m.zones[z] = { r with defrostDue := true } := zone_updateZone z _ s.dev
  have entered : Enters z m (m.checkDue z) := checkDue_enters (by rw [due]; exact ⟨rfl, ready⟩)
  obtain ⟨state, since, noLonger, timer, -⟩ := entered.record
  obtain ⟨f, under, endTemp, maxMinutes⟩ := defrost_of_untimed entered.becomes.zone rfl
  rw [due] at endTemp maxMinutes
  refine ⟨(s.withDev (m.checkDue z)).replied .accepted [], f, ?_, rfl, state, since, noLonger, timer, under, endTemp,
    maxMinutes, entered.claim, changesOnly_trans ?_ entered.becomes.frame⟩
  · show Host.Outcome.next (s.request (startDefrost z.val)) = _
    rw [request_taken h, startDefrost_taken on ready]
    rfl
  · exact (updateZone_becomes z _ s.dev).frame

end Sys2Proof.Proofs
end

section
/-! SUPPORT. R134, R137, R138: hold sweeps and spoil checks, lane by lane; a zone enabled and disabled. -/
namespace Sys2Proof.Proofs

open Sys2Proof.Machine Sys2Proof.Laws

-- One proof at a time: together they wait for the kernel in a thread each, and the memory limit is met.
set_option Elab.async false

/-! ### Lanes marked in passing (R3, R137, R138) -/

/-- Each lane of a list has taken its new record; those that it changes have joined the changed-lanes set. -/
structure Relabels (f : Lane → Lane) (xs : List (Fin 64)) (d e : Device) : Prop where
  frame : d.changesOnly [.conditions, .table] e
  lanes : ∀ n, e.lane? n = if n ∈ xs then (d.lane? n).map f else d.lane? n
  changed : ∀ n ∈ xs, ∀ l, d.lane? n = some l → f l ≠ l → e.table.changed[n] = true
  joined : ∀ n : Fin 64, d.table.changed[n] = true → e.table.changed[n] = true
  latched : ∀ c, d.conditions.has c = true → e.conditions.has c = true

/-- A lane whose record stays. -/
theorem relabels_same {f : Lane → Lane} {n : Fin 64} {d : Device} (h : (d.lane? n).map f = d.lane? n) :
    Relabels f [n] d d where
  frame := changesOnly_refl _ d
  lanes m := by
    split
    next e => rw [List.mem_singleton.1 e, h]
    · rfl
  changed m hm l hl new := by
    rw [List.mem_singleton.1 hm] at hl
    rw [hl] at h
    exact absurd (Option.some.inj h) new
  joined _ := id
  latched _ := id

theorem changeLane_latched (n : Fin 64) (f : Lane → Lane) (d : Device) (c : Condition) (h : d.conditions.has c = true) :
    (d.changeLane n f).conditions.has c = true := by
  unfold Device.changeLane Device.joinChanged
  split
  · exact h
  · split
    · exact h
    · exact has_raise c _ _ h

theorem changeLane_relabels {f g : Lane → Lane} {n : Fin 64} {l : Lane} {d : Device} (hl : d.lane? n = some l)
    (h : g l = f l) : Relabels f [n] d (d.changeLane n g) where
  frame := changeLane_frame n g d
  lanes m := by
    rw [lane?_changeLane, hl]
    simp only [List.mem_singleton]
    split
    next e => rw [e, hl, Option.map_some, Option.map_some, h]
    · rfl
  changed m hm _ _ _ := by
    rw [List.mem_singleton.1 hm, changeLane_some hl, changed_joinChanged, decide_eq_true rfl, Bool.true_or]
  joined m hm := by
    have before : (d.setSlot n (some (g l))).table.changed[m] = true := hm
    rw [changeLane_some hl, changed_joinChanged, before, Bool.or_true]
  latched := changeLane_latched n g d

theorem Relabels.cons {f : Lane → Lane} (twice : ∀ l, f (f l) = f l) {n : Fin 64} {xs : List (Fin 64)} {a b c : Device}
    (h : Relabels f [n] a b) (k : Relabels f xs b c) : Relabels f (n :: xs) a c := by
  have there {m : Fin 64} (other : m ≠ n) : b.lane? m = a.lane? m := by
    rw [h.lanes, if_neg (by simpa using other)]
  refine ⟨changesOnly_trans h.frame k.frame, fun m => ?lanes, fun m hm l hl new => ?changed,
    fun m => k.joined m ∘ h.joined m, fun c => k.latched c ∘ h.latched c⟩
  case lanes =>
    by_cases e : m = n
    · subst e
      have again : f ∘ f = f := funext twice
      rw [k.lanes, h.lanes, if_pos List.mem_cons_self, if_pos List.mem_cons_self, Option.map_map, again, ite_self]
    · rw [k.lanes, there e]
      simp only [List.mem_cons, e, false_or]
  case changed =>
    by_cases e : m = n
    · subst e
      exact k.joined m (h.changed m List.mem_cons_self l hl new)
    · have later : m ∈ xs := (List.mem_cons.1 hm).resolve_left e
      exact k.changed m later l ((there e).trans hl) new

/-- A pass over the lanes that leaves the zones, whose records it goes by. -/
theorem relabels_fold {f : Lane → Lane} {step : Device → Fin 64 → Device} {zones : Vector Zone 2}
    (twice : ∀ l, f (f l) = f l) (one : ∀ b n, b.zones = zones → Relabels f [n] b (step b n)) (xs : List (Fin 64)) :
    ∀ d : Device, d.zones = zones → Relabels f xs d (xs.foldl step d) := by
  induction xs with
  | nil =>
    exact fun d _ => ⟨changesOnly_refl _ d, fun n => (if_neg List.not_mem_nil).symm,
      fun n hn => absurd hn List.not_mem_nil, fun _ => id, fun _ => id⟩
  | cons n xs ih =>
    intro d is
    have first := one d n is
    have after : (step d n).zones = zones := (first.frame .zones (by simp)).trans is
    exact first.cons twice (ih _ after)

/-- Over all lanes, an enrolled lane's record. -/
theorem Relabels.lane {f : Lane → Lane} {d e : Device} (h : Relabels f allLanes d e) {n : Fin 64} {l : Lane}
    (hl : d.lane? n = some l) : e.lane? n = some (f l) := by
  rw [h.lanes, if_pos (mem_allLanes n), hl, Option.map_some]

/-! ### Hold sweeps (R137) -/

/-- R137: a lane at its zone's hold sweep. -/
def heldLane (z : Fin 2) (r : Zone) (l : Lane) : Lane := if l.zone = z then { l with held := r.holds l.laneClass } else l

theorem heldLane_twice (z : Fin 2) (r : Zone) (l : Lane) : heldLane z r (heldLane z r l) = heldLane z r l := by
  by_cases here : l.zone = z
  · have held : heldLane z r l = { l with held := r.holds l.laneClass } := if_pos here
    rw [held]
    exact if_pos here
  · have same : heldLane z r l = l := if_neg here
    rw [same, same]

theorem decideHold_relabels {z : Fin 2} {n : Fin 64} {l : Lane} {d : Device} (hl : d.lane? n = some l) (here : l.zone = z) :
    Relabels (heldLane z d.zones[z]) [n] d (d.decideHold n (d.zones[z].holds l.laneClass)) := by
  have held : heldLane z d.zones[z] l = { l with held := d.zones[z].holds l.laneClass } := if_pos here
  unfold Device.decideHold
  split
  · exact changeLane_relabels hl held.symm
  next same =>
    refine relabels_same ?_
    rw [hl, Option.any_some, decide_eq_true_eq, not_not] at same
    rw [hl, Option.map_some, held, ← same]

theorem sweepLane_relabels (z : Fin 2) (n : Fin 64) (d : Device) :
    Relabels (heldLane z d.zones[z]) [n] d (d.sweepLane z n) := by
  unfold Device.sweepLane
  split
  next vacant => exact relabels_same (by rw [vacant]; rfl)
  next l hl =>
    split
    next here => exact decideHold_relabels hl here
    next elsewhere => exact relabels_same (by rw [hl, Option.map_some, heldLane, if_neg elsewhere])

/-- R137: a hold sweep. -/
theorem holdSweep_relabels (z : Fin 2) (d : Device) : Relabels (heldLane z d.zones[z]) allLanes d (d.holdSweep z) :=
  relabels_fold (heldLane_twice z _) (fun b n is => by rw [← is]; exact sweepLane_relabels z n b) allLanes d rfl

@[simp] theorem holdSweep_zones (z : Fin 2) (d : Device) : (d.holdSweep z).zones = d.zones :=
  (holdSweep_relabels z d).frame .zones (by simp)

/-! ### Spoil checks (R138) -/

theorem spoilLane_relabels (z : Fin 2) (n : Fin 64) (d : Device) :
    Relabels (spoiledLane z d.zones[z]) [n] d (d.spoilLane z n) := by
  unfold Device.spoilLane
  split
  next vacant => exact relabels_same (by rw [vacant]; rfl)
  next l hl =>
    split
    next spoils => exact changeLane_relabels hl (spoils_eq spoils).symm
    next stays => exact relabels_same (by rw [hl, Option.map_some, not_spoils_eq stays])

/-- R138: a spoil check. -/
theorem spoilCheck_relabels (z : Fin 2) (d : Device) : Relabels (spoiledLane z d.zones[z]) allLanes d (d.spoilCheck z) :=
  relabels_fold (spoiledLane_twice z _) (fun b n is => by rw [← is]; exact spoilLane_relabels z n b) allLanes d rfl

@[simp] theorem spoilCheck_zones (z : Fin 2) (d : Device) : (d.spoilCheck z).zones = d.zones :=
  (spoilCheck_relabels z d).frame .zones (by simp)

/-! ### The end of a defrost (R131) -/

/-- A write of a field that grants leave goes on to the record as it is known. -/
theorem Becomes.write {z : Fin 2} {r : Zone} {a b : Device} (h : Becomes z r a b) (f : Zone → Zone)
    (leaves : ∀ r, untimed (f r) = f (untimed r) := by exact fun _ => rfl) : Becomes z (f r) a (b.updateZone z f) := by
  have written := updateZone_becomes z f b
  have known : untimed (f b.zones[z]) = untimed (f r) := by rw [leaves, leaves, h.zone]
  exact ⟨changesOnly_trans h.frame written.frame, written.zone.trans known,
    fun y hy => (written.others y hy).trans (h.others y hy)⟩

theorem Becomes.setState {z : Fin 2} {r : Zone} {a b : Device} (h : Becomes z r a b) (st : ZoneState) :
    Becomes z { r with state := st } a (b.setZoneState z st) := by
  have taken := setZoneState_becomes z st b
  have known : untimed { b.zones[z] with state := st } = untimed { r with state := st } :=
    congrArg (fun r : Zone => { r with state := st }) h.zone
  exact ⟨changesOnly_trans h.frame taken.frame, taken.zone.trans known,
    fun y hy => (taken.others y hy).trans (h.others y hy)⟩

/-- R131: the end of a defrost: time since defrost counts again, and a drip lasts 120 s. -/
def defrostEnded (now : Nat) (st : ZoneState) (r : Zone) : Zone :=
  { r with defrost := none, sinceTimer := some (now + Config.minuteMs)
           dripTimer := if st = .drip then some (now + Config.dripMs) else r.dripTimer }

theorem endDefrost_becomes (z : Fin 2) (st : ZoneState) (d : Device) :
    Becomes z { defrostEnded d.now st d.zones[z] with state := st } d (d.endDefrost z st) :=
  ((updateZone_becomes z (defrostEnded d.now st) d).setState st).steady (dropLoad_steady (.heater z) _)

/-! ### Enabling and disabling (R134) -/

/-- R134: a zone as it is disabled. -/
def disabledZone (r : Zone) : Zone :=
  { r with state := .off, dripTimer := none, defrostDue := false, sinceDefrost := 0, sinceTimer := none
           defrost := if r.state = .defrost then none else r.defrost }

/-- R134: time since defrost starts to count. -/
def countsAnew (now : Nat) (r : Zone) : Zone := { r with sinceDefrost := 0, sinceTimer := some (now + Config.minuteMs) }

/-- R134: a zone as it is enabled. -/
def enabledZone (now : Nat) (r : Zone) : Zone := countsAnew now { r with state := .satisfied }

/-- R134: a zone whose `enabled` has changed, and its lanes swept by the record it then has. -/
structure Switches (z : Fin 2) (r : Zone) (d e : Device) : Prop where
  frame : d.changesOnly (.table :: .conditions :: grantParts) e
  zone : untimed e.zones[z] = untimed r
  lanes : ∀ n l, d.lane? n = some l → e.lane? n = some (heldLane z r l)

/-- What a sweep decides is read of a zone but for the time of its defrost timer. -/
theorem heldLane_untimed (z : Fin 2) (r : Zone) : heldLane z (untimed r) = heldLane z r := by
  funext l
  unfold heldLane
  cases l.laneClass <;> rfl

/-- A zone's record written, then its lanes swept. -/
theorem Becomes.sweep {z : Fin 2} {r : Zone} {d m : Device} (h : Becomes z r d m) : Switches z r d (m.holdSweep z) := by
  have sweep := holdSweep_relabels z m
  refine ⟨changesOnly_trans (changesOnly_mono h.frame (by simp +contextual)) (changesOnly_mono sweep.frame (by simp)),
    by rw [holdSweep_zones, h.zone], fun n l hl => ?_⟩
  rw [sweep.lane ((lane?_of_table (table_of_grantParts h.frame) n).trans hl), ← heldLane_untimed, h.zone, heldLane_untimed]

theorem disableZone_switches (z : Fin 2) (d : Device) : Switches z (disabledZone d.zones[z]) d (d.disableZone z) := by
  refine Becomes.sweep ?_
  split
  next defrosting =>
    have ended := ((endDefrost_becomes z .off d).write fun r =>
      { r with dripTimer := none, defrostDue := false, sinceDefrost := 0, sinceTimer := none }).setState .off
    simp only [disabledZone, if_pos defrosting]
    exact ended
  next other =>
    have cleared := ((Becomes.refl z d).write fun r =>
      { r with dripTimer := none, defrostDue := false, sinceDefrost := 0, sinceTimer := none }).setState .off
    simp only [disabledZone, if_neg other]
    exact cleared

theorem enableZone_switches (z : Fin 2) (d : Device) : Switches z (enabledZone d.now d.zones[z]) d (d.enableZone z) := by
  have satisfied := (setZoneState_becomes z .satisfied d).sweep
  have now : ((d.setZoneState z .satisfied).holdSweep z).now = d.now := satisfied.frame .clock (by simp [grantParts])
  simp only [Device.enableZone, now]
  generalize Device.holdSweep z _ = m at satisfied
  have written := updateZone_becomes z (countsAnew d.now) m
  have counts : untimed (countsAnew d.now m.zones[z]) = untimed (enabledZone d.now d.zones[z]) :=
    congrArg (countsAnew d.now) satisfied.zone
  refine ⟨changesOnly_trans satisfied.frame (changesOnly_mono written.frame (by simp +contextual)),
    written.zone.trans counts, satisfied.lanes⟩

end Sys2Proof.Proofs
end

section
/-! R133 to R135: AMEND ZONE: the settings written, and what follows each of them that has changed. -/
namespace Sys2Proof.Proofs

open Sys2Proof.Machine Sys2Proof.Laws

-- One proof at a time: together they wait for the kernel in a thread each, and the memory limit is met.
set_option Elab.async false

/-! ### The settings written (R133) -/

/-- R133: the records with a zone's settings written. -/
def resettled (z : Fin 2) (set : ZoneSettings) (d : Device) : Device := d.updateZone z fun r => { r with set := set }

theorem resettled_zone (z : Fin 2) (set : ZoneSettings) (d : Device) :
    (resettled z set d).zones[z] = { d.zones[z] with set := set } := zone_updateZone z _ d

/-- R133: with both checks passed the settings and the charge are written, and the changes act. -/
theorem amendZone_okay {z : Fin 2} {a : ZoneAmend} {set : ZoneSettings} {d : Device} (range : ZoneAmend.inRange a = true)
    (is : ZoneAmend.applied a d.zones[z].set = set) (order : set.setPoint < set.warmLimit) :
    amendZone z.val a d =
      okay ((resettled z set { d with powerLossCharge := a.powerLossCharge.getD d.powerLossCharge }).zoneEffects z
        d.zones[z].set) := by
  have rises : ¬ (!ZoneAmend.inRange a || decide ((ZoneAmend.applied a d.zones[z].set).warmLimit ≤
      (ZoneAmend.applied a d.zones[z].set).setPoint)) = true := by
    rw [range, is]
    simpa using order
  subst is
  simp only [amendZone, index_val]
  exact if_neg rises

/-- R133: the request as it is taken. -/
theorem exec_amendZone {s : State} {z : Fin 2} {a : ZoneAmend} {set : ZoneSettings} {e : Device} (h : s.taking)
    (range : ZoneAmend.inRange a = true) (is : ZoneAmend.applied a s.dev.zones[z].set = set)
    (order : set.setPoint < set.warmLimit)
    (acts : (resettled z set { s.dev with powerLossCharge := a.powerLossCharge.getD s.dev.powerLossCharge }).zoneEffects z
      s.dev.zones[z].set = e) : exec (.amendZone z.val a) s = .next ((s.withDev e).replied .ok []) := by
  subst acts
  exact request_okay (f := amendZone z.val a) h (amendZone_okay range is order)

/-! ### What follows a change (R134, R135) -/

section effects
variable {z : Fin 2} {old set : ZoneSettings} {d : Device}

/-- R135: nothing follows where these four settings stay. -/
theorem zoneEffects_none (enabled : old.enabled = d.zones[z].set.enabled)
    (hold : old.holdChilled = d.zones[z].set.holdChilled) (allowance : old.allowance = d.zones[z].set.allowance)
    (interval : old.defrostInterval = d.zones[z].set.defrostInterval) : d.zoneEffects z old = d := by
  simp only [Device.zoneEffects, Device.switchZone, if_pos enabled, if_pos hold, if_pos allowance, if_pos interval]

/-- R135: a changed hold is swept. -/
theorem zoneEffects_hold (enabled : old.enabled = d.zones[z].set.enabled)
    (hold : old.holdChilled ≠ d.zones[z].set.holdChilled) (allowance : old.allowance = d.zones[z].set.allowance)
    (interval : old.defrostInterval = d.zones[z].set.defrostInterval) : d.zoneEffects z old = d.holdSweep z := by
  simp only [Device.zoneEffects, Device.switchZone, if_pos enabled, if_neg hold, holdSweep_zones, if_pos allowance,
    if_pos interval]

/-- R135: a changed allowance is checked. -/
theorem zoneEffects_allowance (enabled : old.enabled = d.zones[z].set.enabled)
    (hold : old.holdChilled = d.zones[z].set.holdChilled) (allowance : old.allowance ≠ d.zones[z].set.allowance)
    (interval : old.defrostInterval = d.zones[z].set.defrostInterval) : d.zoneEffects z old = d.spoilCheck z := by
  simp only [Device.zoneEffects, Device.switchZone, if_pos enabled, if_pos hold, if_neg allowance, spoilCheck_zones,
    if_pos interval]

/-- R135: a changed interval is compared. -/
theorem zoneEffects_interval (enabled : old.enabled = d.zones[z].set.enabled)
    (hold : old.holdChilled = d.zones[z].set.holdChilled) (allowance : old.allowance = d.zones[z].set.allowance)
    (interval : old.defrostInterval ≠ d.zones[z].set.defrostInterval) : d.zoneEffects z old = d.checkInterval z := by
  simp only [Device.zoneEffects, Device.switchZone, if_pos enabled, if_pos hold, if_pos allowance, if_neg interval]

/-- R134: a zone that is switched, nothing else having changed. -/
theorem zoneEffects_switches {on : Bool} (was : old.enabled = !on) (is : d.zones[z].set = { old with enabled := on }) :
    Switches z (if on then enabledZone d.now d.zones[z] else disabledZone d.zones[z]) d (d.zoneEffects z old) := by
  have switched : Switches z (if on then enabledZone d.now d.zones[z] else disabledZone d.zones[z]) d
      (d.switchZone z old.enabled) := by
    unfold Device.switchZone
    rw [is, was]
    cases on with
    | true => exact enableZone_switches z d
    | false => exact disableZone_switches z d
  have kept : (d.switchZone z old.enabled).zones[z].set = { old with enabled := on } := by
    rw [← is]
    cases on <;> exact (congrArg Zone.set switched.zone :)
  have rests : d.zoneEffects z old = d.switchZone z old.enabled := by
    simp only [Device.zoneEffects]
    generalize Device.switchZone z old.enabled d = e at kept
    rw [kept, if_pos rfl, kept, if_pos rfl, kept, if_pos rfl]
  rw [rests]
  exact switched

end effects

/-! ### Compared intervals (R130) -/

section interval
variable {z : Fin 2} {d : Device}

theorem updateZone_same {f : Zone → Zone} (h : f d.zones[z] = d.zones[z]) : d.updateZone z f = d := by
  have zones : put d.zones z d.zones[z] = d.zones := table_ext fun y => by
    rw [get_put]
    split
    next e => rw [e]
    · rfl
  rw [Device.updateZone, h, zones]

/-- R130: whether the defrost is due, and its entry. -/
theorem checkInterval_eq {due : Bool} (h : (d.zones[z].defrostDue || d.zones[z].intervalReached) = due) :
    d.checkInterval z = (d.updateZone z fun r => { r with defrostDue := due }).checkDue z := by
  simp only [Device.checkInterval, Device.updateZone, h]

theorem checkInterval_unreached (due : d.zones[z].defrostDue = false) (short : d.zones[z].intervalReached = false) :
    d.checkInterval z = d := by
  rw [checkInterval_eq (due := d.zones[z].defrostDue) (by rw [short, Bool.or_false]), updateZone_same rfl]
  exact checkDue_waits fun h => absurd (due.symm.trans h.1) (by simp)

/-- R130: an interval reached makes the defrost due. -/
theorem checkInterval_marks (reached : d.zones[z].intervalReached = true) (elsewhere : ¬ (d.zones[z].state = .satisfied ∨
    d.zones[z].state = .calling)) : d.checkInterval z = d.updateZone z fun r => { r with defrostDue := true } := by
  rw [checkInterval_eq (by rw [reached, Bool.or_true])]
  exact checkDue_waits fun h => elsewhere (by simpa only [enters, zone_updateZone] using h.2)

/-- R130: and it is entered from SATISFIED or CALLING. -/
theorem checkInterval_enters (reached : d.zones[z].intervalReached = true)
    (ready : d.zones[z].state = .satisfied ∨ d.zones[z].state = .calling) :
    Enters z (d.updateZone z fun r => { r with defrostDue := true }) (d.checkInterval z) := by
  rw [checkInterval_eq (by rw [reached, Bool.or_true])]
  exact checkDue_enters (by simpa only [enters, zone_updateZone, true_and] using ready)

theorem intervalReached_iff {r : Zone} :
    r.intervalReached = true ↔ r.set.defrostInterval ≠ 0 ∧ r.set.defrostInterval * 60 ≤ r.sinceDefrost := by
  simp [Zone.intervalReached]

end interval

/-! ### The request -/

theorem resettled_frame (z : Fin 2) (set : ZoneSettings) (d : Device) : d.changesOnly [.zones] (resettled z set d) :=
  updateZone_frame z _ d

theorem heldLane_new {z : Fin 2} {r : Zone} {l : Lane} (here : l.zone = z) (new : r.holds l.laneClass ≠ l.held) :
    heldLane z r l ≠ l := fun same => by
  rw [heldLane, if_pos here] at same
  exact new (congrArg Lane.held same)

/-- R138: what a spoil check makes of a lane. -/
theorem spoiledLane_eq (z : Fin 2) (r : Zone) (l : Lane) : spoiledLane z r l =
    if l.zone = z ∧ l.laneClass = .perishable ∧ r.set.allowance ≤ r.exposure - l.baseline then { l with spoiled := true }
    else l := by
  unfold spoiledLane
  split
  next reached => simp [reached]
  next short =>
    have no : (l.zone = z && (l.laneClass = .perishable && r.set.allowance ≤ r.exposure - l.baseline)) = false := by
      simpa using short
    rw [no, Bool.or_false]

theorem spoiledLane_new {z : Fin 2} {r : Zone} {l : Lane} (fresh : l.spoiled = false)
    (reached : l.zone = z ∧ l.laneClass = .perishable ∧ r.set.allowance ≤ r.exposure - l.baseline) :
    spoiledLane z r l ≠ l := fun same => by
  rw [spoiledLane_eq, if_pos reached] at same
  exact absurd ((congrArg Lane.spoiled same).trans fresh) (by simp)

/-- R133: the settings that name no change of the zone's switches. -/
theorem applied_unswitched {a : ZoneAmend} {c : ZoneSettings}
    (enabled : a.enabled = none ∨ a.enabled = some (if c.enabled then 0 else 1))
    (hold : a.holdChilled = none ∨ a.holdChilled = some c.holdChilled.toNat)
    (allowance : a.allowance = none ∨ a.allowance = some c.allowance)
    (interval : a.defrostInterval = none ∨ a.defrostInterval = some c.defrostInterval) :
    ZoneAmend.applied a c = { c with
      setPoint := a.setPoint.getD c.setPoint, differential := a.differential.getD c.differential
      warmLimit := a.warmLimit.getD c.warmLimit, defrostEnd := a.defrostEnd.getD c.defrostEnd
      defrostMax := a.defrostMax.getD c.defrostMax } := by
  have on : decoded onOffOf a.enabled c.enabled = c.enabled := by
    rcases enabled with is | is
    · rw [is]; rfl
    · rw [is]; cases c.enabled <;> rfl
  have held : decoded yesNoOf a.holdChilled c.holdChilled = c.holdChilled := by
    rcases hold with is | is
    · rw [is]; rfl
    · rw [is]; cases c.holdChilled <;> rfl
  have allowed : a.allowance.getD c.allowance = c.allowance := by
    rcases allowance with is | is <;> rw [is] <;> rfl
  have between : a.defrostInterval.getD c.defrostInterval = c.defrostInterval := by
    rcases interval with is | is <;> rw [is] <;> rfl
  rw [ZoneAmend.applied, on, held, allowed, between]

/-- Settles O36: the settings are written; then each change has its own effect. -/
theorem amendZoneWritesAndSwitches : Obligations.AmendZoneWritesAndSwitches := by
  unfold Obligations.AmendZoneWritesAndSwitches
  intro s z h r
  have written (set : ZoneSettings) : (resettled z set s.dev).zones[z] = { r with set := set } :=
    resettled_zone z set s.dev
  refine ⟨?settings, fun order => ⟨fun v new => ?hold, fun v low high new => ?allowance, fun v high new => ?interval⟩,
    fun on was order off => ?switch⟩
  case settings =>
    intro a enabled setPoint differential warmLimit hold allowance interval endTemp maxMinutes charge order
    have coded_on : coded onOffOf a.enabled = true := by
      rcases enabled with is | is
      · rw [is]; rfl
      · rw [is]; cases r.set.enabled <;> rfl
    have coded_hold : coded yesNoOf a.holdChilled = true := by
      rcases hold with is | is
      · rw [is]; rfl
      · rw [is]; cases r.set.holdChilled <;> rfl
    have within_allowance : within 1 240 a.allowance = true := by
      rcases allowance with is | ⟨is, low, high⟩
      · rw [is]; rfl
      · simp [is, within, low, high]
    have within_interval : within 0 24 a.defrostInterval = true := by
      rcases interval with is | ⟨is, high⟩
      · rw [is]; rfl
      · simp [is, within, high]
    have range : ZoneAmend.inRange a = true := by
      rw [ZoneAmend.inRange, coded_on, withinT_iff.2 setPoint, withinT_iff.2 differential, withinT_iff.2 warmLimit,
        coded_hold, within_allowance, within_interval, withinT_iff.2 endTemp, within_iff.2 maxMinutes, within_iff.2 charge]
      rfl
    have is := applied_unswitched (c := r.set) enabled hold (allowance.imp_right And.left) (interval.imp_right And.left)
    refine (exec_amendZone h range is order (zoneEffects_none ?_ ?_ ?_ ?_)).trans rfl
    all_goals rw [resettled_zone]
  case hold =>
    let set := { r.set with holdChilled := v }
    let m := resettled z set s.dev
    have sweeps : m.zoneEffects z r.set = m.holdSweep z := zoneEffects_hold (by rw [written]) (by rw [written]; exact new.symm)
      (by rw [written]) (by rw [written])
    have taken := exec_amendZone (z := z) (a := ⟨none, none, none, none, some v.toNat, none, none, none, none, none⟩)
      (set := set) h (by cases v <;> rfl) (by cases v <;> rfl) order sweeps
    have swept := holdSweep_relabels z m
    have zones := holdSweep_zones z m
    rw [written] at swept
    generalize m.holdSweep z = e at taken swept zones
    refine ⟨(s.withDev e).replied .ok [], taken, rfl, zones, fun n l hl => ?_,
      changesOnly_trans (changesOnly_mono (resettled_frame z set s.dev) (by simp))
        (changesOnly_mono swept.frame (by simp))⟩
    intro held
    have holds : Zone.holds { r with set := set } l.laneClass = held := by
      simp only [held]
      cases l.laneClass <;> rfl
    rw [← holds]
    exact ⟨swept.lane hl, fun here changed => swept.changed n (mem_allLanes n) l hl (heldLane_new here changed)⟩
  case allowance =>
    let set := { r.set with allowance := v }
    let m := resettled z set s.dev
    have checks : m.zoneEffects z r.set = m.spoilCheck z := zoneEffects_allowance (by rw [written]) (by rw [written])
      (by rw [written]; exact new.symm) (by rw [written])
    have taken := exec_amendZone (z := z) (a := ⟨none, none, none, none, none, some v, none, none, none, none⟩)
      (set := set) h (by simp [ZoneAmend.inRange, within, withinT, coded, low, high]) rfl order checks
    have checked := spoilCheck_relabels z m
    have zones := spoilCheck_zones z m
    rw [written] at checked
    generalize m.spoilCheck z = e at taken checked zones
    refine ⟨(s.withDev e).replied .ok [], taken, rfl, zones, fun n l hl => ⟨?_, fun spoils fresh => ?_⟩,
      changesOnly_trans (changesOnly_mono (resettled_frame z set s.dev) (by simp))
        (changesOnly_mono checked.frame (by simp))⟩
    · exact (checked.lane hl).trans (congrArg some (spoiledLane_eq z _ l))
    · exact checked.changed n (mem_allLanes n) l hl (spoiledLane_new fresh spoils)
  case interval =>
    intro set a reached
    let m := resettled z set s.dev
    have compared : m.zoneEffects z r.set = m.checkInterval z := zoneEffects_interval (by rw [written]) (by rw [written])
      (by rw [written]) (by rw [written]; exact new.symm)
    have taken : exec (.amendZone z.val a) s = .next ((s.withDev (m.checkInterval z)).replied .ok []) :=
      exec_amendZone h (by simp [ZoneAmend.inRange, within, withinT, coded, a, high]) rfl order compared
    have compares : m.zones[z].intervalReached = true ↔ reached := by rw [written, intervalReached_iff]
    refine ⟨fun short due => ?_, fun long out called => ?_, fun long ready => ?_⟩
    · rw [taken, checkInterval_unreached (by rw [written]; exact due) (Bool.eq_false_iff.2 (mt compares.1 short))]
      rfl
    · rw [taken, checkInterval_marks (compares.2 long) (by rw [written]; exact fun ready => ready.elim out called)]
      simp only [m, resettled, Device.updateZone, get_put, if_true, put_put]
      rfl
    · have entered := checkInterval_enters (compares.2 long) (by rw [written]; exact ready)
      obtain ⟨state, -, due, -, kept⟩ := entered.record
      rw [zone_updateZone, written] at kept
      refine ⟨_, taken, rfl, kept, state, due, entered.claim, ?_⟩
      refine changesOnly_trans ?_ (changesOnly_trans (updateZone_becomes z _ m).frame entered.becomes.frame)
      exact (updateZone_becomes z _ s.dev).frame
  case switch =>
    let set := { r.set with enabled := on }
    let m := resettled z set s.dev
    have switches := zoneEffects_switches (z := z) (d := m) was (by rw [written])
    have taken := exec_amendZone (z := z) (set := set) (e := m.zoneEffects z r.set)
      (a := ⟨some (if on then 0 else 1), none, none, none, none, none, none, none, none, none⟩) h
      (by cases on <;> rfl) (by cases on <;> rfl) order rfl
    rw [written] at switches
    generalize m.zoneEffects z r.set = e at taken switches
    obtain ⟨frame, zone, lanes⟩ := switches
    refine ⟨(s.withDev e).replied .ok [], taken, rfl, ?_, ?_, ?_, ?_, ?_, ?_, fun no => ⟨fun defrosting => ?_, ?_, ?_⟩,
      fun n l hl => (lanes n l hl).trans (congrArg some ?_),
      changesOnly_trans (changesOnly_mono (resettled_frame z set s.dev) (by simp [grantParts])) frame⟩
    · cases on <;> exact (congrArg Zone.set zone :)
    · cases on <;> exact (congrArg Zone.state zone :)
    · cases on <;> exact (congrArg Zone.exposure zone :)
    · cases on <;> exact (congrArg Zone.warm zone :)
    · cases on <;> exact (congrArg Zone.sinceDefrost zone :)
    · cases on <;> exact (congrArg Zone.sinceTimer zone :)
    · subst no
      exact noDefrost_of_untimed zone (if_pos defrosting)
    · subst no
      exact (congrArg Zone.dripTimer zone :)
    · subst no
      exact (congrArg Zone.defrostDue zone :)
    · unfold heldLane
      congr 2
      cases on <;> cases l.laneClass <;> simp [Zone.holds, enabledZone, countsAnew, disabledZone, set]

end Sys2Proof.Proofs
end

section
/-! SUPPORT. R127, R130 to R132, R136: a zone's timers and its evaporator's samples. -/
namespace Sys2Proof.Proofs

open Sys2Proof.Machine Sys2Proof.Laws

-- One proof at a time: together they wait for the kernel in a thread each, and the memory limit is met.
set_option Elab.async false

/-! ### A heater's claim is dropped (R131, R175) -/

theorem grantTest_entries (d : Device) : entries d.grantTest = entries d := (grantLoop_spec _ d).2.2.2.2.1

theorem giveBack_entries {who : Claimant} {d : Device} (holds : d.load.holds who = true) :
    entries (d.giveBack who) = d.load.grants.filter (·.who ≠ who) ++ d.load.waiters := by
  unfold Device.giveBack
  rw [if_pos holds, grantTest_entries]
  rfl

theorem withdraw_entries (who : Claimant) (d : Device) :
    entries (d.withdraw who) = d.load.grants ++ d.load.waiters.filter (·.who ≠ who) := by
  simp only [Device.withdraw]
  split
  · rw [grantTest_entries]
    rfl
  · rfl

/-- A claimant with one claim at most has none when it has been dropped. -/
theorem dropLoad_none {who : Claimant} {d : Device} (one : d.load.claimsOf who ≤ 1) :
    ∀ c ∈ entries (d.dropLoad who), c.who ≠ who := by
  have filtered (cs : List Claim) : ∀ c ∈ cs.filter (·.who ≠ who), c.who ≠ who := fun c hc => by
    simpa using (List.mem_filter.1 hc).2
  unfold Device.dropLoad
  intro c hc
  split at hc
  next holds =>
    rw [giveBack_entries holds] at hc
    obtain ⟨g, hg, is⟩ := List.any_eq_true.1 holds
    rcases List.mem_append.1 hc with hc | hc
    · exact filtered _ c hc
    · exact granted_is_only hg (of_decide_eq_true is) one c hc
  next lacks =>
    rw [withdraw_entries] at hc
    rcases List.mem_append.1 hc with hc | hc
    · exact fun is => lacks (List.any_eq_true.2 ⟨c, hc, decide_eq_true is⟩)
    · exact filtered _ c hc

/-! ### A defrost ends in DRIP (R131) -/

/-- R131: what the end of a defrost in DRIP leaves. -/
structure Drips (z : Fin 2) (d e : Device) : Prop where
  frame : d.changesOnly grantParts e
  state : e.zones[z].state = .drip
  defrost : e.zones[z].defrost = none
  dripTimer : e.zones[z].dripTimer = some (d.now + 120000)
  sinceTimer : e.zones[z].sinceTimer = some (d.now + 60000)
  unclaimed : ∀ c ∈ e.load.grants ++ e.load.waiters, c.who ≠ .heater z

theorem endDefrost_drips {z : Fin 2} {d : Device} (defrosting : d.zones[z].state = .defrost)
    (one : d.load.claimsOf (.heater z) ≤ 1) : Drips z d (d.endDefrost z .drip) := by
  obtain ⟨frame, zone, -⟩ := endDefrost_becomes z .drip d
  refine ⟨frame, (congrArg Zone.state zone :), noDefrost_of_untimed zone rfl, (congrArg Zone.dripTimer zone :),
    (congrArg Zone.sinceTimer zone :), ?_⟩
  have shut : (d.updateZone z (defrostEnded d.now .drip)).setZoneState z .drip =
      (d.updateZone z (defrostEnded d.now .drip)).updateZone z fun r => { r with state := .drip } := by
    refine setZoneState_quiet ?_
    rw [zone_updateZone]
    simp only [defrostEnded, defrosting, reduceCtorEq]
  have ended : d.endDefrost z .drip = Device.dropLoad (.heater z)
      ((d.updateZone z (defrostEnded d.now .drip)).setZoneState z .drip) := rfl
  rw [ended, shut]
  exact dropLoad_none one

/-! ### Timers -/

/-- What follows an expiry, after the clock has reached the timer's end. -/
theorem frame_after_reach {ps : List Part} {d e : Device} {due : Nat} (h : (d.reach due).changesOnly ps e) :
    d.changesOnly (.clock :: ps) e :=
  changesOnly_trans (changesOnly_mono (reach_frame due d) (by simp)) (changesOnly_mono h fun _ => List.mem_cons_of_mem _)

theorem timerIn_runs {st : ZoneState} {r : Zone} (is : r.state = st) (t : Timer) : r.timerIn st t = t := if_pos is

/-- R131: the defrost timer ends the defrost. -/
theorem defrostExpiry_drips {z : Fin 2} {f : Defrost} {due : Nat} {d : Device} (defrosting : d.zones[z].state = .defrost)
    (under : d.zones[z].defrost = some f) (runs : f.timer = some due) (one : d.load.claimsOf (.heater z) ≤ 1) :
    Drips z (d.reach due) (d.defrostExpiry z) := by
  have due_ : d.zones[z].timerIn .defrost (d.zones[z].defrost.bind (·.timer)) = some due := by
    rw [timerIn_runs defrosting, under]
    exact runs
  rw [Device.defrostExpiry, onExpiry_due due_]
  exact endDefrost_drips (d := d.reach due) defrosting one

/-- R132: the drip's end judges the air reading; with no defrost due nothing else follows. -/
theorem dripExpiry_becomes {z : Fin 2} {due : Nat} {d : Device} (dripping : d.zones[z].state = .drip)
    (runs : d.zones[z].dripTimer = some due) (idle : d.zones[z].defrostDue = false) :
    Becomes z { d.zones[z] with dripTimer := none, state := d.zones[z].afterDrip } (d.reach due) (d.dripExpiry z) := by
  have due_ : d.zones[z].timerIn .drip d.zones[z].dripTimer = some due := (timerIn_runs dripping _).trans runs
  have judged := (updateZone_becomes z (fun r => { r with dripTimer := none }) (d.reach due)).setState
    (d.reach due).zones[z].afterDrip
  have waits : ((((d.reach due).updateZone z fun r => { r with dripTimer := none }).setZoneState z
      (d.reach due).zones[z].afterDrip)).zones[z].defrostDue = false := (congrArg Zone.defrostDue judged.zone).trans idle
  rw [Device.dripExpiry, onExpiry_due due_]
  show Becomes z _ _ (Device.checkDue z _)
  rw [checkDue_waits fun h => absurd (waits.symm.trans h.1) (by simp)]
  exact judged

/-- R130: a minute since defrost is counted. -/
def minuteCounted (due : Nat) (r : Zone) : Zone :=
  { r with sinceDefrost := min 1440 (r.sinceDefrost + 1), sinceTimer := some (due + 60000) }

theorem sinceExpiry_counts {z : Fin 2} {due : Nat} {d : Device} (runs : d.zones[z].sinceTimer = some due) :
    d.sinceExpiry z = ((d.reach due).updateZone z (minuteCounted due)).checkInterval z := by
  rw [Device.sinceExpiry, onExpiry_due runs]
  rfl

theorem exposed_iff {r : Zone} : r.exposed = true ↔ r.warm = true ∨ r.state = .probeFault := by simp [Zone.exposed]

theorem minuteExpiry_unexposed {z : Fin 2} {due : Nat} {d : Device} (runs : d.zones[z].minuteTimer = some due)
    (unexposed : ¬ (d.zones[z].warm = true ∨ d.zones[z].state = .probeFault)) :
    d.minuteExpiry z = (d.reach due).updateZone z fun r => { r with minuteTimer := some (due + 60000) } := by
  rw [Device.minuteExpiry, onExpiry_due runs]
  refine if_neg ?_
  rw [zone_updateZone]
  exact mt exposed_iff.1 unexposed

/-- R136: what a minute of exposure leaves. -/
structure Exposes (z : Fin 2) (d e : Device) : Prop where
  frame : d.changesOnly [.conditions, .table, .zones] e
  exposure : e.zones[z].exposure = min 65535 (d.zones[z].exposure + 1)
  minuteTimer : e.zones[z].minuteTimer = d.zones[z].minuteTimer
  others : ∀ y, y ≠ z → e.zones[y] = d.zones[y]
  alarm : d.zones[z].exposure = 65534 → e.conditions.has .zoneAlarm = true
  lanes : ∀ n l, d.lane? n = some l →
    e.lane? n = some (spoiledLane z { d.zones[z] with exposure := min 65535 (d.zones[z].exposure + 1) } l)

/-- R139: what an alarm of a zone leaves. -/
structure Alarms (z : Fin 2) (a : ZoneAlarm) (d e : Device) : Prop where
  frame : d.changesOnly [.conditions, .zones] e
  zone : e.zones[z] = { d.zones[z] with lastAlarm := some a }
  others : ∀ y, y ≠ z → e.zones[y] = d.zones[y]
  raised : e.conditions.has .zoneAlarm = true
  latched : ∀ c, d.conditions.has c = true → e.conditions.has c = true

theorem zoneAlarm_alarms (z : Fin 2) (a : ZoneAlarm) (d : Device) : Alarms z a d (d.zoneAlarm z a) where
  frame := fun p hp => by cases p <;> first | rfl | simp at hp
  zone := zone_updateZone z (fun r => { r with lastAlarm := some a }) d
  others _ hy := zone_updateZone_other hy (fun r => { r with lastAlarm := some a }) d
  raised := raised_has _ _
  latched c := has_raise c .zoneAlarm _

theorem exposeMinute_exposes (z : Fin 2) (d : Device) : Exposes z d (d.exposeMinute z) := by
  let m := d.updateZone z fun r => { r with exposure := bump r.exposure }
  have bumped : m.zones[z] = { d.zones[z] with exposure := min 65535 (d.zones[z].exposure + 1) } :=
    zone_updateZone z _ d
  have checked := spoilCheck_relabels z m
  have zones := spoilCheck_zones z m
  rw [bumped] at checked
  show Exposes z d (if (d.zones[z].exposure != 65535 && (m.spoilCheck z).zones[z].exposure = 65535) = true then
    (m.spoilCheck z).zoneAlarm z .saturated else m.spoilCheck z)
  rw [zones, bumped]
  generalize m.spoilCheck z = e at checked zones
  have zone : e.zones[z] = m.zones[z] := by rw [zones]
  have frame : d.changesOnly [.conditions, .table, .zones] e :=
    changesOnly_trans (changesOnly_mono (updateZone_frame z _ d) (by simp)) (changesOnly_mono checked.frame (by simp))
  have others (y : Fin 2) (hy : y ≠ z) : e.zones[y] = d.zones[y] := by
    rw [zones]
    exact zone_updateZone_other hy _ d
  split
  next saturates =>
    obtain ⟨frame', zone', others', raised, -⟩ := zoneAlarm_alarms z .saturated e
    refine ⟨changesOnly_trans frame (changesOnly_mono frame' (by simp)), ?_, ?_,
      fun y hy => (others' y hy).trans (others y hy), fun _ => raised, fun n l hl => ?_⟩
    · rw [zone', zone, bumped]
    · rw [zone', zone, bumped]
    · exact checked.lane hl
  next short =>
    refine ⟨frame, ?_, ?_, others, fun top => absurd ?_ short, fun n l hl => checked.lane hl⟩
    · rw [zone, bumped]
    · rw [zone, bumped]
    · rw [top]
      rfl

theorem minuteExpiry_exposed {z : Fin 2} {due : Nat} {d : Device} (runs : d.zones[z].minuteTimer = some due)
    (exposed : d.zones[z].warm = true ∨ d.zones[z].state = .probeFault) :
    d.minuteExpiry z =
      ((d.reach due).updateZone z fun r => { r with minuteTimer := some (due + 60000) }).exposeMinute z := by
  rw [Device.minuteExpiry, onExpiry_due runs]
  refine if_pos ?_
  rw [zone_updateZone]
  exact exposed_iff.2 exposed

/-! ### Samples go to their zone (R156, R157) -/

/-- R156, R157: the end of a conversion hands its sample on, between changes of the scanner. -/
theorem exec_conversionEnd_hands {s : State} {k : Conversion} (reading : Nat) (awake : s.awake)
    (converting : s.dev.scanner.converting = some k) :
    ∃ before after, exec (.conversionEnd reading) s = .next (s.withDev
      { Device.handSample k.channel k.ends (judgeReading k.channel s.dev.scanner.setups[k.channel] reading)
          (atSample k.ends before s.dev) with scanner := after }) := by
  let v := judgeReading k.channel s.dev.scanner.setups[k.channel] reading
  let before : Scanner := { s.dev.scanner with
    converting := none, boxes := put s.dev.scanner.boxes k.channel (s.dev.scanner.boxes[k.channel].store v) }
  let m := Device.handSample k.channel k.ends v (atSample k.ends before s.dev)
  refine ⟨before, m.scanner.next m.now k, ?_⟩
  show Host.Outcome.next (s.event (Device.conversionEnd reading)) = _
  rw [event_awake awake]
  simp only [Device.conversionEnd, converting]
  rfl

theorem handSample_evaporator {z : Fin 2} {c : Fin 8} (is : c = if z = 0 then 1 else 3) (at_ : Nat) (v : Sample)
    (d : Device) : d.handSample c at_ v = d.evaporatorSample z v := by
  subst is
  match z with
  | 0 => rfl
  | 1 => rfl

theorem handSample_air {z : Fin 2} {c : Fin 8} (is : c = if z = 0 then 0 else 2) (at_ : Nat) (v : Sample)
    (d : Device) : d.handSample c at_ v = d.airSample z v := by
  subst is
  match z with
  | 0 => rfl
  | 1 => rfl

/-- R127, R131: an evaporator sample that ends no defrost is copied alone. -/
theorem evaporatorSample_copies {z : Fin 2} {v : Sample} {d : Device}
    (stays : d.zones[z].state ≠ .defrost ∨ d.zones[z].defrost.any (·.endedBy v) = false) :
    d.evaporatorSample z v = d.updateZone z fun r => { r with evaporator := some v } := by
  simp only [Device.evaporatorSample, zone_updateZone]
  refine if_neg ?_
  rcases stays with no | no
  · rw [decide_eq_false no]
    simp
  · rw [no, Bool.and_false]
    simp

/-- R127: an evaporator sample is copied, whatever it ends. -/
theorem evaporatorSample_evaporator (z : Fin 2) (v : Sample) (d : Device) :
    (d.evaporatorSample z v).zones[z].evaporator = some v := by
  have copied := zone_updateZone z (fun r => { r with evaporator := some v }) d
  simp only [Device.evaporatorSample]
  split
  · obtain ⟨-, zone, -⟩ := endDefrost_becomes z .drip (d.updateZone z fun r => { r with evaporator := some v })
    rw [copied] at zone
    exact (congrArg Zone.evaporator zone :)
  · rw [copied]

/-- R131: an evaporator sample that ends the defrost. -/
theorem evaporatorSample_drips {z : Fin 2} {v : Sample} {f : Defrost} {d : Device} (defrosting : d.zones[z].state = .defrost)
    (under : d.zones[z].defrost = some f) (ends : f.endedBy v = true) (one : d.load.claimsOf (.heater z) ≤ 1) :
    Drips z d (d.evaporatorSample z v) := by
  let m := d.updateZone z fun r => { r with evaporator := some v }
  have copied : m.zones[z] = { d.zones[z] with evaporator := some v } := zone_updateZone z _ d
  have whole : d.evaporatorSample z v = m.endDefrost z .drip := by
    simp only [Device.evaporatorSample, zone_updateZone, defrosting, under, Option.any_some, ends]
    rfl
  have drips := endDefrost_drips (z := z) (d := m) (by rw [copied]; exact defrosting) one
  rw [whole]
  exact { drips with frame := changesOnly_trans (updateZone_becomes z _ d).frame drips.frame }

/-- R131: a defrost is ended by a GOOD sample at its end temperature alone. -/
theorem endedBy_none {r : Option Defrost} {v : Sample} (short : (match r, v with
    | some f, .good a => decide (a < f.endTemp)
    | _, _ => true) = true) : r.any (·.endedBy v) = false := by
  cases r with
  | none => rfl
  | some f =>
    cases v with
    | good a => simpa [Defrost.endedBy] using short
    | opened | short | overRange => rfl

end Sys2Proof.Proofs
end

section
/-! R127, R128, R137, R139: air samples: the state and the warm flag they give, their alarms and their sweep; and every
timer and sample of a zone together. -/
namespace Sys2Proof.Proofs

open Sys2Proof.Machine Sys2Proof.Laws

-- One proof at a time: together they wait for the kernel in a thread each, and the memory limit is met.
set_option Elab.async false

/-! ### The state a sample gives (R127) -/

/-- R127: the state an air sample gives a zone. -/
def airState (r : Zone) (v : Sample) : ZoneState :=
  match r.state, v with
  | .off, _ => .off
  | .defrost, .good _ => .defrost
  | .drip, .good _ => .drip
  | _, .good a => r.called a
  | _, _ => .probeFault

theorem called_cases (r : Zone) (a : Int) : r.called a = .calling ∨ r.called a = .satisfied := by
  unfold Zone.called
  split
  · exact .inl rfl
  split
  · exact .inr rfl
  split
  · exact .inl rfl
  · exact .inr rfl

/-- A GOOD sample gives no fault. -/
theorem airState_good (r : Zone) (a : Int) : airState r (.good a) ≠ .probeFault := by
  unfold airState
  cases r.state <;> rcases called_cases r a with is | is <;> simp [is]

/-- A sample neither switches a zone OFF nor on. -/
theorem airState_off (r : Zone) (v : Sample) : airState r v = .off ↔ r.state = .off := by
  unfold airState
  cases v with
  | good a => cases r.state <;> rcases called_cases r a with is | is <;> simp [is]
  | opened | short | overRange => cases r.state <;> simp

/-- A sample that gives a fault leaves the warm flag. -/
theorem warmAfter_fault {r : Zone} {v : Sample} (fault : airState r v = .probeFault) (r' : Zone) :
    r'.warmAfter v = r'.warm := by
  cases v with
  | good a => exact absurd fault (airState_good r a)
  | _ => rfl

/-- R127: a sample leaves the zone's state, gives it another that is no fault, or is the entry of PROBE_FAULT. -/
theorem judgeAir_cases (z : Fin 2) (v : Sample) (d : Device) :
    (d.judgeAir z v = d ∧ airState d.zones[z] v = d.zones[z].state) ∨
    (d.judgeAir z v = d.setZoneState z (airState d.zones[z] v) ∧ airState d.zones[z] v ≠ .probeFault) ∨
    (d.judgeAir z v = d.probeFault z ∧ airState d.zones[z] v = .probeFault ∧ d.zones[z].state ≠ .probeFault) := by
  cases v with
  | good a =>
    have sound := airState_good d.zones[z] a
    cases is : d.zones[z].state
    case off | defrost | drip => exact .inl (by simp only [Device.judgeAir, airState, is, and_self])
    case satisfied | calling | probeFault => exact .inr (.inl ⟨by simp only [Device.judgeAir, airState, is], sound⟩)
  | opened | short | overRange =>
    cases is : d.zones[z].state
    case off | probeFault => exact .inl (by simp only [Device.judgeAir, airState, is, and_self])
    case satisfied | calling | defrost | drip =>
      exact .inr (.inr ⟨by simp only [Device.judgeAir, is], by simp only [airState, is], by simp⟩)

/-! ### The sample judged (R127, R139) -/

/-- A zone but for what the judging of an air sample may change. -/
def unjudged (r : Zone) : Zone :=
  { r with state := .off, lastAlarm := none, defrost := none, dripTimer := none, sinceTimer := none }

/-- R127, R139: what the judging of an air sample leaves. -/
structure Judges (z : Fin 2) (v : Sample) (d e : Device) : Prop where
  frame : d.changesOnly (.conditions :: grantParts) e
  state : e.zones[z].state = airState d.zones[z] v
  kept : unjudged e.zones[z] = unjudged d.zones[z]
  alarm : airState d.zones[z] v = .probeFault → d.zones[z].state ≠ .probeFault →
    e.zones[z].lastAlarm = some .probeFault ∧ e.conditions.has .zoneAlarm = true ∧
      (d.zones[z].state = .defrost → e.zones[z].defrost = none)

/-- R127: a zone as it enters PROBE_FAULT. -/
def faultedZone (now : Nat) (r : Zone) : Zone :=
  { (if r.state = .defrost then defrostEnded now .probeFault r else { r with dripTimer := none }) with
    state := .probeFault }

/-- R127, R139: the entry of PROBE_FAULT ends a defrost or a drip, and is an alarm. -/
theorem probeFault_alarms (z : Fin 2) (d : Device) :
    ∃ m, Becomes z (faultedZone d.now d.zones[z]) d m ∧ Alarms z .probeFault m (d.probeFault z) := by
  refine ⟨_, ?_, zoneAlarm_alarms z .probeFault _⟩
  unfold faultedZone
  split
  · exact endDefrost_becomes z .probeFault d
  · exact (updateZone_becomes z (fun r => { r with dripTimer := none }) d).setState .probeFault

theorem judgeAir_judges (z : Fin 2) (v : Sample) (d : Device) : Judges z v d (d.judgeAir z v) := by
  rcases judgeAir_cases z v d with ⟨same, state⟩ | ⟨takes, sound⟩ | ⟨faults, fault, was⟩
  · rw [same]
    exact ⟨changesOnly_refl _ d, state.symm, rfl, fun fault was => absurd (state.symm.trans fault) was⟩
  · rw [takes]
    obtain ⟨frame, zone, -⟩ := setZoneState_becomes z (airState d.zones[z] v) d
    exact ⟨changesOnly_mono frame fun _ => List.mem_cons_of_mem _, (congrArg Zone.state zone :),
      (congrArg unjudged zone :), fun fault => absurd fault sound⟩
  · obtain ⟨m, ⟨frame, entered, -⟩, ⟨frame', zone, -, raised, -⟩⟩ := probeFault_alarms z d
    rw [faults]
    refine ⟨changesOnly_trans (changesOnly_mono frame fun _ => List.mem_cons_of_mem _)
      (changesOnly_mono frame' (by simp [grantParts])), ?_, ?_, fun _ _ => ⟨?_, raised, fun defrosting => ?_⟩⟩
    · rw [zone, fault]
      exact (congrArg Zone.state entered :)
    · rw [zone]
      refine (congrArg unjudged entered).trans ?_
      unfold faultedZone
      split <;> rfl
    · rw [zone]
    · have ended : m.zones[z].defrost = none := noDefrost_of_untimed entered (by rw [faultedZone, if_pos defrosting]; rfl)
      rw [zone]
      exact ended

/-! ### The warm flag judged (R128, R139) -/

/-- R128, R139: what the judging of the warm flag leaves. -/
structure Warms (z : Fin 2) (v : Sample) (d e : Device) : Prop where
  frame : d.changesOnly [.conditions, .zones] e
  zone : e.zones[z] = { d.zones[z] with warm := d.zones[z].warmAfter v, lastAlarm := e.zones[z].lastAlarm }
  alarm : d.zones[z].warmAfter v = true → d.zones[z].warm = false →
    e.zones[z].lastAlarm = some .warm ∧ e.conditions.has .zoneAlarm = true
  quiet : d.zones[z].warmAfter v = d.zones[z].warm → e.zones[z].lastAlarm = d.zones[z].lastAlarm
  latched : ∀ c, d.conditions.has c = true → e.conditions.has c = true

theorem judgeWarm_warms (z : Fin 2) (v : Sample) (d : Device) : Warms z v d (d.judgeWarm z v) := by
  let m := d.updateZone z fun r => { r with warm := r.warmAfter v }
  have judged : m.zones[z] = { d.zones[z] with warm := d.zones[z].warmAfter v } := zone_updateZone z _ d
  have frame : d.changesOnly [.conditions, .zones] m := changesOnly_mono (updateZone_frame z _ d) (by simp)
  have whole : d.judgeWarm z v = if (!d.zones[z].warm && d.zones[z].warmAfter v) = true then m.zoneAlarm z .warm else m := by
    simp only [Device.judgeWarm, zone_updateZone]
    rfl
  rw [whole]
  split
  next warms =>
    obtain ⟨frame', zone, -, raised, latched⟩ := zoneAlarm_alarms z .warm m
    refine ⟨changesOnly_trans frame frame', by rw [zone, judged], fun _ _ => ⟨by rw [zone], raised⟩, fun same => ?_,
      latched⟩
    rw [same] at warms
    simp at warms
  next stays =>
    refine ⟨frame, by rw [judged], fun warm was => absurd ?_ stays, fun _ => by rw [judged], fun _ => id⟩
    rw [was, warm]
    rfl

/-! ### The sample taken (R127, R128, R137) -/

/-- R137: when an air sample makes a sweep: the first, or one that changes the flag or a probe's fault. -/
def sweepsAt (r : Zone) (v : Sample) : Prop :=
  r.air = none ∨ r.warmAfter v ≠ r.warm ∨ (airState r v = .probeFault ∧ r.state ≠ .probeFault) ∨
    (airState r v ≠ .probeFault ∧ r.state = .probeFault)

/-- R137: the record by which an air sample's sweep decides. -/
def sampledZone (v : Sample) (r : Zone) : Zone := { r with state := airState r v, warm := r.warmAfter v }

/-- What an air sample leaves of its zone before a due defrost is entered. -/
structure Samples (z : Fin 2) (v : Sample) (d e : Device) : Prop where
  frame : d.changesOnly (.conditions :: .table :: grantParts) e
  state : e.zones[z].state = airState d.zones[z] v
  air : e.zones[z].air = some v
  warm : e.zones[z].warm = d.zones[z].warmAfter v
  exposure : e.zones[z].exposure = d.zones[z].exposure
  set : e.zones[z].set = d.zones[z].set
  due : e.zones[z].defrostDue = d.zones[z].defrostDue
  fault : airState d.zones[z] v = .probeFault → d.zones[z].state ≠ .probeFault →
    e.zones[z].lastAlarm = some .probeFault ∧ e.conditions.has .zoneAlarm = true ∧
      (d.zones[z].state = .defrost → e.zones[z].defrost = none)
  alarm : d.zones[z].warmAfter v = true → d.zones[z].warm = false →
    e.zones[z].lastAlarm = some .warm ∧ e.conditions.has .zoneAlarm = true

/-- The warm flag's judgement reads of a zone what the state's leaves. -/
theorem warmAfter_unjudged (r : Zone) (v : Sample) : (unjudged r).warmAfter v = r.warmAfter v := by
  cases v <;> rfl

/-- R127, R128: the records with an air sample copied and judged, before its sweep. -/
def airJudged (z : Fin 2) (v : Sample) (d : Device) : Device :=
  ((d.updateZone z fun r => { r with air := some v }).judgeAir z v).judgeWarm z v

theorem airJudged_samples (z : Fin 2) (v : Sample) (d : Device) :
    Samples z v d (airJudged z v d) ∧ (airJudged z v d).table = d.table := by
  let m := d.updateZone z fun r => { r with air := some v }
  have copied : m.zones[z] = { d.zones[z] with air := some v } := zone_updateZone z _ d
  have judges := judgeAir_judges z v m
  have warms := judgeWarm_warms z v (m.judgeAir z v)
  show Samples z v d ((m.judgeAir z v).judgeWarm z v) ∧ ((m.judgeAir z v).judgeWarm z v).table = d.table
  generalize (m.judgeAir z v).judgeWarm z v = b at warms
  generalize m.judgeAir z v = a at judges warms
  obtain ⟨frame, state, kept, fault⟩ := judges
  obtain ⟨frame', zone, alarm, quiet, latched⟩ := warms
  rw [copied] at state kept fault
  have same : a.zones[z].warmAfter v = d.zones[z].warmAfter v := by
    rw [← warmAfter_unjudged, kept]
    exact warmAfter_unjudged _ v
  have was : a.zones[z].warm = d.zones[z].warm := (congrArg Zone.warm kept :)
  have field {α : Type} (f : Zone → α) (rest : ∀ r w l, f { r with warm := w, lastAlarm := l } = f r := by
      exact fun _ _ _ => rfl) : f b.zones[z] = f a.zones[z] := by
    rw [zone]
    exact rest _ _ _
  refine ⟨⟨?_, (field Zone.state).trans state, (field Zone.air).trans (congrArg Zone.air kept :), ?_,
    (field Zone.exposure).trans (congrArg Zone.exposure kept :), (field Zone.set).trans (congrArg Zone.set kept :),
    (field Zone.defrostDue).trans (congrArg Zone.defrostDue kept :), fun faults sound => ?_, fun warm cool => ?_⟩, ?_⟩
  · have copies : d.changesOnly [.zones] m := updateZone_frame z _ d
    refine changesOnly_trans (changesOnly_mono copies (by simp [grantParts])) ?_
    exact changesOnly_trans (changesOnly_mono frame (by simp +contextual)) (changesOnly_mono frame' (by simp [grantParts]))
  · rw [zone]
    exact same
  · obtain ⟨last, raised, ends⟩ := fault faults sound
    exact ⟨(quiet (warmAfter_fault faults _)).trans last, latched _ raised,
      fun defrosting => (field Zone.defrost).trans (ends defrosting)⟩
  · exact alarm (same.trans warm) (was.trans cool)
  · exact (frame' .table (by simp)).trans (frame .table (by simp [grantParts]))

/-- A sweep of the zone's lanes leaves what the sample has left of the zone. -/
theorem Samples.sweep {z : Fin 2} {v : Sample} {d e : Device} (h : Samples z v d e) : Samples z v d (e.holdSweep z) := by
  have sweep := holdSweep_relabels z e
  have zones := holdSweep_zones z e
  generalize e.holdSweep z = c at sweep zones
  obtain ⟨frame, state, air, warm, exposure, set, due, fault, alarm⟩ := h
  rw [← zones] at state air warm exposure set due fault alarm
  refine ⟨changesOnly_trans frame (changesOnly_mono sweep.frame (by simp)), state, air, warm, exposure, set, due,
    fun faults sound => ?_, fun warms cool => ?_⟩
  · obtain ⟨last, raised, ends⟩ := fault faults sound
    exact ⟨last, sweep.latched _ raised, ends⟩
  · obtain ⟨last, raised⟩ := alarm warms cool
    exact ⟨last, sweep.latched _ raised⟩

/-- What a sweep decides is read of the state, the warm flag and the settings. -/
theorem heldLane_congr {z : Fin 2} {r r' : Zone} (state : r.state = r'.state) (warm : r.warm = r'.warm)
    (set : r.set = r'.set) : heldLane z r = heldLane z r' := by
  funext l
  unfold heldLane
  cases l.laneClass <;> simp only [Zone.holds, state, warm, set]

theorem airJudged_sweeps {z : Fin 2} {v : Sample} {d : Device} :
    Relabels (heldLane z (sampledZone v d.zones[z])) allLanes (airJudged z v d) ((airJudged z v d).holdSweep z) := by
  obtain ⟨⟨-, state, -, warm, -, set, -⟩, -⟩ := airJudged_samples z v d
  have decides : heldLane z (airJudged z v d).zones[z] = heldLane z (sampledZone v d.zones[z]) :=
    heldLane_congr state warm set
  rw [← decides]
  exact holdSweep_relabels z _

theorem sweepsAt_iff (r : Zone) (v : Sample) : (r.air.isNone ||
    decide (r.state = .probeFault) != decide (airState r v = .probeFault) || r.warm != r.warmAfter v) = true ↔
      sweepsAt r v := by
  simp only [sweepsAt, Bool.or_eq_true, Option.isNone_iff_eq_none, bne_iff_ne, ne_eq, decide_eq_decide, eq_comm (a := r.warm)]
  by_cases was : r.state = .probeFault <;> by_cases is : airState r v = .probeFault <;> simp [was, is]

/-- R127, R137: the sample judged, its sweep made when it must be, and a due defrost entered. -/
theorem airSample_eq (z : Fin 2) (v : Sample) (d : Device) :
    (sweepsAt d.zones[z] v → d.airSample z v = ((airJudged z v d).holdSweep z).checkDue z) ∧
    (¬ sweepsAt d.zones[z] v → d.airSample z v = (airJudged z v d).checkDue z) := by
  obtain ⟨⟨-, state, -, warm, -⟩, -⟩ := airJudged_samples z v d
  have when_ := sweepsAt_iff d.zones[z] v
  rw [← state, ← warm] at when_
  exact ⟨fun sweeps => congrArg (Device.checkDue z) (if_pos (when_.2 sweeps)),
    fun rests => congrArg (Device.checkDue z) (if_neg (mt when_.1 rests))⟩

/-- R127, R128, R130, R139: what an air sample leaves of its zone, a due defrost entered. -/
structure Sampled (z : Fin 2) (v : Sample) (d e : Device) : Prop where
  frame : d.changesOnly (.conditions :: .table :: grantParts) e
  state : e.zones[z].state = if d.zones[z].defrostDue = true ∧
    (airState d.zones[z] v = .satisfied ∨ airState d.zones[z] v = .calling) then .defrost else airState d.zones[z] v
  air : e.zones[z].air = some v
  warm : e.zones[z].warm = d.zones[z].warmAfter v
  exposure : e.zones[z].exposure = d.zones[z].exposure
  set : e.zones[z].set = d.zones[z].set
  fault : airState d.zones[z] v = .probeFault → d.zones[z].state ≠ .probeFault →
    e.zones[z].lastAlarm = some .probeFault ∧ e.conditions.has .zoneAlarm = true ∧
      (d.zones[z].state = .defrost → e.zones[z].defrost = none)
  alarm : d.zones[z].warmAfter v = true → d.zones[z].warm = false →
    e.zones[z].lastAlarm = some .warm ∧ e.conditions.has .zoneAlarm = true

theorem Samples.checkDue {z : Fin 2} {v : Sample} {d e : Device} (h : Samples z v d e) :
    Sampled z v d (e.checkDue z) ∧ (e.checkDue z).table = e.table := by
  obtain ⟨frame, state, air, warm, exposure, set, due, fault, alarm⟩ := h
  have when_ : enters e.zones[z] ↔ d.zones[z].defrostDue = true ∧
      (airState d.zones[z] v = .satisfied ∨ airState d.zones[z] v = .calling) := by rw [enters, due, state]
  by_cases enter : enters e.zones[z]
  · have entered := checkDue_enters enter
    generalize e.checkDue z = t at entered
    obtain ⟨⟨frame', zone, -⟩, -⟩ := entered
    have conditions : t.conditions = e.conditions := frame' .conditions (by simp [grantParts])
    have last : t.zones[z].lastAlarm = e.zones[z].lastAlarm := (congrArg Zone.lastAlarm zone :)
    refine ⟨⟨changesOnly_trans frame (changesOnly_mono frame' (by simp +contextual)), ?_,
      (congrArg Zone.air zone).trans air, (congrArg Zone.warm zone).trans warm,
      (congrArg Zone.exposure zone).trans exposure, (congrArg Zone.set zone).trans set, fun faults _ => ?_, ?_⟩,
      table_of_grantParts frame'⟩
    · rw [if_pos (when_.1 enter)]
      exact (congrArg Zone.state zone :)
    · obtain ⟨-, ready⟩ := when_.1 enter
      rw [faults] at ready
      simp at ready
    · rw [last, conditions]
      exact alarm
  · rw [checkDue_waits enter]
    exact ⟨⟨frame, by rw [if_neg (mt when_.2 enter), state], air, warm, exposure, set, fault, alarm⟩, rfl⟩

theorem airSample_sampled (z : Fin 2) (v : Sample) (d : Device) : Sampled z v d (d.airSample z v) := by
  obtain ⟨swept, unswept⟩ := airSample_eq z v d
  obtain ⟨samples, -⟩ := airJudged_samples z v d
  by_cases sweeps : sweepsAt d.zones[z] v
  · rw [swept sweeps]
    exact samples.sweep.checkDue.1
  · rw [unswept sweeps]
    exact samples.checkDue.1

/-- R137: a sample's sweep decides by the record the sample gives. -/
theorem airSample_swept {z : Fin 2} {v : Sample} {d : Device} (sweeps : sweepsAt d.zones[z] v) {n : Fin 64} {l : Lane}
    (hl : d.lane? n = some l) : (d.airSample z v).lane? n = some (heldLane z (sampledZone v d.zones[z]) l) ∧
      (heldLane z (sampledZone v d.zones[z]) l ≠ l → (d.airSample z v).table.changed[n] = true) := by
  obtain ⟨samples, table⟩ := airJudged_samples z v d
  obtain ⟨-, table'⟩ := samples.sweep.checkDue
  have sweep := airJudged_sweeps (z := z) (v := v) (d := d)
  have lane : (airJudged z v d).lane? n = some l := (lane?_of_table table n).trans hl
  rw [(airSample_eq z v d).1 sweeps]
  generalize (airJudged z v d).holdSweep z = c at table' sweep
  generalize c.checkDue z = t at table'
  rw [lane?_of_table table', table']
  exact ⟨sweep.lane lane, sweep.changed n (mem_allLanes n) l lane⟩

theorem airSample_unswept {z : Fin 2} {v : Sample} {d : Device} (rests : ¬ sweepsAt d.zones[z] v) :
    (d.airSample z v).table = d.table := by
  obtain ⟨samples, table⟩ := airJudged_samples z v d
  rw [(airSample_eq z v d).2 rests]
  exact samples.checkDue.2.trans table

/-! ### Every timer and sample -/

/-- What follows a sample, between changes of the scanner. -/
theorem frame_of_sample {s : State} {ps : List Part} {ends : Nat} {before after : Scanner} {e : Device}
    (scanner : Part.scanner ∈ ps) (h : (atSample ends before s.dev).changesOnly ps e) :
    s.frame (.clock :: ps) (s.withDev { e with scanner := after }) := by
  refine ⟨rfl, rfl, changesOnly_mono (sampled_frame after h) fun p hp => ?_⟩
  rcases List.mem_cons.1 hp with rfl | hp
  · exact List.mem_cons_self
  rcases List.mem_cons.1 hp with rfl | hp
  · exact List.mem_cons_of_mem _ scanner
  · exact List.mem_cons_of_mem _ hp

/-- What a sweep after an air sample decides. -/
theorem sampledZone_holds (r : Zone) (v : Sample) (c : LaneClass) : (sampledZone v r).holds c =
    match c with
    | .ambient => false
    | .chilled => r.state = .off || (r.warmAfter v && r.set.holdChilled)
    | .perishable => r.state = .off || r.warmAfter v || airState r v = .probeFault := by
  have off : decide (airState r v = .off) = decide (r.state = .off) := decide_eq_decide.2 (airState_off r v)
  cases c with
  | ambient => rfl
  | chilled => exact congrArg (· || (r.warmAfter v && r.set.holdChilled)) off
  | perishable => exact congrArg (· || r.warmAfter v || decide (airState r v = .probeFault)) off

/-- Settles O56: each sample is handed to its zone, and each expiry acts once the clock has reached it. -/
theorem zoneTimersCountAndMove : Obligations.ZoneTimersCountAndMove := by
  unfold Obligations.ZoneTimersCountAndMove
  intro s z due awake r now
  refine ⟨fun k reading converting ends => ?samples, fun runs => ?since, fun f defrosting under runs claims => ?defrost,
    fun dripping runs idle => ?drip, fun runs => ⟨fun cool sound => ?cool, fun exposed => ?exposed⟩⟩
  case samples =>
    intro v
    obtain ⟨before, after, taken⟩ := exec_conversionEnd_hands reading awake converting
    let m := atSample k.ends before s.dev
    refine ⟨fun channel => ?air, fun channel => ?evaporator⟩
    case air =>
      intro state warm swept
      rw [handSample_air channel] at taken
      obtain ⟨frame, state', air, warm', exposure, set, fault, alarm⟩ := airSample_sampled z v m
      have sweeps (h : swept) := fun n l (hl : m.lane? n = some l) => airSample_swept (z := z) (v := v) (d := m) h hl
      have rests (h : ¬ swept) : (m.airSample z v).table = m.table := airSample_unswept (z := z) (v := v) h
      generalize m.airSample z v = e at *
      refine ⟨s.withDev { e with scanner := after }, taken, air, warm', exposure, set, state', fault, alarm,
        fun n l hl => ?_, frame_of_sample (by simp [grantParts]) frame⟩
      intro held
      have holds : (sampledZone v r).holds l.laneClass = held := sampledZone_holds r v l.laneClass
      refine ⟨fun h here => ?_, fun h => ?_⟩
      · obtain ⟨lane, changed⟩ := sweeps h n l hl
        rw [← holds]
        exact ⟨lane.trans (congrArg some (if_pos here)), fun new => changed (heldLane_new here new)⟩
      · by_cases sweep : swept
        · have elsewhere : l.zone ≠ z := h.resolve_left fun no => no sweep
          exact (sweeps sweep n l hl).1.trans (congrArg some (if_neg elsewhere))
        · exact (lane?_of_table (rests sweep) n).trans hl
    case evaporator =>
      rw [handSample_evaporator channel] at taken
      have copied := evaporatorSample_evaporator z v m
      have copies (stays : r.state ≠ .defrost ∨ r.defrost.any (·.endedBy v) = false) :=
        evaporatorSample_copies (z := z) (v := v) (d := m) stays
      have drips (f : Defrost) (a : Int) (claims : s.dev.heaterClaims) (defrosting : r.state = .defrost)
          (under : r.defrost = some f) (good : v = .good a) (reached : f.endTemp ≤ a) : Drips z m (m.evaporatorSample z v) :=
        evaporatorSample_drips defrosting under (by rw [good]; exact decide_eq_true reached) (claims z).1
      generalize m.evaporatorSample z v = e at *
      refine ⟨s.withDev { e with scanner := after }, taken, copied, fun stays => ?_,
        fun f a claims defrosting under good reached => ?_⟩
      · have is := copies (stays.imp_right endedBy_none)
        subst is
        have frame : m.changesOnly [.zones, .scanner] (m.updateZone z fun r => { r with evaporator := some v }) :=
          changesOnly_mono (updateZone_frame z _ m) (by simp)
        exact ⟨rfl, frame_of_sample (by simp) frame⟩
      · obtain ⟨frame, state, ended, drip, since, unclaimed⟩ := drips f a claims defrosting under good reached
        subst ends
        exact ⟨state, ended, drip, since, unclaimed, frame_of_sample (by simp [grantParts]) frame⟩
  case since =>
    intro n
    let m := (s.dev.reach due).updateZone z (minuteCounted due)
    have counted : m.zones[z] = minuteCounted due r := zone_updateZone z _ _
    have counts : s.dev.sinceExpiry z = m.checkInterval z := sinceExpiry_counts runs
    have reached : m.zones[z].intervalReached = true ↔ r.set.defrostInterval ≠ 0 ∧ r.set.defrostInterval * 60 ≤ n := by
      rw [counted, intervalReached_iff]
      rfl
    refine ⟨fun idle below => ?_, fun set long ready => ?_⟩
    · have short : m.zones[z].intervalReached = false := Bool.eq_false_iff.2 (mt reached.1 (by omega))
      exact next_event awake (counts.trans (checkInterval_unreached (by rw [counted]; exact idle) short))
    · have entered := checkInterval_enters (reached.2 ⟨Nat.pos_iff_ne_zero.1 set, long⟩) (by rw [counted]; exact ready)
      generalize m.checkInterval z = e at counts entered
      obtain ⟨state, zero, due_, -⟩ := entered.record
      refine ⟨s.withDev e, next_event awake counts, state, zero, due_, entered.claim, rfl, rfl,
        frame_after_reach (due := due) ?_⟩
      exact changesOnly_trans (updateZone_becomes z _ (s.dev.reach due)).frame
        (changesOnly_trans (updateZone_becomes z _ m).frame entered.becomes.frame)
  case defrost =>
    obtain ⟨one, -⟩ := claims z
    have drips := defrostExpiry_drips defrosting under runs one
    generalize he : s.dev.defrostExpiry z = e at drips
    obtain ⟨frame, state, ended, drip, since, unclaimed⟩ := drips
    exact ⟨s.withDev e, next_event awake he, state, ended, drip, since, unclaimed, rfl, rfl, frame_after_reach frame⟩
  case drip =>
    have becomes := dripExpiry_becomes dripping runs idle
    generalize he : s.dev.dripExpiry z = e at becomes
    obtain ⟨frame, zone, -⟩ := becomes
    exact ⟨s.withDev e, next_event awake he, (congrArg Zone.dripTimer zone :), (congrArg Zone.state zone :), rfl, rfl,
      frame_after_reach frame⟩
  case cool =>
    exact next_event awake (minuteExpiry_unexposed runs fun exposed =>
      exposed.elim (fun warm => absurd (cool.symm.trans warm) (by simp)) sound)
  case exposed =>
    let m := (s.dev.reach due).updateZone z fun r => { r with minuteTimer := some (due + 60000) }
    have timed : m.zones[z] = { r with minuteTimer := some (due + 60000) } := zone_updateZone z _ _
    have exposes := exposeMinute_exposes z m
    have taken : exec (.zoneMinuteTimer z) s = .next (s.withDev (m.exposeMinute z)) :=
      next_event awake (minuteExpiry_exposed runs exposed)
    generalize m.exposeMinute z = e at exposes taken
    obtain ⟨frame, exposure, timer, -, alarm, lanes⟩ := exposes
    rw [timed] at exposure timer alarm lanes
    refine ⟨s.withDev e, taken, exposure, timer, alarm, fun n l hl => (lanes n l hl).trans ?_, rfl, rfl, ?_⟩
    · simp only [spoiledLane, Bool.and_assoc]
    · refine frame_after_reach (due := due) (changesOnly_trans (b := m) ?_ frame)
      exact changesOnly_mono (updateZone_frame z _ (s.dev.reach due)) (by simp)

end Sys2Proof.Proofs
end

section
/-! SUPPORT. R136: what leaves the exposure accumulators as they are: claims and grants, lanes, the compressor, samples
and every operation on a zone but its minute of exposure. -/
namespace Sys2Proof.Proofs

open Sys2Proof.Machine Sys2Proof.Laws

-- One proof at a time: together they wait for the kernel in a thread each, and the memory limit is met.
set_option Elab.async false

/-- R126: the exposure accumulators. -/
def exposures (d : Device) : Fin 2 → Nat := fun z => d.zones[z].exposure

theorem exposures_of_zones {d e : Device} (h : e.zones = d.zones) : exposures e = exposures d :=
  congrArg (fun (v : Vector Zone 2) (z : Fin 2) => v[z].exposure) h

/-- A change outside the zones. -/
theorem exposures_of_frame {ps : List Part} {d e : Device} (h : d.changesOnly ps e) (hp : Part.zones ∉ ps := by simp) :
    exposures e = exposures d :=
  exposures_of_zones (h .zones hp)

/-- Grants, claims and the compressor. -/
theorem Steady.exposures {d e : Device} (h : Steady d e) : exposures e = exposures d :=
  funext fun z => (congrArg Zone.exposure (h.zones z) :)

/-- A zone's record written with the accumulator it had. -/
theorem Becomes.exposures {z : Fin 2} {r : Zone} {d e : Device} (h : Becomes z r d e)
    (kept : r.exposure = d.zones[z].exposure := by rfl) : exposures e = exposures d := funext fun y => by
  by_cases here : y = z
  · subst here
    exact (congrArg Zone.exposure h.zone :).trans kept
  · exact (congrArg Zone.exposure (h.others y here) :)

/-- What a pass over the lanes leaves. -/
theorem Relabels.exposures {f : Lane → Lane} {xs : List (Fin 64)} {d e : Device} (h : Relabels f xs d e) :
    exposures e = exposures d := exposures_of_frame h.frame

theorem onExpiry_exposures {t : Timer} {f : Nat → Device → Device} {d : Device}
    (h : ∀ due, exposures (f due (d.reach due)) = exposures d) : exposures (d.onExpiry t f) = exposures d := by
  unfold Device.onExpiry
  split
  · rfl
  next due => exact h due

theorem skip_exposures {p : Prop} [Decidable p] {d e : Device} (h : exposures e = exposures d) :
    exposures (if p then d else e) = exposures d := by
  split
  · rfl
  · exact h

/-- Neither branch of a request touches the accumulators. -/
theorem ite_exposures {p : Prop} [Decidable p] {a b : Device × Reply} {x : Fin 2 → Nat} (ha : exposures a.1 = x)
    (hb : exposures b.1 = x) : exposures (if p then a else b).1 = x := by
  split
  · exact ha
  · exact hb

/-! ### Claims and grants -/

theorem grantTest_exposures (d : Device) : exposures d.grantTest = exposures d := (grantTest_steady d).exposures

theorem claim_exposures (c : Claim) (d : Device) : exposures (d.claim c) = exposures d := (claim_steady c d).exposures

theorem giveBack_exposures (who : Claimant) (d : Device) : exposures (d.giveBack who) = exposures d :=
  (giveBack_steady who d).exposures

theorem withdraw_exposures (who : Claimant) (d : Device) : exposures (d.withdraw who) = exposures d :=
  (withdraw_steady who d).exposures

theorem amendLoad_exposures (a : LoadAmend) (d : Device) : exposures (amendLoad a d).1 = exposures d :=
  ite_exposures rfl (ite_exposures rfl (by
    simp only [okay]
    split
    · exact grantTest_exposures _
    · rfl))

/-! ### Lanes -/

theorem updateLane_exposures (n : Fin 64) (f : Lane → Lane) (d : Device) : exposures (d.updateLane n f) = exposures d :=
  exposures_of_frame (updateLane_frame n f d)

theorem changeLane_exposures (n : Fin 64) (f : Lane → Lane) (d : Device) : exposures (d.changeLane n f) = exposures d :=
  exposures_of_frame (changeLane_frame n f d)

theorem laneFault_exposures (cause : EndCause) (n : Fin 64) (d : Device) :
    exposures (d.laneFault cause n) = exposures d := by
  unfold Device.laneFault
  split
  · exact changeLane_exposures n _ d
  · exact changeLane_exposures n _ d

theorem fitOutcome_exposures (n : Fin 64) (pass : Bool) (d : Device) : exposures (d.fitOutcome n pass) = exposures d := by
  unfold Device.fitOutcome
  split
  · exact changeLane_exposures n _ d
  · rfl

theorem decideHold_exposures (n : Fin 64) (v : Bool) (d : Device) : exposures (d.decideHold n v) = exposures d := by
  unfold Device.decideHold
  split
  · exact changeLane_exposures n _ d
  · rfl

theorem stopMotors_exposures (n : Fin 64) (d : Device) : exposures (d.stopMotors n) = exposures d :=
  exposures_of_frame (stopMotors_frame n d)

theorem stopWork_exposures (n : Fin 64) (d : Device) : exposures (d.stopWork n) = exposures d :=
  (giveBack_exposures .drive _).trans (stopMotors_exposures n d)

/-! ### The compressor -/

theorem tryStart_exposures (d : Device) : exposures d.tryStart = exposures d := (tryStart_steady d).exposures

theorem leaveRest_exposures (d : Device) : exposures d.leaveRest = exposures d := by
  unfold Device.leaveRest
  split
  · exact tryStart_exposures _
  · rfl

theorem stopCompressor_exposures (why : LastStop) (d : Device) : exposures (d.stopCompressor why) = exposures d :=
  (stopCompressor_steady why d).exposures

theorem failCompressor_exposures (why : LastStop) (d : Device) : exposures (d.failCompressor why) = exposures d := by
  unfold Device.failCompressor
  dsimp only
  split
  · exact stopCompressor_exposures why d
  · exact stopCompressor_exposures why d

theorem condenserSample_exposures (sample : Sample) (d : Device) : exposures (d.condenserSample sample) = exposures d := by
  simp only [Device.condenserSample]
  generalize hb : (if sample.bad && !d.compressor.condenser.any Sample.bad then _ else _) = b
  have alarmed : exposures b = exposures d := by
    rw [← hb]
    split
    · rfl
    · rfl
  have hot : exposures b.hotStop = exposures b := stopCompressor_exposures .hot b
  rw [← alarmed]
  split
  · split
    · exact hot
    · rfl
  · split
    · exact hot
    · rfl
  · split
    · exact (leaveWaiting_steady b).exposures
    · rfl
  · exact tryStart_exposures b
  · rfl
  · rfl

theorem compressorRevoked_exposures (d : Device) : exposures d.compressorRevoked = exposures d := by
  unfold Device.compressorRevoked
  split
  · exact stopCompressor_exposures .supply d
  · rfl

theorem confirmStart_exposures (d : Device) : exposures d.confirmStart = exposures d := giveBack_exposures .compressor _

theorem startTimer_exposures (d : Device) : exposures d.startTimer = exposures d := onExpiry_exposures fun due => by
  split
  · exact failCompressor_exposures .startFailed (d.reach due)
  · exact confirmStart_exposures (d.reach due)

theorem confirmActs_exposures (before : Option Level) (level : Level) (d : Device) :
    exposures (d.confirmActs before level) = exposures d := by
  unfold Device.confirmActs
  split
  · rfl
  split
  · split
    · split
      · exact confirmStart_exposures d
      · rfl
    · split
      · exact failCompressor_exposures .confirmLost d
      · rfl
    · rfl
  · rfl

/-! ### Samples and timers of a zone -/

theorem checkDue_exposures (z : Fin 2) (d : Device) : exposures (d.checkDue z) = exposures d := by
  by_cases h : enters d.zones[z]
  · exact (checkDue_enters h).becomes.exposures
  · rw [checkDue_waits h]

theorem updateZone_exposures {z : Fin 2} {f : Zone → Zone} {d : Device}
    (kept : (f d.zones[z]).exposure = d.zones[z].exposure := by rfl) : exposures (d.updateZone z f) = exposures d :=
  (updateZone_becomes z f d).exposures kept

theorem setZoneState_exposures (z : Fin 2) (st : ZoneState) (d : Device) :
    exposures (d.setZoneState z st) = exposures d := (setZoneState_becomes z st d).exposures

theorem endDefrost_exposures (z : Fin 2) (st : ZoneState) (d : Device) : exposures (d.endDefrost z st) = exposures d :=
  (endDefrost_becomes z st d).exposures

theorem zoneAlarm_exposures (z : Fin 2) (a : ZoneAlarm) (d : Device) : exposures (d.zoneAlarm z a) = exposures d := by
  have alarms := zoneAlarm_alarms z a d
  refine funext fun y => ?_
  by_cases here : y = z
  · subst here
    exact (congrArg Zone.exposure alarms.zone :)
  · exact congrArg Zone.exposure (alarms.others y here)

theorem checkInterval_exposures (z : Fin 2) (d : Device) : exposures (d.checkInterval z) = exposures d :=
  (checkDue_exposures z _).trans updateZone_exposures

theorem probeFault_exposures (z : Fin 2) (d : Device) : exposures (d.probeFault z) = exposures d := by
  simp only [Device.probeFault]
  refine (zoneAlarm_exposures z .probeFault _).trans ?_
  split
  · exact endDefrost_exposures z .probeFault d
  · exact (setZoneState_exposures z .probeFault _).trans updateZone_exposures

theorem judgeAir_exposures (z : Fin 2) (v : Sample) (d : Device) : exposures (d.judgeAir z v) = exposures d := by
  rcases judgeAir_cases z v d with ⟨is, -⟩ | ⟨is, -⟩ | ⟨is, -⟩
  · rw [is]
  · rw [is, setZoneState_exposures]
  · rw [is, probeFault_exposures]

theorem judgeWarm_exposures (z : Fin 2) (v : Sample) (d : Device) : exposures (d.judgeWarm z v) = exposures d := by
  simp only [Device.judgeWarm]
  split
  · exact (zoneAlarm_exposures z .warm _).trans updateZone_exposures
  · exact updateZone_exposures

theorem airJudged_exposures (z : Fin 2) (v : Sample) (d : Device) : exposures (airJudged z v d) = exposures d :=
  (judgeWarm_exposures z v _).trans ((judgeAir_exposures z v _).trans updateZone_exposures)

theorem holdSweep_exposures (z : Fin 2) (d : Device) : exposures (d.holdSweep z) = exposures d :=
  (holdSweep_relabels z d).exposures

theorem airSample_exposures (z : Fin 2) (v : Sample) (d : Device) : exposures (d.airSample z v) = exposures d := by
  obtain ⟨swept, unswept⟩ := airSample_eq z v d
  by_cases sweeps : sweepsAt d.zones[z] v
  · rw [swept sweeps, checkDue_exposures, holdSweep_exposures, airJudged_exposures]
  · rw [unswept sweeps, checkDue_exposures, airJudged_exposures]

theorem evaporatorSample_exposures (z : Fin 2) (v : Sample) (d : Device) :
    exposures (d.evaporatorSample z v) = exposures d := by
  simp only [Device.evaporatorSample]
  split
  · exact (endDefrost_exposures z .drip _).trans updateZone_exposures
  · exact updateZone_exposures

theorem sinceExpiry_exposures (z : Fin 2) (d : Device) : exposures (d.sinceExpiry z) = exposures d :=
  onExpiry_exposures fun due => (checkInterval_exposures z _).trans (updateZone_exposures (d := d.reach due))

theorem defrostExpiry_exposures (z : Fin 2) (d : Device) : exposures (d.defrostExpiry z) = exposures d :=
  onExpiry_exposures fun due => endDefrost_exposures z .drip (d.reach due)

theorem dripExpiry_exposures (z : Fin 2) (d : Device) : exposures (d.dripExpiry z) = exposures d :=
  onExpiry_exposures fun due =>
    (checkDue_exposures z _).trans ((setZoneState_exposures z _ _).trans (updateZone_exposures (d := d.reach due)))

/-! ### Requests on a zone -/

theorem disableZone_exposures (z : Fin 2) (d : Device) : exposures (d.disableZone z) = exposures d := by
  unfold Device.disableZone
  refine (holdSweep_exposures z _).trans ((setZoneState_exposures z .off _).trans (Eq.trans updateZone_exposures ?_))
  split
  · exact endDefrost_exposures z .off d
  · rfl

theorem enableZone_exposures (z : Fin 2) (d : Device) : exposures (d.enableZone z) = exposures d := by
  have satisfied : exposures ((d.setZoneState z .satisfied).holdSweep z) = exposures d :=
    (holdSweep_exposures z _).trans (setZoneState_exposures z .satisfied d)
  unfold Device.enableZone
  generalize (d.setZoneState z .satisfied).holdSweep z = e at satisfied
  exact Eq.trans (updateZone_exposures (d := e)) satisfied

theorem switchZone_exposures (z : Fin 2) (before : Bool) (d : Device) :
    exposures (d.switchZone z before) = exposures d := by
  unfold Device.switchZone
  split
  · rfl
  split
  · exact disableZone_exposures z d
  · exact enableZone_exposures z d

theorem zoneEffects_exposures (z : Fin 2) (old : ZoneSettings) (d : Device) :
    exposures (d.zoneEffects z old) = exposures d := by
  simp only [Device.zoneEffects]
  rw [skip_exposures (checkInterval_exposures z _), skip_exposures (spoilCheck_relabels z _).exposures,
    skip_exposures (holdSweep_exposures z _), switchZone_exposures]

theorem amendZone_exposures (zone : Nat) (a : ZoneAmend) (d : Device) : exposures (amendZone zone a d).1 = exposures d := by
  unfold amendZone
  split
  · rfl
  next z _ => exact ite_exposures rfl ((zoneEffects_exposures z _ _).trans updateZone_exposures)

theorem startDefrost_exposures (zone : Nat) (d : Device) : exposures (startDefrost zone d).1 = exposures d := by
  unfold startDefrost
  split
  · rfl
  next z _ =>
    refine ite_exposures rfl ?_
    split
    · rfl
    · rfl
    · rfl
    all_goals exact (checkDue_exposures z _).trans updateZone_exposures

end Sys2Proof.Proofs
end

section
/-! SUPPORT. R136: what leaves the exposure accumulators as they are: the payout engine, the coin link and the sale. -/
namespace Sys2Proof.Proofs

open Sys2Proof.Machine Sys2Proof.Laws

-- One proof at a time: together they wait for the kernel in a thread each, and the memory limit is met.
set_option Elab.async false

/-! ### What follows the endings of an event -/

theorem endOrder_exposures (tag : Nat) (cause : EndCause) (d : Device) : exposures (d.endOrder tag cause) = exposures d :=
  exposures_of_frame (endOrder_frame tag cause d)

theorem SaleStep.exposures {d e : Device} (h : SaleStep d e) : exposures e = exposures d := by
  cases h with
  | money frame => exact exposures_of_frame frame
  | plan kind req lines => exact exposures_of_frame (planned_frame kind req lines d)
  | wait => rfl
  | grant => exact (granted_steady _ _ d).exposures
  | refuse cause => exact endOrder_exposures _ cause (withJobs _ d)
  | discard => rfl
  | take => rfl
  | head => rfl
  | unit => rfl

theorem SaleSteps.exposures {d e : Device} (h : SaleSteps d e) : exposures e = exposures d :=
  saleSteps_induct (R := fun d e => Proofs.exposures e = Proofs.exposures d) (fun _ => rfl) (fun h k => k.trans h)
    SaleStep.exposures h

theorem servePayback_exposures (d : Device) : exposures d.servePayback = exposures d := (servePayback_steps d).exposures

theorem startUnit_exposures (d : Device) : exposures d.startUnit = exposures d := (startUnit_steps d).exposures

theorem startHead_exposures (d : Device) : exposures d.startHead = exposures d := (startHead_steps d).exposures

theorem takeFrom_exposures (q0 : OrderQueue) (d : Device) : exposures (d.takeFrom q0) = exposures d :=
  (takeFrom_steps q0 d).exposures

theorem conclude_exposures (q0 : OrderQueue) (d : Device) : exposures (d.conclude q0) = exposures d :=
  (conclude_steps q0 d).exposures

/-! ### The payout engine -/

theorem makePlan_exposures (kind : PlanKind) (req : Requested) (lines : List (Fin 6 × Nat)) (d : Device) :
    exposures (d.makePlan kind req lines) = exposures d := by
  have made : exposures (planned kind req lines d) = exposures d := exposures_of_frame (planned_frame kind req lines d)
  unfold Device.makePlan
  dsimp only
  split
  · exact made
  · exact (claim_exposures payoutClaim (planned kind req lines d)).trans made

theorem takeRefund_exposures (d : Device) : exposures (takeRefund d).1 = exposures d :=
  ite_exposures rfl (ite_exposures rfl
    ((makePlan_exposures _ _ _ _).trans (exposures_of_frame (markRefund_frame .no d))))

theorem recomputeIf_exposures (b : Bool) (d : Device) : exposures (d.recomputeIf b) = exposures d :=
  exposures_of_frame (recomputeIf_frame b d)

theorem amendCreditLimit_exposures (m : Nat) (d : Device) : exposures (amendCreditLimit m d).1 = exposures d := by
  unfold amendCreditLimit
  exact ite_exposures rfl (ite_exposures rfl (recomputeIf_exposures _ _))

theorem tryPulse_exposures (d : Device) : exposures d.tryPulse = exposures d := exposures_of_frame (tryPulse_frame d)

theorem replan_exposures (d : Device) : exposures d.replan = exposures d := by
  rw [replan_payout]
  rfl

theorem endPlan_exposures (d : Device) : exposures d.endPlan = exposures d :=
  (servePayback_exposures _).trans (dropLoad_steady .payout d.closePlan).exposures

theorem afterWindow_exposures (d : Device) : exposures d.afterWindow = exposures d := by
  simp only [Device.afterWindow]
  split
  · exact tryPulse_exposures d
  split
  · exact (tryPulse_exposures _).trans (replan_exposures d)
  · exact (endPlan_exposures _).trans (replan_exposures d)

theorem closeWindow_exposures (c : PendingCoin) (d : Device) : exposures (d.closeWindow c) = exposures d := by
  unfold Device.closeWindow
  split
  · exact afterWindow_exposures _
  split
  · exact afterWindow_exposures _
  split
  · exact afterWindow_exposures _
  · exact (afterWindow_exposures _).trans (replan_exposures _)

theorem setBalance_exposures (n : Nat) (d : Device) : exposures (d.setBalance n) = exposures d :=
  exposures_of_frame (setBalance_frame n d)

theorem debitCoin_exposures (v : Nat) (d : Device) : exposures (d.debitCoin v) = exposures d := by
  simp only [Device.debitCoin]
  split
  · exact setBalance_exposures (d.credit.balance - d.credit.debit v) d
  · rfl

theorem payCoin_exposures (c : PendingCoin) (d : Device) : exposures (d.payCoin c) = exposures d := by
  rw [payCoin_eq]
  exact (recomputeIf_exposures _ _).trans
    ((debitCoin_exposures _ _).trans (exposures_of_frame (coinCounted_frame c d)))

theorem chuteWindowClose_exposures (d : Device) : exposures d.chuteWindowClose = exposures d := by
  unfold Device.chuteWindowClose
  split
  · rfl
  next c _ =>
    split
    · exact closeWindow_exposures c (d.reach c.windowEnd)
    · rfl

theorem chuteCount_exposures (d : Device) : exposures d.chuteCount = exposures d := by
  unfold Device.chuteCount
  split
  · rfl
  next c _ =>
    split
    · exact payCoin_exposures c d
    · rfl

theorem amendTube_exposures (tube : Nat) (a : TubeAmend) (d : Device) : exposures (amendTube tube a d).1 = exposures d := by
  unfold amendTube
  split
  · rfl
  · exact ite_exposures rfl (ite_exposures rfl (ite_exposures rfl (ite_exposures rfl
      (recomputeIf_exposures _ _))))

theorem setTubeCount_exposures (tube count : Nat) (d : Device) :
    exposures (setTubeCount tube count d).1 = exposures d := by
  unfold setTubeCount
  split
  · rfl
  · exact ite_exposures rfl (ite_exposures rfl (recomputeIf_exposures _ _))

theorem dispense_exposures (tube n : Nat) (d : Device) : exposures (dispense tube n d).1 = exposures d := by
  unfold dispense
  split
  · rfl
  · refine ite_exposures rfl (ite_exposures rfl (ite_exposures rfl (ite_exposures rfl ?_)))
    dsimp only
    exact makePlan_exposures ..

/-! ### The coin link -/

theorem openSlot_exposures (d : Device) : exposures d.openSlot = exposures d := by
  unfold Device.openSlot
  split
  · rfl
  · rfl

theorem afterExchange_exposures (d : Device) : exposures d.afterExchange = exposures d := by
  unfold Device.afterExchange
  split
  · split
    · exact openSlot_exposures d
    · rfl
  · rfl

theorem endHandshake_exposures (d : Device) : exposures d.endHandshake = exposures d := servePayback_exposures _

theorem endUncertain_exposures (coin : CoinInFlight) (cause : UncertainCause) (d : Device) :
    exposures (d.endUncertain coin cause) = exposures d := endHandshake_exposures _

theorem coinReady_exposures (c : Fin 8) (d : Device) : exposures (d.coinReady c) = exposures d := by
  unfold Device.coinReady
  split
  · rfl
  next coin _ =>
    split
    · rfl
    · exact endUncertain_exposures coin .protocol d

theorem countCoin_exposures (coin : CoinInFlight) (d : Device) : exposures (d.countCoin coin) = exposures d :=
  exposures_of_frame (countCoin_frame coin d)

theorem coinDone_exposures (c : Fin 8) (d : Device) : exposures (d.coinDone c) = exposures d := by
  unfold Device.coinDone
  split
  · rfl
  next coin _ =>
    split
    · exact endUncertain_exposures coin .protocol d
    · exact (endHandshake_exposures _).trans (countCoin_exposures coin d)

theorem handleReport_exposures (r : Report) (d : Device) : exposures (d.handleReport r) = exposures d := by
  cases r with
  | idle => rfl
  | coinReady c => exact coinReady_exposures c d
  | coinDone c => exact coinDone_exposures c d
  | coinReturned c =>
    simp only [Device.handleReport, Device.coinReturned]
    split
    · exact endHandshake_exposures d
    · rfl
  | returnLever => exact (askPayback_steps .refund d).exposures
  | fault code => rfl
  | ident bytes => rfl

theorem acknowledge_exposures (m : Message) (d : Device) : exposures (d.acknowledge m) = exposures d := by
  cases m with
  | setMask k => rfl
  | route c r => rfl
  | poll => rfl
  | identify => rfl

theorem replied_exposures (m : Message) (r : Report) (d : Device) : exposures (d.replied m r) = exposures d :=
  (afterExchange_exposures _).trans ((handleReport_exposures r _).trans
    (acknowledge_exposures m (d.closeExchange.updateCoins fun c => { c with missCount := 0 })))

theorem loseCoin_exposures (d : Device) : exposures d.loseCoin = exposures d := by
  unfold Device.loseCoin
  split
  · rfl
  next coin _ => exact endUncertain_exposures coin .linkLost d

theorem linkLost_exposures (d : Device) : exposures d.linkLost = exposures d := loseCoin_exposures _

theorem missed_exposures (m : Message) (d : Device) : exposures (d.missed m) = exposures d := by
  simp only [Device.missed]
  generalize hb : Device.updateCoins _ d.closeExchange = b
  have marked : exposures b = exposures d := by
    rw [← hb]
    rfl
  split
  · exact marked
  split
  · exact (linkLost_exposures _).trans marked
  · exact (afterExchange_exposures _).trans marked

theorem identifyExpiry_exposures (d : Device) : exposures d.identifyExpiry = exposures d := onExpiry_exposures fun due => by
  split
  · rfl
  · rfl

theorem linkFrame_exposures (bytes : List Byte) (framingError : Bool) (d : Device) :
    exposures (d.linkFrame bytes framingError) = exposures d := by
  unfold Device.linkFrame
  split
  · rfl
  split
  · split
    · exact replied_exposures ..
    · exact missed_exposures ..
  · rfl

theorem linkReplyTimeout_exposures (d : Device) : exposures d.linkReplyTimeout = exposures d := by
  unfold Device.linkReplyTimeout
  split
  · rfl
  next e _ => exact onExpiry_exposures fun due => missed_exposures e.message (d.reach due)

theorem coinTimeout_exposures (d : Device) : exposures d.coinTimeout = exposures d := by
  unfold Device.coinTimeout
  split
  · rfl
  · exact endUncertain_exposures _ .timeout _

theorem amendClass_exposures (k : Nat) (a : ClassAmend) (d : Device) : exposures (amendClass k a d).1 = exposures d := by
  unfold amendClass
  split
  · rfl
  · exact ite_exposures rfl (ite_exposures rfl rfl)

/-! ### Orders that end or are credited -/

theorem endAll_exposures (cause : EndCause) (orders : List Order) (d : Device) :
    exposures (orders.foldl (fun d o => d.endOrder o.tag cause) d) = exposures d :=
  foldl_rel (R := fun d e => exposures e = exposures d) (fun _ => rfl) (fun h k => k.trans h)
    (fun d o => endOrder_exposures o.tag cause d) orders d

theorem releaseUnits_exposures (o : Order) (m : Nat) (d : Device) : exposures (d.releaseUnits o m) = exposures d :=
  exposures_of_frame (releaseUnits_frame o m d)

theorem endLive_exposures (o : Order) (cause : EndCause) (failed : Nat) (d : Device) :
    exposures (d.endLive o cause failed) = exposures d := by
  rw [endLive_eq]
  exact releaseUnits_exposures o _ d

theorem unitFailed_exposures (tag : Nat) (cause : EndCause) (d : Device) :
    exposures (d.unitFailed tag cause) = exposures d := by
  unfold Device.unitFailed
  split
  · rfl
  next o _ => exact (endLive_exposures o cause 1 _).trans (releaseUnits_exposures o 1 d)

theorem unitDelivered_exposures (tag : Nat) (d : Device) : exposures (d.unitDelivered tag) = exposures d := by
  unfold Device.unitDelivered
  split
  · rfl
  next o _ =>
    have taken : exposures ((d.updateOrder tag Order.credit).deliverStock o.lane) = exposures d := updateLane_exposures ..
    dsimp only
    generalize (d.updateOrder tag Order.credit).deliverStock o.lane = m at taken
    have charged : exposures (if o.payment = .credit then m.charge o.price else m) = exposures d := by
      rw [← taken]
      split
      · exact exposures_of_frame (charge_frame o.price m)
      · rfl
    generalize (if o.payment = .credit then m.charge o.price else m) = e at charged
    split
    · exact (endOrder_exposures tag .completed _).trans charged
    · exact charged

/-! ### Halting, resuming and abandoning -/

theorem orderHalted_exposures (tag : Nat) (d : Device) : exposures (d.orderHalted tag) = exposures d := by
  unfold Device.orderHalted
  split
  · rfl
  · rfl

theorem haltActive_exposures (tag : Nat) (revoked : Bool) (j : ActiveJob) (d : Device) :
    exposures (d.haltActive tag revoked j) = exposures d := by
  have stopped : exposures (d.stopWork j.job.lane) = exposures d := stopWork_exposures j.job.lane d
  unfold Device.haltActive
  split
  · exact (orderHalted_exposures tag _).trans (withdraw_exposures .drive d)
  · dsimp only
    split
    · exact (orderHalted_exposures tag _).trans ((unitDelivered_exposures tag _).trans stopped)
    · exact (orderHalted_exposures tag _).trans stopped
  all_goals exact orderHalted_exposures tag d

theorem haltOrder_exposures (revoked : Bool) (d : Device) : exposures (d.haltOrder revoked) = exposures d := by
  unfold Device.haltOrder
  split
  · rfl
  next o _ =>
    split
    · split
      next j _ => exact haltActive_exposures o.tag revoked j d
      · exact orderHalted_exposures o.tag _
    · rfl

theorem abandonReport_exposures (tag : Nat) (j : ActiveJob) (d : Device) :
    exposures (d.abandonReport tag j) = exposures d := by
  unfold Device.abandonReport
  split
  · exact unitDelivered_exposures tag d
  · rfl

theorem abandon_exposures (tag : Nat) (d : Device) : exposures (d.abandon tag) = exposures d := by
  unfold Device.abandon
  split
  · rfl
  next j _ =>
    split
    · exact (abandonReport_exposures tag j _).trans (withdraw_exposures .drive d)
    · exact (abandonReport_exposures tag j _).trans (stopWork_exposures _ d)
    all_goals exact abandonReport_exposures tag j _

theorem giveUp_exposures (o : Order) (cause : EndCause) (d : Device) : exposures (d.giveUp o cause) = exposures d := by
  unfold Device.giveUp
  split
  · exact (endOrder_exposures o.tag cause _).trans (abandon_exposures o.tag d)
  · exact endOrder_exposures o.tag cause d

/-! ### The drive's failures, turns and events -/

theorem reportFault_exposures (cause : EndCause) (n : Fin 64) (tag : Nat) (j : ActiveJob) (d : Device) :
    exposures (d.reportFault cause n tag j) = exposures d := by
  unfold Device.reportFault
  dsimp only
  split
  · split
    · exact unitDelivered_exposures tag d
    · exact (endOrder_exposures tag cause _).trans
        ((laneFault_exposures cause n _).trans (unitDelivered_exposures tag d))
  split
  · exact unitFailed_exposures tag .supply d
  · exact (laneFault_exposures cause n _).trans (unitFailed_exposures tag cause d)

theorem unitFault_exposures (cause : EndCause) (d : Device) : exposures (d.unitFault cause) = exposures d := by
  unfold Device.unitFault
  split
  · rfl
  next j _ =>
    split
    · rfl
    next n tag _ =>
      exact (conclude_exposures _ _).trans ((startUnit_exposures _).trans
        ((reportFault_exposures cause n tag j _).trans (stopWork_exposures n d)))

/-- The unit stopped and credited, and the next one started. -/
theorem creditedUnit_exposures (q0 : OrderQueue) (tag : Nat) {d e : Device} (h : exposures e = exposures d) :
    exposures (((e.unitDelivered tag).startUnit).conclude q0) = exposures d :=
  (conclude_exposures q0 _).trans ((startUnit_exposures _).trans ((unitDelivered_exposures tag e).trans h))

theorem decideTurn_exposures (at_ : Nat) (n : Fin 64) (tag : Nat) (j : ActiveJob) (d : Device) :
    exposures (d.decideTurn at_ n tag j) = exposures d := by
  have stopped : exposures (d.stopWork n) = exposures d := stopWork_exposures n d
  unfold Device.decideTurn
  split
  · exact creditedUnit_exposures _ tag stopped
  split
  · rfl
  split
  · exact creditedUnit_exposures _ tag stopped
  split
  · rfl
  · exact stopped

theorem camSeen_exposures (at_ : Nat) (level : CamLevel) (d : Device) : exposures (d.camSeen at_ level) = exposures d := by
  unfold Device.camSeen
  split
  · rfl
  next j _ =>
    split
    · rfl
    · exact (decideTurn_exposures at_ _ _ _ _).trans (updateLane_exposures ..)
    · rfl

theorem beamBreak_exposures (d : Device) : exposures d.beamBreak = exposures d := by
  unfold Device.beamBreak
  split
  · rfl
  next j _ =>
    split
    · rfl
    next tag _ =>
      split
      · unfold Device.creditDrop
        split
        · exact creditedUnit_exposures _ tag (e := d.endJob) rfl
        · exact creditedUnit_exposures _ tag (e := d.endJob) rfl
        · exact conclude_exposures _ d.endJob
        · rfl
      · rfl

theorem windowExpired_exposures (d : Device) : exposures d.windowExpired = exposures d := by
  unfold Device.windowExpired
  split
  · rfl
  split
  next n tag _ _ =>
    have emptied : exposures ((d.endJob.unitFailed tag .noDrop).emptyLane n) = exposures d :=
      (changeLane_exposures ..).trans (unitFailed_exposures tag .noDrop d.endJob)
    exact (conclude_exposures _ _).trans ((endAll_exposures .soldOut _ _).trans emptied)
  · exact conclude_exposures _ d.endJob

theorem pulseEnded_exposures (d : Device) : exposures d.pulseEnded = exposures d := by
  unfold Device.pulseEnded
  split
  · rfl
  next j _ =>
    exact (conclude_exposures _ _).trans
      ((fitOutcome_exposures j.job.lane j.passSeen _).trans (stopWork_exposures j.job.lane d))

theorem motorSample_exposures (at_ : Nat) (v : Sample) (d : Device) : exposures (d.motorSample at_ v) = exposures d := by
  unfold Device.motorSample
  split
  · rfl
  split
  · split
    · dsimp only
      split
      · exact unitFault_exposures .motorOpen _
      · rfl
    · rfl
    · rfl
  · rfl

/-! ### Revocations and the supply band -/

theorem driveRevoked_exposures (d : Device) : exposures d.driveRevoked = exposures d := by
  unfold Device.driveRevoked
  split
  · rfl
  next n _ => exact (takeFrom_exposures _ _).trans (stopMotors_exposures n d)
  · exact (conclude_exposures _ _).trans (haltOrder_exposures true d)

theorem revoked_exposures (who : Claimant) (d : Device) : exposures (d.revoked who) = exposures d := by
  cases who with
  | drive => exact driveRevoked_exposures d
  | payout => exact claim_exposures payoutClaim _
  | compressor => exact compressorRevoked_exposures d
  | heater z => exact claim_exposures (heaterClaim z) d

theorem supplySample_exposures (v : Sample) (d : Device) : exposures (d.supplySample v) = exposures d := by
  simp only [Device.supplySample]
  split
  · rfl
  · unfold Device.enterBand
    dsimp only
    split
    · exact foldl_rel (R := fun d e => exposures e = exposures d) (f := fun d (c : Claim) => d.revoked c.who)
        (fun _ => rfl) (fun h k => k.trans h) (fun d c => revoked_exposures c.who d) _ _
    · rfl
    · exact grantTest_exposures _

/-! ### Conversions and inputs -/

theorem handSample_exposures (c : Fin 8) (at_ : Nat) (v : Sample) (d : Device) :
    exposures (d.handSample c at_ v) = exposures d := by
  unfold Device.handSample
  split
  · exact airSample_exposures 0 v d
  · exact evaporatorSample_exposures 0 v d
  · exact airSample_exposures 1 v d
  · exact evaporatorSample_exposures 1 v d
  · exact condenserSample_exposures v d
  · exact supplySample_exposures v d
  · exact motorSample_exposures at_ v d
  · rfl

theorem conversionEnd_exposures (reading : Nat) (d : Device) : exposures (d.conversionEnd reading) = exposures d := by
  unfold Device.conversionEnd
  split
  · rfl
  next k _ => exact handSample_exposures k.channel k.ends _ _

theorem handInput_exposures (i : InputName) (st : InputState) (d : Device) : exposures (d.handInput i st) = exposures d := by
  unfold Device.handInput
  split
  · exact (conclude_exposures _ _).trans (haltOrder_exposures false d)
  · exact (takeFrom_exposures _ _).trans (startHead_exposures d)
  · exact (takeFrom_exposures _ _).trans ((startHead_exposures _).trans (startUnit_exposures d))
  · rfl
  · rfl
  · rfl

theorem judgeInput_exposures (i : InputName) (quiet : Bool) (d : Device) : exposures (d.judgeInput i quiet) = exposures d := by
  simp only [Device.judgeInput]
  split
  · rfl
  · refine (handInput_exposures i _ _).trans ?_
    split
    · rfl
    · rfl

end Sys2Proof.Proofs
end

section
/-! R136: no command but a power-on or the end of start-up lowers an exposure accumulator: a zone's minute raises its own,
and no other command touches one. -/
namespace Sys2Proof.Proofs

open Sys2Proof.Machine Sys2Proof.Laws

-- One proof at a time: together they wait for the kernel in a thread each, and the memory limit is met.
set_option Elab.async false

/-! ### The minute of exposure -/

/-- R126, R136: each accumulator within its range has not fallen, and still is within it. -/
def ExposureGrows (d e : Device) : Prop :=
  ∀ z : Fin 2, d.zones[z].exposure ≤ 65535 →
    d.zones[z].exposure ≤ e.zones[z].exposure ∧ e.zones[z].exposure ≤ 65535

theorem ExposureGrows.of_same {d e : Device} (h : exposures e = exposures d) : ExposureGrows d e := fun z bound => by
  have same : e.zones[z].exposure = d.zones[z].exposure := congrFun h z
  rw [same]
  exact ⟨Nat.le_refl _, bound⟩

theorem Exposes.grows {z : Fin 2} {d e : Device} (h : Exposes z d e) : ExposureGrows d e := fun y bound => by
  by_cases here : y = z
  · subst here
    rw [h.exposure]
    omega
  · rw [h.others y here]
    exact ⟨Nat.le_refl _, bound⟩

theorem ExposureGrows.after {d m e : Device} (h : ExposureGrows m e) (same : exposures m = exposures d) :
    ExposureGrows d e := fun z bound => by
  have was : m.zones[z].exposure = d.zones[z].exposure := congrFun same z
  rw [← was] at bound ⊢
  exact h z bound

theorem minuteExpiry_grows (z : Fin 2) (d : Device) : ExposureGrows d (d.minuteExpiry z) := by
  unfold Device.minuteExpiry Device.onExpiry
  split
  · exact .of_same rfl
  next due _ =>
    have timed : exposures ((d.reach due).updateZone z fun r => { r with minuteTimer := some (due + 60000) }) =
        exposures d := updateZone_exposures (d := d.reach due)
    dsimp only
    split
    · exact (exposeMinute_exposes z _).grows.after timed
    · exact .of_same timed

/-! ### Requests and events on the whole state -/

theorem takeRequest_exposures {f : State → State × Reply} {s : State} (h : exposures (f s).1.dev = exposures s.dev) :
    exposures (s.takeRequest f).dev = exposures s.dev := by
  unfold State.takeRequest
  split
  · exact h
  · rfl

theorem request_exposures {f : Device → Device × Reply} {s : State} (h : exposures (f s.dev).1 = exposures s.dev) :
    exposures (s.request f).dev = exposures s.dev := takeRequest_exposures h

theorem query_exposures (f : Device → Reply) (s : State) : exposures (s.query f).dev = exposures s.dev :=
  request_exposures rfl

theorem event_exposures {f : Device → Device} {s : State} (h : exposures (f s.dev) = exposures s.dev) :
    exposures (s.event f).dev = exposures s.dev := by
  unfold State.event
  split
  · rfl
  · exact h

theorem event_grows {f : Device → Device} {s : State} (h : ExposureGrows s.dev (f s.dev)) :
    ExposureGrows s.dev (s.event f).dev := by
  unfold State.event
  split
  · exact .of_same rfl
  · exact h

/-! ### Requests on the lanes and the orders -/

theorem onLane_exposures {lane : Nat} {f : Fin 64 → Lane → Device → Device × Reply} {d : Device}
    (h : ∀ n l, exposures (f n l d).1 = exposures d) : exposures (onLane lane f d).1 = exposures d := by
  unfold onLane
  split
  · rfl
  split
  · rfl
  · exact h _ _

theorem readLane_exposures (form lane : Nat) (d : Device) : exposures (readLane form lane d).1 = exposures d := by
  unfold readLane
  split
  · exact onLane_exposures fun _ _ => rfl
  · split
    · rfl
    · exact onLane_exposures fun _ _ => rfl
  · rfl

theorem joinJobs_exposures (job : Job) (d : Device) : exposures (d.joinJobs job) = exposures d := takeFrom_exposures _ _

theorem enrolLane_exposures (lane : Nat) (g : LaneSettings) (d : Device) : exposures (enrolLane lane g d).1 = exposures d := by
  unfold enrolLane
  split
  · rfl
  · exact ite_exposures rfl (ite_exposures rfl (ite_exposures rfl (joinJobs_exposures _ _)))

theorem amendWrites_exposures (a : LaneAmend) (n : Fin 64) (l : Lane) (d : Device) :
    exposures (amendWrites a n l d) = exposures d := by
  simp only [amendWrites]
  split
  · exact (decideHold_exposures n _ _).trans (updateLane_exposures ..)
  · exact updateLane_exposures ..

theorem amendLane_exposures (lane : Nat) (a : LaneAmend) (d : Device) : exposures (amendLane lane a d).1 = exposures d :=
  onLane_exposures fun n l => by
    refine ite_exposures rfl ?_
    split
    · rfl
    · simp only [okay, amendEnrolled_eq]
      split
      · exact (joinJobs_exposures _ _).trans (amendWrites_exposures a n l d)
      · exact amendWrites_exposures a n l d

theorem restockLane_exposures (lane stock : Nat) (d : Device) : exposures (restockLane lane stock d).1 = exposures d :=
  ite_exposures rfl (onLane_exposures fun _ _ => ite_exposures rfl (updateLane_exposures ..))

theorem checkLane_exposures (lane : Nat) (d : Device) : exposures (checkLane lane d).1 = exposures d :=
  onLane_exposures fun _ _ => ite_exposures rfl ((joinJobs_exposures _ _).trans (updateLane_exposures ..))

theorem retireLane_exposures (lane : Nat) (d : Device) : exposures (retireLane lane d).1 = exposures d :=
  onLane_exposures fun _ _ => ite_exposures rfl ((conclude_exposures _ _).trans (endAll_exposures .laneRetired _ _))

theorem place_exposures (o : Order) (d : Device) : exposures (place o d) = exposures d := by
  have kept : exposures (Device.reserve o.lane o.quantity { d with queue := { d.queue with orders := d.queue.orders ++ [o] } })
      = exposures d := updateLane_exposures ..
  refine (takeFrom_exposures _ _).trans ((startHead_exposures _).trans ?_)
  split
  · exact kept
  · exact kept

theorem placeOrder_exposures (p : Placement) (d : Device) : exposures (placeOrder p d).1 = exposures d := by
  unfold placeOrder placeChecked
  split
  · refine ite_exposures rfl (ite_exposures rfl ?_)
    split
    · rfl
    · dsimp only
      split
      · rfl
      · exact place_exposures _ d
  · rfl

theorem retireOrder_exposures (tag : Nat) (d : Device) : exposures (retireOrder tag d).1 = exposures d := by
  refine ite_exposures rfl ?_
  split
  · rfl
  · exact ite_exposures rfl rfl

theorem haltDrive_exposures (d : Device) : exposures (haltDrive d).1 = exposures d :=
  ite_exposures rfl ((conclude_exposures _ _).trans (haltOrder_exposures false d))

theorem resumeAt_exposures (p : UnitPosition) (d : Device) : exposures (resumeAt p d) = exposures d := by
  cases p with
  | halted =>
    simp only [resumeAt, Device.resumeUnit]
    split
    · rfl
    · exact claim_exposures ..
  | none => exact (takeFrom_exposures _ _).trans (startUnit_exposures d)
  | posted => rfl

theorem resumeDrive_exposures (d : Device) : exposures (resumeDrive d).1 = exposures d := by
  unfold resumeDrive
  split
  · rfl
  · exact ite_exposures rfl (ite_exposures rfl (resumeAt_exposures _ _))

theorem skipOrder_exposures (tag : Nat) (d : Device) : exposures (skipOrder tag d).1 = exposures d := by
  refine ite_exposures rfl ?_
  split
  · rfl
  next o _ => exact ite_exposures rfl ((conclude_exposures _ _).trans (giveUp_exposures o .skipped d))

theorem clearQueue_exposures (d : Device) : exposures (clearQueue d).1 = exposures d := by
  have current : exposures d.clearCurrent = exposures d := by
    unfold Device.clearCurrent
    split
    · rfl
    next o _ => exact giveUp_exposures o .cleared d
  exact (conclude_exposures _ _).trans ((endAll_exposures .cleared _ _).trans current)

/-! ### Requests on the scanner and the inputs -/

theorem readSample_exposures (channel : Nat) (d : Device) : exposures (readSample channel d).1 = exposures d := by
  unfold readSample
  split
  · rfl
  · rfl

theorem amendChannel_exposures (channel : Nat) (a : ChannelAmend) (d : Device) :
    exposures (amendChannel channel a d).1 = exposures d := by
  unfold amendChannel
  split
  · rfl
  · refine ite_exposures rfl (ite_exposures rfl ?_)
    simp only [okay]
    split
    · rfl
    · rfl

theorem amendInput_exposures (input level : Nat) (d : Device) : exposures (amendInput input level d).1 = exposures d := by
  unfold amendInput
  split
  next i l _ _ => exact judgeInput_exposures i false _
  · rfl

/-! ### Resets, saving, the port -/

/-- R136: a warm reset keeps the accumulators. -/
theorem warmReset_exposures (d : Device) : exposures d.warmReset = exposures d := funext fun z => by
  show d.warmReset.zones[z].exposure = d.zones[z].exposure
  rw [warmReset_zone]
  rfl

/-- R136: and the start-up that follows it does. -/
theorem warmStart_exposures (d : Device) : exposures d.warmReset.beginWarm = exposures d :=
  (checkDue_exposures 1 _).trans ((checkDue_exposures 0 _).trans
    ((takeFrom_exposures _ d.warmReset).trans (warmReset_exposures d)))

theorem resetPin_exposures (s : State) : exposures s.resetPin.dev = exposures s.dev := by
  unfold State.resetPin
  split
  · rfl
  · exact warmReset_exposures s.dev

theorem resetRelease_exposures (s : State) : exposures s.resetRelease.dev = exposures s.dev := by
  unfold State.resetRelease
  split
  · exact warmStart_exposures s.dev
  · rfl

theorem restartTimeout_exposures (s : State) : exposures s.restartTimeout.dev = exposures s.dev := by
  unfold State.restartTimeout
  split
  · rfl
  next due _ => exact warmStart_exposures (s.dev.reach due)

theorem fetch_exposures (n : Nat) (s : State) : exposures (s.fetch n).dev = exposures s.dev := by
  simp only [State.fetch]
  split
  · split
    · exact warmStart_exposures s.dev
    · rfl
  · rfl

theorem secondTick_exposures (s : State) : exposures s.secondTick.dev = exposures s.dev := by
  unfold State.secondTick
  split
  · rfl
  · rfl

theorem pageWritten_exposures (acknowledged : Bool) (s : State) :
    exposures (s.pageWritten acknowledged).dev = exposures s.dev := by
  unfold State.pageWritten
  split
  · rfl
  split
  · rfl
  split
  · simp only [State.pageDone]
    split
    · rfl
    · rfl
  · unfold State.pageFailed
    split
    · rfl
    · rfl

theorem saveRetry_exposures (s : State) : exposures s.saveRetry.dev = exposures s.dev := by
  unfold State.saveRetry
  split
  · rfl
  split
  · rfl
  · rfl

theorem takeSave_exposures (s : State) : exposures (takeSave s).1.dev = exposures s.dev := by
  unfold takeSave
  split
  · rfl
  · rfl

/-! ### Every command -/

/-- R136: no command but a power-on, the end of start-up and a zone's minute touches an accumulator. -/
theorem exec_exposures {c : Instr} (power : c ≠ .powerOn) (startup : ∀ b, c ≠ .startupEnd b)
    (minute : ∀ z, c ≠ .zoneMinuteTimer z) (s : State) :
    ∃ t, exec c s = .next t ∧ exposures t.dev = exposures s.dev := by
  cases c with
  | readLane form lane => exact ⟨_, rfl, request_exposures (readLane_exposures form lane s.dev)⟩
  | findProduct code => exact ⟨_, rfl, query_exposures _ s⟩
  | enrolLane lane g => exact ⟨_, rfl, request_exposures (enrolLane_exposures lane g s.dev)⟩
  | amendLane lane a => exact ⟨_, rfl, request_exposures (amendLane_exposures lane a s.dev)⟩
  | restockLane lane stock => exact ⟨_, rfl, request_exposures (restockLane_exposures lane stock s.dev)⟩
  | checkLane lane => exact ⟨_, rfl, request_exposures (checkLane_exposures lane s.dev)⟩
  | retireLane lane => exact ⟨_, rfl, request_exposures (retireLane_exposures lane s.dev)⟩
  | readDrive => exact ⟨_, rfl, query_exposures _ s⟩
  | amendDrive a => exact ⟨_, rfl, request_exposures (ite_exposures rfl rfl)⟩
  | placeOrder p => exact ⟨_, rfl, request_exposures (placeOrder_exposures p s.dev)⟩
  | readOrder tag => exact ⟨_, rfl, query_exposures _ s⟩
  | readQueue => exact ⟨_, rfl, query_exposures _ s⟩
  | retireOrder tag => exact ⟨_, rfl, request_exposures (retireOrder_exposures tag s.dev)⟩
  | holdQueue => exact ⟨_, rfl, request_exposures rfl⟩
  | resumeQueue => exact ⟨_, rfl, request_exposures ((takeFrom_exposures _ _).trans (startHead_exposures _))⟩
  | haltDrive => exact ⟨_, rfl, request_exposures (haltDrive_exposures s.dev)⟩
  | resumeDrive => exact ⟨_, rfl, request_exposures (resumeDrive_exposures s.dev)⟩
  | skipOrder tag => exact ⟨_, rfl, request_exposures (skipOrder_exposures tag s.dev)⟩
  | clearQueue => exact ⟨_, rfl, request_exposures (clearQueue_exposures s.dev)⟩
  | readCredit => exact ⟨_, rfl, query_exposures _ s⟩
  | amendCreditLimit m => exact ⟨_, rfl, request_exposures (amendCreditLimit_exposures m s.dev)⟩
  | refund => exact ⟨_, rfl, request_exposures (takeRefund_exposures s.dev)⟩
  | readClass => exact ⟨_, rfl, query_exposures _ s⟩
  | amendClass k a => exact ⟨_, rfl, request_exposures (amendClass_exposures k a s.dev)⟩
  | readCashbox => exact ⟨_, rfl, query_exposures _ s⟩
  | clearCashbox => exact ⟨_, rfl, request_exposures rfl⟩
  | readTube => exact ⟨_, rfl, query_exposures _ s⟩
  | amendTube tube a => exact ⟨_, rfl, request_exposures (amendTube_exposures tube a s.dev)⟩
  | setTubeCount tube n => exact ⟨_, rfl, request_exposures (setTubeCount_exposures tube n s.dev)⟩
  | dispense tube n => exact ⟨_, rfl, request_exposures (dispense_exposures tube n s.dev)⟩
  | readPayout => exact ⟨_, rfl, query_exposures _ s⟩
  | amendPayout a => exact ⟨_, rfl, request_exposures (ite_exposures rfl rfl)⟩
  | readLink => exact ⟨_, rfl, query_exposures _ s⟩
  | amendLink a => exact ⟨_, rfl, request_exposures (ite_exposures rfl rfl)⟩
  | readZone zone => exact ⟨_, rfl, query_exposures _ s⟩
  | amendZone zone a => exact ⟨_, rfl, request_exposures (amendZone_exposures zone a s.dev)⟩
  | startDefrost zone => exact ⟨_, rfl, request_exposures (startDefrost_exposures zone s.dev)⟩
  | readCompressor => exact ⟨_, rfl, query_exposures _ s⟩
  | amendCompressor a => exact ⟨_, rfl, request_exposures (ite_exposures rfl rfl)⟩
  | clearLockout => exact ⟨_, rfl, request_exposures (ite_exposures (leaveRest_exposures _) rfl)⟩
  | readSample k => exact ⟨_, rfl, request_exposures (readSample_exposures k s.dev)⟩
  | scanNow => exact ⟨_, rfl, request_exposures (ite_exposures rfl rfl)⟩
  | amendChannel k a => exact ⟨_, rfl, request_exposures (amendChannel_exposures k a s.dev)⟩
  | amendScan p => exact ⟨_, rfl, request_exposures (ite_exposures rfl rfl)⟩
  | readInputs => exact ⟨_, rfl, query_exposures _ s⟩
  | amendInput i l => exact ⟨_, rfl, request_exposures (amendInput_exposures i l s.dev)⟩
  | readLoad => exact ⟨_, rfl, query_exposures _ s⟩
  | amendLoad a => exact ⟨_, rfl, request_exposures (amendLoad_exposures a s.dev)⟩
  | readConditions => exact ⟨_, rfl, takeRequest_exposures rfl⟩
  | clearConditions m => exact ⟨_, rfl, request_exposures rfl⟩
  | amendMask m => exact ⟨_, rfl, request_exposures rfl⟩
  | saveImage => exact ⟨_, rfl, takeRequest_exposures (takeSave_exposures s)⟩
  | restart => exact ⟨_, rfl, takeRequest_exposures rfl⟩
  | readIdentity => exact ⟨_, rfl, takeRequest_exposures rfl⟩
  | badFrame b => exact ⟨_, rfl, request_exposures rfl⟩
  | unknownRequest b => exact ⟨_, rfl, request_exposures rfl⟩
  | fetchReply n => exact ⟨_, rfl, fetch_exposures n s⟩
  | requestDiscarded b => exact ⟨_, rfl, rfl⟩
  | powerOn => exact absurd rfl power
  | resetPin => exact ⟨_, rfl, resetPin_exposures s⟩
  | resetRelease => exact ⟨_, rfl, resetRelease_exposures s⟩
  | restartTimeout => exact ⟨_, rfl, restartTimeout_exposures s⟩
  | startupEnd b => exact absurd rfl (startup b)
  | secondTick => exact ⟨_, rfl, secondTick_exposures s⟩
  | savePageWritten b => exact ⟨_, rfl, pageWritten_exposures b s⟩
  | saveRetryTimer => exact ⟨_, rfl, saveRetry_exposures s⟩
  | camLineEdge l => exact ⟨_, rfl, skip_exposures rfl⟩
  | camConfirm => exact ⟨_, rfl, event_exposures (onExpiry_exposures fun due => camSeen_exposures due _ _)⟩
  | departureTimeout => exact ⟨_, rfl, event_exposures (onExpiry_exposures fun _ => unitFault_exposures .jam _)⟩
  | turnTimerExpiry => exact ⟨_, rfl, event_exposures (onExpiry_exposures fun _ => unitFault_exposures .jam _)⟩
  | beamBreak => exact ⟨_, rfl, event_exposures (beamBreak_exposures s.dev)⟩
  | dropWindowExpiry => exact ⟨_, rfl, event_exposures (onExpiry_exposures fun _ => windowExpired_exposures _)⟩
  | fitPulseEnd => exact ⟨_, rfl, event_exposures (onExpiry_exposures fun _ => pulseEnded_exposures _)⟩
  | linkSlot => exact ⟨_, rfl, event_exposures (onExpiry_exposures fun _ => openSlot_exposures _)⟩
  | identifyTimer => exact ⟨_, rfl, event_exposures (identifyExpiry_exposures s.dev)⟩
  | linkFrame b e => exact ⟨_, rfl, event_exposures (linkFrame_exposures b e s.dev)⟩
  | linkReplyTimeout => exact ⟨_, rfl, event_exposures (linkReplyTimeout_exposures s.dev)⟩
  | coinTimeout => exact ⟨_, rfl, event_exposures (coinTimeout_exposures s.dev)⟩
  | pulseOnEnd => exact ⟨_, rfl, event_exposures (onExpiry_exposures fun _ => rfl)⟩
  | pulseGapEnd => exact ⟨_, rfl, event_exposures (onExpiry_exposures fun _ => tryPulse_exposures _)⟩
  | chuteWindowClose => exact ⟨_, rfl, event_exposures (chuteWindowClose_exposures s.dev)⟩
  | chuteCount => exact ⟨_, rfl, event_exposures (chuteCount_exposures s.dev)⟩
  | sinceDefrostTimer z => exact ⟨_, rfl, event_exposures (sinceExpiry_exposures z s.dev)⟩
  | defrostTimer z => exact ⟨_, rfl, event_exposures (defrostExpiry_exposures z s.dev)⟩
  | dripTimer z => exact ⟨_, rfl, event_exposures (dripExpiry_exposures z s.dev)⟩
  | zoneMinuteTimer z => exact absurd rfl (minute z)
  | restTimer => exact ⟨_, rfl, event_exposures (onExpiry_exposures fun _ => leaveRest_exposures _)⟩
  | startTimer => exact ⟨_, rfl, event_exposures (startTimer_exposures s.dev)⟩
  | confirmLineEdge l => exact ⟨_, rfl, skip_exposures rfl⟩
  | confirmChange => exact ⟨_, rfl, event_exposures (onExpiry_exposures fun _ => confirmActs_exposures _ _ _)⟩
  | runTimer => exact ⟨_, rfl, event_exposures (onExpiry_exposures fun _ => (stopIfMet_steady _).exposures)⟩
  | fanRunonTimer => exact ⟨_, rfl, onExpiry_exposures fun _ => rfl⟩
  | periodTimer => exact ⟨_, rfl, event_exposures (onExpiry_exposures fun _ => rfl)⟩
  | priorityTimer => exact ⟨_, rfl, event_exposures (onExpiry_exposures fun _ => rfl)⟩
  | conversionEnd r => exact ⟨_, rfl, event_exposures (conversionEnd_exposures r s.dev)⟩
  | inputLineEdge i l => exact ⟨_, rfl, skip_exposures rfl⟩
  | inputChange i => exact ⟨_, rfl, event_exposures (onExpiry_exposures fun _ => judgeInput_exposures i _ _)⟩
  | linkFirstByte => exact ⟨_, rfl, event_exposures rfl⟩

theorem exec_grows {c : Instr} (power : c ≠ .powerOn) (startup : ∀ b, c ≠ .startupEnd b) (s : State) :
    ∃ t, exec c s = .next t ∧ ExposureGrows s.dev t.dev := by
  by_cases minute : ∃ z, c = .zoneMinuteTimer z
  · obtain ⟨z, rfl⟩ := minute
    exact ⟨_, rfl, event_grows (minuteExpiry_grows z s.dev)⟩
  · obtain ⟨t, runs, same⟩ := exec_exposures power startup (not_exists.1 minute) s
    exact ⟨t, runs, .of_same same⟩

/-- Settles O13: a zone's minute adds to its own accumulator, up to the top of its range, and the rest touch none. -/
theorem exposureNeverFalls : Obligations.ExposureNeverFalls := by
  intro c s t power startup sound h
  obtain ⟨u, runs, grows⟩ := exec_grows power startup s
  obtain rfl := Host.Outcome.next.inj (runs.symm.trans h)
  exact ⟨fun z => (grows z (sound z)).2, fun z => (grows z (sound z)).1⟩

end Sys2Proof.Proofs
end
